-- ==== Sys2Proof/Word.lean ====
section
/-! DEFINITION. The words, masks and day sets the CW418 handles as bits. -/

namespace Sys2Proof

/-- One byte of a block, frame, message or image. -/
abbrev Byte := BitVec 8

/-- One word of the station port. -/
abbrev Word := BitVec 16

/-- A set of season days 0 to 239: bit d stands for day d, as in a 30-byte day map (Formats). -/
abbrev DaySet := BitVec 240

/-- The day map of a DAY MERGE entry, days 0 to 255 (R141). -/
abbrev MergeMap := BitVec 256

/-- A lane number, 0 to 7. -/
abbrev LaneNo := Fin 8

/-- A tally counter number, 0 to 11. -/
abbrev CounterNo := Fin 12

/-- A set of lanes: bit n for lane n. -/
abbrev LaneMask := BitVec 8

/-- A set of rider classes: bit n for class code n. -/
abbrev ClassMask := BitVec 4

/-- A set of record states: bit n for state code n. -/
abbrev StateMask := BitVec 4

/-- A set of tally counters: bit n for counter n. -/
abbrev CounterMask := BitVec 12

/-- A set of refusal reasons: bit n for reason code n. -/
abbrev ReasonMask := BitVec 13

end Sys2Proof
end

