-- ==== Sys2Proof/Syntax.lean ====
section
/-! DEFINITION. The commands of the CW418: one constructor for each row of spec/opcode_table.json. -/

namespace Sys2Proof

/-- The two masters that send requests (R171). -/
inductive Origin where
  | station
  | office
  deriving DecidableEq, Repr

/-- Where a CLOCK SET or REVOKE LOAD came from: an origin's own request, or a broadcast (R174). -/
inductive Source where
  | own (o : Origin)
  | broadcast
  deriving DecidableEq, Repr

/-- The two passage beams of a lane. -/
inductive Beam where
  | entry
  | exit
  deriving DecidableEq, Repr

/-- The blocks that raise notices to the request decoder (R183). -/
inductive Raiser where
  | laneController
  | tallyUnit
  | settlementUnit
  | officeLink
  | tableEngine
  deriving DecidableEq, Repr

/-- The commands. Request rows name the origin whose request their owner takes; the arguments stand in the request
block that REQUEST WINDOW or a REQUEST frame brought (log entry 5). -/
inductive Instr where
  /-- COLD_RESET, with the levels of the two straps as latched (R26, R189). -/
  | coldReset (eightLanes spi : Bool)
  /-- WARM_RESET, with the levels of the two straps as latched (R27, R189). -/
  | warmReset (eightLanes spi : Bool)
  | operatingSecondAdvance
  | rollover
  | intervalClose
  | clockSet (src : Source)
  | clockRead (o : Origin)
  | presence (lane : LaneNo)
  /-- A PRESENTATION that passed its check, with its fields as carried. -/
  | presentation (lane : LaneNo) (pass : BitVec 32) (media status attempt : Byte)
  /-- A burst from a reader, as received (Formats, Reader messages). -/
  | discardedReaderMessage (lane : LaneNo) (burst : List Byte)
  | readerSilence (lane : LaneNo)
  /-- The settled levels of the beam inputs: a set bit is a BROKEN beam. -/
  | beamSettle (entryBroken exitBroken : LaneMask)
  | beamBreak (lane : LaneNo) (beam : Beam)
  | beamRestore (lane : LaneNo) (beam : Beam)
  | passageWindowExpiry (lane : LaneNo)
  | passingLimitExpiry (lane : LaneNo)
  | missWaitExpiry (lane : LaneNo)
  | toneEnd (lane : LaneNo)
  | lampBlink (lane : LaneNo)
  | decisionClaim (lane : LaneNo)
  | commitClaim (lane : LaneNo)
  | withdrawClaim (lane : LaneNo)
  | lapseTimerExpiry
  | lapseClaim
  | sweepStep
  | clearStep
  | passFindStep (o : Origin)
  | dayMergeEntry (o : Origin)
  | passInsert (o : Origin)
  | passRead (o : Origin)
  | passDrop (o : Origin)
  | passFind (o : Origin)
  | tableSize (o : Origin)
  | tableClear (o : Origin)
  | dayMerge (o : Origin)
  | revokeLoad (src : Source)
  | revokeRead (o : Origin)
  | refundHold (o : Origin)
  | refundSettle (o : Origin)
  | refundRelease (o : Origin)
  | holdListRead (o : Origin)
  | usageCollect (o : Origin)
  | usageConfirm (o : Origin)
  | laneOpen (o : Origin)
  | laneClose (o : Origin)
  | laneReset (o : Origin)
  | laneStatus (o : Origin)
  | pacingStart (lane : LaneNo)
  | pacingEnd (lane : LaneNo)
  /-- The tally unit takes the first event of the batch at this place among the batches that wait (R149). -/
  | tallyEvent (batch : Nat)
  | tallyProgram (o : Origin)
  | tallyRead (o : Origin)
  | tallyClear (o : Origin)
  | historyRead (o : Origin)
  /-- The decoder takes the first message of this block, a notice (R183). -/
  | noticePlacement (raiser : Raiser)
  | missNoticeRemoval
  | profileSet (o : Origin)
  | profileRead (o : Origin)
  | watchSet (o : Origin)
  | readyCheck (o : Origin)
  | conditionRead (o : Origin)
  | markWarm (o : Origin)
  | linkOpen (o : Origin)
  | linkClose (o : Origin)
  | linkStatus (o : Origin)
  /-- A write of port control with REQUEST set; the other bits as written (R194). -/
  | request (control : Word)
  | requestWindow (word : Word)
  | outputWindow
  /-- A write of port control with OUTPUT TAKEN set. -/
  | outputTaken (control : Word)
  /-- A write of port control with ABORT set. -/
  | abort (control : Word)
  /-- A write of port control with ERROR CLEAR set. -/
  | errorClear (control : Word)
  /-- A write of word 2 or word 3. -/
  | ignoredWrite (word : BitVec 2) (value : Word)
  /-- An SPI transfer of fewer than three bytes. -/
  | shortTransfer
  /-- An SPI transfer with this command byte, one of bits 6 to 2 set. -/
  | badCommandByte (command : Byte)
  /-- A change of the line-ready pin to this level. -/
  | lineReady (high : Bool)
  | carrier (high : Bool)
  | clearToSend (high : Bool)
  | startTimerExpiry
  | fadeTimerExpiry
  | dropShortExpiry
  | dropLongExpiry
  | lineDropAtLanes
  | collectionVoid
  /-- A REQUEST frame addressed to this lift that passed R203, with its body. -/
  | requestFrame (body : List Byte)
  /-- A REQUEST frame addressed to 255 that passed R203, with its body. -/
  | broadcast (body : List Byte)
  /-- An ABORT frame addressed to this lift that passed R203. -/
  | abortFrame
  /-- The bytes received between two flags, escapes not yet undone (R203). -/
  | frameDiscarded (received : List Byte)
  | frameSent
  /-- An ABORT frame addressed to 255 that passed R203. -/
  | broadcastAbort
  deriving DecidableEq, Repr

end Sys2Proof
end

