-- ==== Sys2Proof/WellFormed.lean ====
section
/-! DEFINITION. When a command can be what its row says: a check for each command whose operands the row itself bounds. -/

namespace Sys2Proof

/-- The data length a request block's bytes 2 and 3 announce (Formats, Request block). -/
def announcedLength (body : List Byte) : Nat := (body.getD 2 0).toNat + 256 * (body.getD 3 0).toNat

/-- A REQUEST body that passed R203: a 16-byte block and the data phase it announces, at most 8208 bytes. -/
def wellFormedBody (body : List Byte) : Bool :=
  decide (16 ≤ body.length) && decide (body.length ≤ 8208) && body.length == 16 + announcedLength body

/-- Whether a command is well formed: a REQUEST frame's body has its form (R203), an ignored write goes to word 2 or 3, a bad
command byte has one of bits 6 to 2 set (R189), the bytes between two flags hold no flag (R203), a port control write has its
row's bit set (R194). -/
def Instr.wellFormed : Instr → Bool
  | .requestFrame body | .broadcast body => wellFormedBody body
  | .ignoredWrite word _ => word == 2 || word == 3
  | .badCommandByte command => command &&& 0x7C#8 != 0
  | .frameDiscarded received => received.all (· != 0x7E)
  | .request w => w.getLsbD 0
  | .abort w => w.getLsbD 1
  | .outputTaken w => w.getLsbD 2
  | .errorClear w => w.getLsbD 3
  | _ => true

end Sys2Proof
end

