-- ==== Sys2Proof/Config.lean ====
section
/-! DEFINITION. What the spec leaves open for the part as a whole: the free values. -/

namespace Sys2Proof

/-- The timebase after it has counted past its 40 bits. R28 only says that the bound is not reached in 34 years.
A free value: no body, so nothing can be proved of it but that it is a 40-bit value. Log entry 4. -/
opaque Config.timebasePastBound : Nat → BitVec 40

end Sys2Proof
end

