-- ==== Sys2Proof/Machine/State.lean ====
section
/-! DEFINITION. Everything the spec lets the CW418 hold, as plain data, and its values right after a cold reset. -/

namespace Sys2Proof.Machine

/-- The faults that stop the machine. The spec describes none: no command stops the part, so the type has no constructor. -/
inductive Fault where
  deriving DecidableEq, Repr

/-- The refusals. -/
inductive Refusal where
  /-- Raised by exec for a command that has no meaning yet; no arm uses it. Safe: nothing can be proved past it. -/
  | notModelled (mnemonic : String)
  deriving DecidableEq, Repr

/-! ## Pass records (R1) -/

inductive PassClass where
  | adult
  | child
  | senior
  | staff
  deriving DecidableEq, Repr

inductive PassKind where
  | days
  | season
  deriving DecidableEq, Repr

inductive RecordState where
  | active
  | held
  | settled
  | revoked
  deriving DecidableEq, Repr

/-- A pair (season day, operating second). -/
structure Stamp where
  day : Nat
  second : Nat
  deriving DecidableEq, Repr

/-- The last passage of a record (R1). -/
structure Passage where
  at_ : Stamp
  lane : LaneNo
  deriving DecidableEq, Repr

/-- A pass record, with the fields of R1. -/
structure PassRecord where
  pass : Nat
  cls : PassClass
  kind : PassKind
  entitled : Nat
  first : Nat
  last : Nat
  used : DaySet
  unreported : DaySet
  state : RecordState
  inFlight : Option LaneNo
  lastPassage : Option Passage
  ridesSeason : Nat
  ridesToday : Nat
  holdLapsed : Bool
  deriving DecidableEq, Repr

/-! ## Requests as the decoder hands them on (Formats, Request code list) -/

/-- The arguments of PASS INSERT, as carried. -/
structure InsertArgs where
  pass : Nat
  cls : Nat
  kind : Nat
  entitled : Nat
  first : Nat
  last : Nat
  used : DaySet
  deriving DecidableEq, Repr

/-- The arguments of PASS FIND (R20), as carried. -/
structure FindArgs where
  invert : Bool
  start : Nat
  count : Nat
  states : StateMask
  classes : ClassMask
  kind : Nat
  minRefundable : Nat
  unreported : Bool
  usedToday : Bool
  deriving DecidableEq, Repr

/-- One entry of a DAY MERGE (R141). -/
structure MergeEntry where
  pass : Nat
  days : MergeMap
  deriving DecidableEq, Repr

inductive MergeOutcome where
  | merged
  | notResident
  | badArgument
  deriving DecidableEq, Repr

/-- What the answer to a DAY MERGE says of one entry (R144). -/
structure MergeResult where
  pass : Nat
  outcome : MergeOutcome
  added : Nat
  overdrawn : Bool
  state : Option RecordState
  deriving DecidableEq, Repr

/-- The arguments of REVOKE LOAD (R97). -/
structure LoadArgs where
  merge : Bool
  count : Nat
  entries : List Nat
  deriving DecidableEq, Repr

/-- The arguments of CLOCK SET (R34). -/
structure ClockSetArgs where
  day : Nat
  second : Nat
  lastDay : Nat
  deriving DecidableEq, Repr

/-- One pair of a PROFILE SET (R180). -/
structure ProfilePair where
  code : Nat
  lane : Nat
  value : Nat
  deriving DecidableEq, Repr

/-- A request that has passed the decoder's checks, with the arguments of its block and data phase. -/
inductive Request where
  | passInsert (a : InsertArgs)
  | passRead (pass : Nat)
  | passDrop (pass : Nat)
  | passFind (a : FindArgs)
  | tableSize
  | tableClear
  | dayMerge (count : Nat) (entries : List MergeEntry)
  | revokeLoad (a : LoadArgs)
  | revokeRead (start count : Nat)
  | refundHold (pass : Nat)
  | refundSettle (pass refunded : Nat)
  | refundRelease (pass : Nat)
  | holdListRead
  | usageCollect (count : Nat)
  | usageConfirm (tag : Nat) (discard : Bool)
  | laneOpen (mask : LaneMask)
  | laneClose (mask : LaneMask)
  | laneReset (mask : LaneMask)
  | laneStatus (mask : LaneMask)
  | watchSet (lanes : LaneMask) (counters : CounterMask) (link : Bool)
  | clockSet (a : ClockSetArgs)
  | clockRead
  | profileSet (count : Nat) (pairs : List ProfilePair)
  | profileRead
  | tallyProgram (counter : Nat) (program : List Byte)
  | tallyRead (mask : CounterMask)
  | tallyClear (mask : CounterMask)
  | historyRead (count : Nat) (peek : Bool)
  | linkOpen (address rate source mode : Nat)
  | linkClose
  | linkStatus
  | readyCheck
  | conditionRead
  | markWarm
  deriving DecidableEq, Repr

/-! ## Answers and conditions (R176 to R178) -/

inductive Status where
  | complete
  | found
  | failed
  | busy
  deriving DecidableEq, Repr

inductive ConditionClass where
  | request
  | state
  | resource
  | line
  deriving DecidableEq, Repr

inductive ConditionCode where
  | invalidField
  | notPermitted
  | badArgument
  | badList
  | notResident
  | tableFull
  | holdListFull
  | listFull
  | heldByOther
  | double
  | noHold
  | holdLapsed
  | settled
  | revoked
  | unreported
  | notReady
  | outOfSequence
  | aborted
  | noCollection
  | collectionOpen
  | lineDown
  deriving DecidableEq, Repr

inductive FieldKind where
  | block
  | data
  | item
  | entry
  deriving DecidableEq, Repr

/-- The field at fault: its kind and index. -/
structure FieldRef where
  kind : FieldKind
  index : Nat
  deriving DecidableEq, Repr

/-- A condition record (R177); its class follows from its code (R178). -/
structure Condition where
  code : ConditionCode
  requestCode : Nat
  pass : Option Nat
  field : Option FieldRef
  deriving DecidableEq, Repr

/-- An answer: the code of the request answered, the status, the condition of a FAILED answer, the answer data. -/
structure Answer where
  requestCode : Nat
  status : Status
  condition : Option Condition
  data : List Byte
  deriving DecidableEq, Repr

/-! ## Clock (R28) -/

inductive ClockState where
  | unset
  | running
  | ended
  deriving DecidableEq, Repr

structure Clock where
  state : ClockState
  day : Nat
  second : Nat
  phase : Nat
  lastDay : Nat
  timebase : Nat
  /-- Broadcast CLOCK SETs handed to the clock and not yet taken, oldest first (R174). -/
  broadcasts : List ClockSetArgs
  deriving DecidableEq, Repr

/-! ## Table engine (R8, R9, R12, R24, R96, R102) -/

structure Sweep where
  running : Bool
  position : Option Nat
  revokedCount : Nat
  restoredCount : Nat
  deriving DecidableEq, Repr

/-- A TABLE CLEAR in progress: the records removed so far, and whether it was left by a warm reset with no request
behind it (R27). -/
structure Clear where
  removed : Nat
  orphan : Bool
  deriving DecidableEq, Repr

/-- A claim of the office that waits: its own request's next claim, or a broadcast REVOKE LOAD (R12). -/
inductive OfficeClaim where
  | own
  | broadcastLoad (a : LoadArgs)
  deriving DecidableEq, Repr

structure Table where
  /-- The resident records in the sorted index's order (R8). -/
  records : List PassRecord
  /-- The recency list, most recent first (R9). -/
  recency : List Nat
  /-- The revocation list (R96). -/
  revoked : List Nat
  generation : Nat
  sweep : Sweep
  clear : Option Clear
  lastLane : LaneNo
  lastOrigin : Origin
  officeClaims : List OfficeClaim
  deriving DecidableEq, Repr

/-! ## Settlement unit (R109, R121, R131, R133) -/

inductive HoldPhase where
  | pending
  | held
  deriving DecidableEq, Repr

/-- An entry of the hold list (R109). -/
structure HoldEntry where
  pass : Nat
  owner : Origin
  phase : HoldPhase
  deadline : Option Nat
  placedAt : Nat
  deriving DecidableEq, Repr

/-- An entry of a usage collection (R133). -/
structure CollectionEntry where
  pass : Nat
  carried : DaySet
  void : Bool
  deriving DecidableEq, Repr

structure Collection where
  tag : Nat
  entries : List CollectionEntry
  deriving DecidableEq, Repr

structure Settlement where
  holds : List HoldEntry
  /-- The pass named by the lapse claim that waits (R121). -/
  lapseClaim : Option Nat
  /-- The report queue, head first (R131). -/
  queue : List Nat
  collection : Option Collection
  lastTag : Nat
  /-- Entries of the line into DROPPING that the unit has been told of and has not taken (R140). -/
  drops : Nat
  deriving DecidableEq, Repr

/-! ## Lane controller (R44 to R50, R80, R82) -/

inductive LaneState where
  | closed
  | ready
  | deciding
  | waiting
  | released
  | passing
  | paused
  | closing
  | fault
  deriving DecidableEq, Repr

inductive LaneCondition where
  | none
  | tailgate
  | reverse
  | stuck
  | readerSilent
  | readFault
  deriving DecidableEq, Repr

/-- A fault met during an admission (R47). -/
inductive FaultMark where
  | tailgate
  | reverse
  | stuck
  | readerSilent
  deriving DecidableEq, Repr

inductive Media where
  | card
  | ticket
  deriving DecidableEq, Repr

inductive ReadStatus where
  | good
  | corrected
  | fault
  deriving DecidableEq, Repr

inductive Level where
  | clear
  | broken
  deriving DecidableEq, Repr

structure Presentation where
  pass : Nat
  media : Media
  status : ReadStatus
  attempt : Nat
  deriving DecidableEq, Repr

inductive AdmissionPhase where
  | released
  | passing
  deriving DecidableEq, Repr

/-- The admission record of a lane (R80). -/
structure Admission where
  pass : Nat
  day : Nat
  consume : Bool
  release : Nat
  phase : AdmissionPhase
  deriving DecidableEq, Repr

/-- The miss record of a lane (R82). -/
structure Miss where
  pass : Nat
  start : Nat
  deriving DecidableEq, Repr

inductive Ending where
  | none
  | commit
  | withdraw
  deriving DecidableEq, Repr

/-- The thirteen refusal reasons (R148). -/
inductive Reason where
  | readFault
  | cls
  | revoked
  | inFlight
  | notFound
  | held
  | settled
  | seasonEnded
  | notYetValid
  | expired
  | passback
  | noDays
  | laneClosing
  deriving DecidableEq, Repr

/-- The verdict kinds with their figures (R50). A SEASON pass has no days-left figure. -/
inductive VerdictKind where
  | admitted (daysLeft : Option Nat) (ridesToday : Nat)
  | refuse (reason : Reason)
  | wait
  | reread
  | closed
  deriving DecidableEq, Repr

structure Verdict where
  pass : Nat
  kind : VerdictKind
  deriving DecidableEq, Repr

/-- A report of the tally unit to a lane: its pacing starts or ends (R154). -/
inductive PacingReport where
  | start
  | stop
  deriving DecidableEq, Repr

/-- One lane machine with its outputs and timers (R47 to R50). A timer that runs holds its deadline. -/
structure Lane where
  state : LaneState
  condition : LaneCondition
  current : Option Presentation
  next : Option Presentation
  admission : Option Admission
  miss : Option Miss
  pause : Bool
  faultMark : Option FaultMark
  exitSeen : Bool
  ending : Ending
  readerPresent : Bool
  entryBeam : Level
  exitBeam : Level
  silence : Option Nat
  window : Option Nat
  limit : Option Nat
  missWait : Option Nat
  /-- The gate release output. -/
  gate : Bool
  /-- Whether a blinking lamp is lit at present, and when it toggles. -/
  lampLit : Bool
  blinkAt : Option Nat
  /-- When the sounding tone ends. -/
  toneAt : Option Nat
  /-- Pacing reports made and not yet taken, oldest first. -/
  pacing : List PacingReport
  /-- The verdicts sent to the reader, oldest first: the model's own record of the reader output (log entry 21). -/
  readerOut : List Verdict
  deriving DecidableEq, Repr

/-- The three lamp outputs of a lane port, true for lit (Chapter 3, The Lane Port). -/
structure Lamps where
  red : Bool
  amber : Bool
  green : Bool
  deriving DecidableEq, Repr

structure LaneController where
  lane : Vector Lane 8
  /-- When the beam filters settle after a reset; the beams are unsettled until then (R44). -/
  settleAt : Option Nat
  /-- Entries of the line into DROPPING that the controller has been told of and has not taken (R86). -/
  drops : Nat
  deriving DecidableEq, Repr

/-! ## Tally unit (R147 to R162) -/

inductive EventKind where
  | passage
  | dayConsumed
  | withdrawn
  | refused
  | tailgate
  | reverse
  | stuck
  | readFault
  | missSent
  | missExpired
  | frameBad
  | holdPlaced
  | settled
  deriving DecidableEq, Repr

/-- An event handed to the tally unit, with what it carries (R148, R149). -/
structure Event where
  kind : EventKind
  lane : Option LaneNo
  cls : Option PassClass
  reason : Option Reason
  deriving DecidableEq, Repr

inductive TallyAction where
  | none
  | notice
  | pace
  deriving DecidableEq, Repr

/-- A counter's program (R148). Event kind NONE is an absent kind; arm source FREE is an absent counter. -/
structure Program where
  kind : Option EventKind
  lanes : LaneMask
  classes : ClassMask
  reasons : ReasonMask
  threshold : Nat
  action : TallyAction
  freeze : Bool
  armSource : Option CounterNo
  interval : Bool
  history : Bool
  deriving DecidableEq, Repr

structure Counter where
  value : Nat
  crossed : Bool
  crossedAt : Option Stamp
  armed : Bool
  program : Program
  deriving DecidableEq, Repr

inductive Boundary where
  | second (n : Nat)
  | rollover
  deriving DecidableEq, Repr

/-- An interval record (R160). -/
structure IntervalRecord where
  close : Stamp
  lived : Nat
  values : List (CounterNo × Nat)
  deriving DecidableEq, Repr

structure Tally where
  counters : Vector Counter 12
  /-- The interval phase: true while OPEN. -/
  phaseOpen : Bool
  length : Nat
  boundary : Boundary
  lived : Nat
  /-- The history ring, oldest first. -/
  ring : List IntervalRecord
  /-- The place in the ring of the record the station's cursor names; the ring's length when caught up. -/
  stationCursor : Nat
  officeCursor : Nat
  /-- Events handed and not yet taken: one batch for each claim or event that handed them, in its order (R149). -/
  inbox : List (List Event)
  deriving DecidableEq, Repr

/-! ## Request decoder (R171, R179, R182 to R186) -/

inductive ReadPolicy where
  | lenient
  | strict
  | notify
  deriving DecidableEq, Repr

/-- The profile (R179), each item in its own unit. -/
structure Profile where
  passback : Nat
  window : Nat
  limit : Nat
  missWait : Nat
  missFetch : Bool
  holdLapse : Nat
  tallyInterval : Nat
  readPolicy : Vector ReadPolicy 8
  laneClasses : Vector ClassMask 8
  insertRight : Bool
  settleRight : Bool
  deriving DecidableEq, Repr

/-- How far the work of a request in flight has come. -/
inductive Stage where
  /-- Handed to its owner, its claim or event not yet taken. -/
  | waiting
  /-- A PASS FIND: the lowest pass number still to be examined, and how many records it may still examine. -/
  | finding (above : Nat) (left : Option Nat)
  /-- A DAY MERGE: the entries still to be dealt with, and the outcomes so far. -/
  | merging (todo : List MergeEntry) (done : List MergeResult)
  /-- A REFUND HOLD placed PENDING on this pass. -/
  | pendingHold (pass : Nat)
  /-- A TABLE CLEAR that has begun. -/
  | clearing
  deriving DecidableEq, Repr

structure InFlight where
  request : Request
  answerable : Bool
  stage : Stage
  deriving DecidableEq, Repr

structure WatchMask where
  lanes : LaneMask
  counters : CounterMask
  link : Bool
  deriving DecidableEq, Repr

/-- The context of one origin (R171). -/
structure Context where
  inFlight : Option InFlight
  condition : Option Condition
  watch : WatchMask
  deriving DecidableEq, Repr

inductive LineState where
  | down
  | armed
  | starting
  | up
  | fading
  | dropping
  deriving DecidableEq, Repr

inductive DropReason where
  | none
  | noCarrier
  | lineReadyLost
  | close
  deriving DecidableEq, Repr

/-- The notices with their content (R183, Formats). -/
inductive Notice where
  | lane (lane : LaneNo) (state : LaneState) (condition : LaneCondition)
  | tally (counter : CounterNo) (action : TallyAction) (value : Nat) (crossedAt : Stamp)
  | lapse (pass : Nat) (state : RecordState) (at_ : Stamp)
  | link (state : LineState) (reason : DropReason)
  | miss (lane : LaneNo) (pass : Nat)
  | sweep (generation revokedCount restoredCount : Nat)
  deriving DecidableEq, Repr

/-- A notice in a notice queue, with its changed-again flag (R184). -/
structure QueuedNotice where
  notice : Notice
  changedAgain : Bool
  deriving DecidableEq, Repr

/-- What the lane controller sends the decoder: a notice, or the request to remove a lane's MISS notice (R83). -/
inductive LaneMsg where
  | notice (n : Notice)
  | removeMiss (lane : LaneNo)
  deriving DecidableEq, Repr

/-- A LAPSE notice raised, with the hold's owner it goes to (R123). -/
structure OwnedNotice where
  owner : Origin
  notice : Notice
  deriving DecidableEq, Repr

structure Decoder where
  station : Context
  office : Context
  profile : Profile
  warmMarker : Bool
  tableRetained : Bool
  /-- Messages raised by each block and not yet taken, oldest first (R183). -/
  laneMsgs : List LaneMsg
  tallyMsgs : List Notice
  settlementMsgs : List OwnedNotice
  linkMsgs : List Notice
  tableMsgs : List Notice
  deriving DecidableEq, Repr

/-! ## Station port (R189, R190) -/

/-- What the output window presents. -/
inductive OutItem where
  | answer (a : Answer)
  | notice (q : QueuedNotice)
  deriving DecidableEq, Repr

structure OutWindow where
  item : OutItem
  /-- The number of words already read. -/
  position : Nat
  deriving DecidableEq, Repr

structure Port where
  eightLanes : Bool
  spi : Bool
  /-- The request side: true while FILLING. -/
  filling : Bool
  grantPending : Bool
  fill : List Byte
  target : Nat
  answers : List Answer
  window : Option OutWindow
  protocolError : Bool
  queue : List QueuedNotice
  /-- The word given by the last read of the output window. -/
  readData : Word
  deriving DecidableEq, Repr

/-! ## Office link (R197, R205) -/

/-- An answer in the office answer list; `taken` says that it answers a request that was taken (R172, R205). -/
structure OfficeAnswer where
  answer : Answer
  taken : Bool
  deriving DecidableEq, Repr

structure Link where
  state : LineState
  closePending : Bool
  lastReason : DropReason
  address : Nat
  rate : Nat
  /-- The clock source: true for LINE. -/
  lineClock : Bool
  /-- The control mode: true for DATA ONLY. -/
  dataOnly : Bool
  startTimer : Option Nat
  fadeTimer : Option Nat
  dropShort : Option Nat
  dropLong : Option Nat
  shortPassed : Bool
  /-- The levels at the three input pins. -/
  lineReady : Bool
  carrier : Bool
  clearToSend : Bool
  answers : List OfficeAnswer
  /-- The frames in the two outbound slots, first filled first, each from its address byte to its check. -/
  slots : List (List Byte)
  /-- The transmitter has begun the first slot's frame. -/
  sending : Bool
  queue : List QueuedNotice
  /-- The frames sent, as they stood on the line: the model's own record of the output (log entry 21). -/
  lineOut : List (List Byte)
  deriving DecidableEq, Repr

/-! ## The whole part -/

structure State where
  clock : Clock
  table : Table
  settlement : Settlement
  lanes : LaneController
  tally : Tally
  decoder : Decoder
  port : Port
  link : Link
  pending : List Instr
  deriving DecidableEq, Repr

/-! ## Reset values -/

/-- The clock at cold reset (R41). -/
def Clock.initial : Clock :=
  { state := .unset, day := 0, second := 0, phase := 0, lastDay := 238, timebase := 0, broadcasts := [] }

/-- The table engine at cold reset (R26, R107). -/
def Table.initial : Table :=
  { records := [], recency := [], revoked := [], generation := 0,
    sweep := { running := false, position := none, revokedCount := 0, restoredCount := 0 },
    clear := none, lastLane := 7, lastOrigin := .office, officeClaims := [] }

/-- The settlement unit at cold reset (R127, R146). -/
def Settlement.initial : Settlement :=
  { holds := [], lapseClaim := none, queue := [], collection := none, lastTag := 0, drops := 0 }

/-- A lane as a reset at timebase `now` leaves it, with the given pause mark (R67, R68). The beams are unsettled and
reported BROKEN until they settle (R44). -/
def Lane.initial (now : Nat) (pause : Bool) : Lane :=
  { state := .closed, condition := .none, current := none, next := none, admission := none, miss := none,
    pause := pause, faultMark := none, exitSeen := false, ending := .none, readerPresent := false,
    entryBeam := .broken, exitBeam := .broken, silence := some (now + 3000), window := none, limit := none,
    missWait := none, gate := false, lampLit := true, blinkAt := none, toneAt := none, pacing := [],
    readerOut := [] }

/-- What the model keeps for an absent lane: it holds no lane state, and nothing reads or runs it (R43). -/
def Lane.absent : Lane := { Lane.initial 0 false with silence := none }

/-- The eight lanes at a cold reset with this lane-count strap (R43, R67). -/
def LaneController.initial (eightLanes : Bool) : LaneController :=
  { lane := Vector.ofFn fun l : Fin 8 => if l.val < 4 ∨ eightLanes then Lane.initial 0 false else Lane.absent,
    settleAt := some 50, drops := 0 }

/-- The disabled program (R148). -/
def Program.disabled : Program :=
  { kind := none, lanes := 0, classes := 0, reasons := 0, threshold := 0, action := .none, freeze := false,
    armSource := none, interval := false, history := false }

/-- A counter with the given program, just zeroed (R147). -/
def Counter.zeroed (p : Program) : Counter :=
  { value := 0, crossed := false, crossedAt := none, armed := false, program := p }

/-- The tally unit at cold reset (R169). -/
def Tally.initial : Tally :=
  { counters := Vector.replicate 12 (Counter.zeroed .disabled), phaseOpen := false, length := 900,
    boundary := .second 0, lived := 0, ring := [], stationCursor := 0, officeCursor := 0, inbox := [] }

/-- The profile's defaults (R179). -/
def Profile.initial : Profile :=
  { passback := 5, window := 8, limit := 20, missWait := 1500, missFetch := true, holdLapse := 15,
    tallyInterval := 15, readPolicy := Vector.replicate 8 .lenient, laneClasses := Vector.replicate 8 0xF,
    insertRight := true, settleRight := false }

/-- An origin's context at cold reset (R187). -/
def Context.initial : Context :=
  { inFlight := none, condition := none, watch := { lanes := 0, counters := 0, link := false } }

/-- The request decoder at cold reset (R181, R186, R187). -/
def Decoder.initial : Decoder :=
  { station := .initial, office := .initial, profile := .initial, warmMarker := false, tableRetained := false,
    laneMsgs := [], tallyMsgs := [], settlementMsgs := [], linkMsgs := [], tableMsgs := [] }

/-- The station port after either reset, with the straps it latched (R196). -/
def Port.initial (eightLanes spi : Bool) : Port :=
  { eightLanes := eightLanes, spi := spi, filling := false, grantPending := false, fill := [], target := 16,
    answers := [], window := none, protocolError := false, queue := [], readData := 0 }

/-- The office link at cold reset, its input pins at the given levels (R206). -/
def Link.initial (lineReady carrier clearToSend : Bool) : Link :=
  { state := .down, closePending := false, lastReason := .none, address := 0, rate := 0, lineClock := false,
    dataOnly := false, startTimer := none, fadeTimer := none, dropShort := none, dropLong := none,
    shortPassed := false, lineReady := lineReady, carrier := carrier, clearToSend := clearToSend, answers := [],
    slots := [], sending := false, queue := [], lineOut := [] }

/-- The part right after a cold reset with these straps and line input levels, with these commands waiting. -/
def State.afterColdReset (eightLanes spi lineReady carrier clearToSend : Bool) (pending : List Instr) : State :=
  { clock := .initial, table := .initial, settlement := .initial, lanes := .initial eightLanes, tally := .initial,
    decoder := .initial, port := .initial eightLanes spi, link := .initial lineReady carrier clearToSend,
    pending := pending }

/-- The machine right after reset: a cold reset, eight lanes and the parallel personality strapped, the line inputs low
(DESIGN CHOICE, log entry 20). -/
def State.reset : State := State.afterColdReset true false false false false []

end Sys2Proof.Machine
end

