-- ==== Sys2Proof/Machine/Ops.lean ====
section
/-! DEFINITION. The shared operations: changing one block of the state, byte order and bit fields, day sets, finding and
changing pass records, lanes and contexts. Everything else is built from these. -/

namespace Sys2Proof.Machine

/-! ## Changing one block -/

def State.updClock (f : Clock → Clock) (s : State) : State := { s with clock := f s.clock }
def State.updTable (f : Table → Table) (s : State) : State := { s with table := f s.table }
def State.updSettlement (f : Settlement → Settlement) (s : State) : State := { s with settlement := f s.settlement }
def State.updLanes (f : LaneController → LaneController) (s : State) : State := { s with lanes := f s.lanes }
def State.updTally (f : Tally → Tally) (s : State) : State := { s with tally := f s.tally }
def State.updDecoder (f : Decoder → Decoder) (s : State) : State := { s with decoder := f s.decoder }
def State.updPort (f : Port → Port) (s : State) : State := { s with port := f s.port }
def State.updLink (f : Link → Link) (s : State) : State := { s with link := f s.link }

/-! ## Bytes: all images are little-endian (Conventions) -/

/-- The low byte of a number. -/
def byte (n : Nat) : Byte := BitVec.ofNat 8 n

/-- The `k` bytes of `n`, least significant first. -/
def leBytes : Nat → Nat → List Byte
  | 0, _ => []
  | k + 1, n => byte n :: leBytes k (n / 256)

/-- The number that bytes stand for, least significant first. -/
def ofBytes : List Byte → Nat
  | [] => 0
  | b :: bs => b.toNat + 256 * ofBytes bs

/-- The number in the field of `len` bytes at offset `off`. -/
def fieldAt (block : List Byte) (off len : Nat) : Nat := ofBytes ((block.drop off).take len)

/-- The byte at offset `off`, 0 past the end. -/
def byteAt (block : List Byte) (off : Nat) : Byte := block.getD off 0

/-- Cuts bytes into pieces of `size`, at most `n` of them. -/
def chunks (size : Nat) : Nat → List Byte → List (List Byte)
  | 0, _ => []
  | n + 1, bs => bs.take size :: chunks size n (bs.drop size)

/-! ## Day sets (Conventions) -/

/-- Whether the set holds day d. -/
def hasDay (ds : DaySet) (d : Nat) : Bool := ds.getLsbD d

/-- The set of the one day d. -/
def oneDay (d : Nat) : DaySet := 1#240 <<< d

/-- Set union. -/
def joinDays (a b : DaySet) : DaySet := a ||| b

/-- Set difference. -/
def withoutDays (a b : DaySet) : DaySet := a &&& ~~~b

/-- The number of days in the set. -/
def sizeDays (ds : DaySet) : Nat := (List.range 240).countP (hasDay ds)

/-! ## Numbers that stay at their upper bound -/

/-- The next value of a ride count (R5). -/
def nextRide (n : Nat) : Nat := if n < 65535 then n + 1 else 65535

/-- The next value of a 32-bit count that stays at its bound (R147, R156). -/
def nextCount32 (n : Nat) : Nat := if n < 4294967295 then n + 1 else 4294967295

/-! ## Time -/

/-- The clock's reading (season day, operating second). -/
def State.stamp (s : State) : Stamp := { day := s.clock.day, second := s.clock.second }

/-- The timebase value. -/
def State.now (s : State) : Nat := s.clock.timebase

/-- Whether a timer runs and the timebase has reached its deadline (R30). -/
def due (now : Nat) : Option Nat → Bool
  | none => false
  | some d => decide (d ≤ now)

/-- The timebase `n` milliseconds later (R30); past its 40 bits a free value (R28, log entry 4). -/
def advanceTimebase (n : Nat) (c : Clock) : Clock :=
  { c with timebase :=
      if c.timebase + n < 2 ^ 40 then c.timebase + n else (Config.timebasePastBound (c.timebase + n)).toNat }

/-! ## Lanes -/

/-- Whether the lane-count strap makes this lane present (R43). -/
def State.lanePresent (s : State) (l : LaneNo) : Bool := decide (l.val < 4) || s.port.eightLanes

/-- The set of present lanes. -/
def State.presentLanes (s : State) : List LaneNo := (List.finRange 8).filter s.lanePresent

/-- The lane machine of lane l. -/
def State.laneAt (s : State) (l : LaneNo) : Lane := s.lanes.lane[l]

/-- Puts a lane machine back in its place. -/
def State.setLane (l : LaneNo) (ln : Lane) (s : State) : State :=
  s.updLanes fun c => { c with lane := c.lane.set l ln }

/-- The lanes a mask selects, in ascending order. -/
def lanesOf (mask : LaneMask) : List LaneNo := (List.finRange 8).filter fun l => mask.getLsbD l

/-- Whether a TABLE CLEAR is running. -/
def State.clearing (s : State) : Bool := s.table.clear.isSome

/-! ## Pass records -/

/-- Pass numbers that are never a record's (R2). -/
def badPass (p : Nat) : Bool := p == 0 || decide (4294967294 < p)

/-- The record of a pass, if it is resident. -/
def Table.find (t : Table) (p : Nat) : Option PassRecord := t.records.find? fun r => r.pass == p

/-- The record of a pass, if it is resident. -/
def State.record (s : State) (p : Nat) : Option PassRecord := s.table.find p

/-- Changes the record of pass p. -/
def Table.update (p : Nat) (f : PassRecord → PassRecord) (t : Table) : Table :=
  { t with records := t.records.map fun r => if r.pass = p then f r else r }

/-- Changes the record of pass p. -/
def State.updRecord (p : Nat) (f : PassRecord → PassRecord) (s : State) : State := s.updTable (Table.update p f)

/-- The records with one more, at its pass number's place (R8). -/
def insertRecord (r : PassRecord) : List PassRecord → List PassRecord
  | [] => [r]
  | x :: xs => if r.pass < x.pass then r :: x :: xs else x :: insertRecord r xs

/-- Removes the record of pass p from the sorted index and the recency list (R2, R8, R9). -/
def Table.remove (p : Nat) (t : Table) : Table :=
  { t with records := t.records.filter fun r => r.pass != p, recency := t.recency.filter fun q => q != p }

/-- Places pass p at the head of the recency list; the others keep their order (R9). -/
def Table.toHead (p : Nat) (t : Table) : Table :=
  { t with recency := p :: t.recency.filter fun q => q != p }

/-- Creates a record: in the sorted index and at the head of the recency list (R15). -/
def Table.create (r : PassRecord) (t : Table) : Table :=
  Table.toHead r.pass { t with records := insertRecord r t.records }

/-- Whether a pass is on the revocation list (R96). -/
def Table.listed (t : Table) (p : Nat) : Bool := t.revoked.contains p

/-- The state a record takes from the revocation list (R15, R120, R122). -/
def Table.listState (t : Table) (p : Nat) : RecordState := if t.listed p then .revoked else .active

/-! ## Derived quantities of a record (R6, R7, R19) -/

/-- Whether the record is overdrawn (R6). -/
def PassRecord.overdrawn (r : PassRecord) : Bool :=
  r.kind == .days && decide (r.entitled < sizeDays r.used)

/-- W of R7: the window days from today on that are not used. -/
def PassRecord.openDays (today : Nat) (r : PassRecord) : Nat :=
  (List.range 240).countP fun d =>
    decide (r.first ≤ d) && decide (d ≤ r.last) && decide (today ≤ d) && !hasDay r.used d

/-- The refundable days of a record (R7); the difference that is negative counts as 0. -/
def PassRecord.refundable (today : Nat) (r : PassRecord) : Nat :=
  match r.kind with
  | .days => min (r.openDays today) (r.entitled - sizeDays r.used)
  | .season => r.openDays today

/-- Rides today as shown (R19, R39). -/
def PassRecord.shownRides (today : Nat) (r : PassRecord) : Nat :=
  match r.lastPassage with
  | none => 0
  | some p => if p.at_.day = today then r.ridesToday else 0

/-! ## Contexts of the origins (R171) -/

/-- The context of an origin. -/
def Decoder.context (d : Decoder) : Origin → Context
  | .station => d.station
  | .office => d.office

/-- Changes the context of an origin. -/
def Decoder.updContext (o : Origin) (f : Context → Context) (d : Decoder) : Decoder :=
  match o with
  | .station => { d with station := f d.station }
  | .office => { d with office := f d.office }

/-- The context of an origin. -/
def State.context (s : State) (o : Origin) : Context := s.decoder.context o

/-- Changes the context of an origin. -/
def State.updContext (o : Origin) (f : Context → Context) (s : State) : State :=
  s.updDecoder (Decoder.updContext o f)

/-- The other origin. -/
def otherOrigin : Origin → Origin
  | .station => .office
  | .office => .station

/-- The request of an origin that waits to be taken by its owner. -/
def State.waitingRequest (s : State) (o : Origin) : Option Request :=
  match (s.context o).inFlight with
  | some f => if f.stage = .waiting then some f.request else none
  | none => none

/-- How far the work of an origin's request in flight has come. -/
def State.stage (s : State) (o : Origin) : Option Stage := (s.context o).inFlight.map (·.stage)

/-- Moves an origin's request in flight on. -/
def State.setStage (o : Origin) (st : Stage) (s : State) : State :=
  s.updContext o fun c => { c with inFlight := c.inFlight.map fun f => { f with stage := st } }

/-! ## Events and notices handed to other blocks -/

/-- Hands the tally unit the events of one claim or event, in their order (R149, log entry 8). -/
def State.handEvents (es : List Event) (s : State) : State :=
  if es.isEmpty then s else s.updTally fun t => { t with inbox := t.inbox ++ [es] }

/-- Messages of the lane controller to the decoder, in the order raised (R183). -/
def State.raiseLane (ms : List LaneMsg) (s : State) : State :=
  s.updDecoder fun d => { d with laneMsgs := d.laneMsgs ++ ms }

/-- Notices raised by the tally unit (R153). -/
def State.raiseTally (ns : List Notice) (s : State) : State :=
  s.updDecoder fun d => { d with tallyMsgs := d.tallyMsgs ++ ns }

/-- A LAPSE notice raised for a hold's owner (R123). -/
def State.raiseLapse (n : OwnedNotice) (s : State) : State :=
  s.updDecoder fun d => { d with settlementMsgs := d.settlementMsgs ++ [n] }

/-- A LINK notice raised by the office link (R198). -/
def State.raiseLink (n : Notice) (s : State) : State :=
  s.updDecoder fun d => { d with linkMsgs := d.linkMsgs ++ [n] }

/-- A SWEEP notice raised by the table engine (R104). -/
def State.raiseSweep (n : Notice) (s : State) : State :=
  s.updDecoder fun d => { d with tableMsgs := d.tableMsgs ++ [n] }

/-- An event of a lane, without a class (R148). -/
def laneEvent (k : EventKind) (l : LaneNo) : Event := { kind := k, lane := some l, cls := none, reason := none }

/-- A REFUSED event (R77, R95). -/
def refusedEvent (l : LaneNo) (cls : Option PassClass) (r : Reason) : Event :=
  { kind := .refused, lane := some l, cls := cls, reason := some r }

end Sys2Proof.Machine
end

