-- ==== Sys2Proof/Machine/Images.lean ====
section
/-! DEFINITION. The Formats section (R188): the codes of the enumerated values and the images of records, notices, answers,
reader messages and office frames, byte for byte. -/

namespace Sys2Proof.Machine

/-! ## Enumerated values -/

def PassClass.code : PassClass → Nat
  | .adult => 0
  | .child => 1
  | .senior => 2
  | .staff => 3

/-- The class a code stands for. -/
def classOfCode : Nat → Option PassClass
  | 0 => some .adult
  | 1 => some .child
  | 2 => some .senior
  | 3 => some .staff
  | _ => none

def PassKind.code : PassKind → Nat
  | .days => 0
  | .season => 1

/-- The kind a code stands for. -/
def kindOfCode : Nat → Option PassKind
  | 0 => some .days
  | 1 => some .season
  | _ => none

def RecordState.code : RecordState → Nat
  | .active => 0
  | .held => 1
  | .settled => 2
  | .revoked => 3

def originCode : Origin → Nat
  | .station => 0
  | .office => 1

def HoldPhase.code : HoldPhase → Nat
  | .pending => 0
  | .held => 1

def ClockState.code : ClockState → Nat
  | .unset => 0
  | .running => 1
  | .ended => 2

def LaneState.code : LaneState → Nat
  | .closed => 0
  | .ready => 1
  | .deciding => 2
  | .waiting => 3
  | .released => 4
  | .passing => 5
  | .paused => 6
  | .closing => 7
  | .fault => 8

def LaneCondition.code : LaneCondition → Nat
  | .none => 0
  | .tailgate => 1
  | .reverse => 2
  | .stuck => 3
  | .readerSilent => 4
  | .readFault => 5

/-- The condition a lane takes from its fault mark (R57). -/
def FaultMark.condition : FaultMark → LaneCondition
  | .tailgate => .tailgate
  | .reverse => .reverse
  | .stuck => .stuck
  | .readerSilent => .readerSilent

def LineState.code : LineState → Nat
  | .down => 0
  | .armed => 1
  | .starting => 2
  | .up => 3
  | .fading => 4
  | .dropping => 5

def DropReason.code : DropReason → Nat
  | .none => 0
  | .noCarrier => 1
  | .lineReadyLost => 2
  | .close => 3

def Reason.code : Reason → Nat
  | .readFault => 0
  | .cls => 1
  | .revoked => 2
  | .inFlight => 3
  | .notFound => 4
  | .held => 5
  | .settled => 6
  | .seasonEnded => 7
  | .notYetValid => 8
  | .expired => 9
  | .passback => 10
  | .noDays => 11
  | .laneClosing => 12

def EventKind.code : EventKind → Nat
  | .passage => 1
  | .dayConsumed => 2
  | .withdrawn => 3
  | .refused => 4
  | .tailgate => 5
  | .reverse => 6
  | .stuck => 7
  | .readFault => 8
  | .missSent => 9
  | .missExpired => 10
  | .frameBad => 11
  | .holdPlaced => 12
  | .settled => 13

/-- The event kind a code stands for: absent for an undefined code, and NONE for 0. -/
def eventKindOfCode : Nat → Option (Option EventKind)
  | 0 => some none
  | 1 => some (some .passage)
  | 2 => some (some .dayConsumed)
  | 3 => some (some .withdrawn)
  | 4 => some (some .refused)
  | 5 => some (some .tailgate)
  | 6 => some (some .reverse)
  | 7 => some (some .stuck)
  | 8 => some (some .readFault)
  | 9 => some (some .missSent)
  | 10 => some (some .missExpired)
  | 11 => some (some .frameBad)
  | 12 => some (some .holdPlaced)
  | 13 => some (some .settled)
  | _ => none

def MergeOutcome.code : MergeOutcome → Nat
  | .merged => 0
  | .notResident => 1
  | .badArgument => 2

def Media.code : Media → Nat
  | .card => 0
  | .ticket => 1

/-- The media kind a code stands for. -/
def mediaOfCode : Nat → Option Media
  | 0 => some .card
  | 1 => some .ticket
  | _ => none

def ReadStatus.code : ReadStatus → Nat
  | .good => 0
  | .corrected => 1
  | .fault => 2

/-- The read status a code stands for. -/
def readStatusOfCode : Nat → Option ReadStatus
  | 0 => some .good
  | 1 => some .corrected
  | 2 => some .fault
  | _ => none

def ReadPolicy.code : ReadPolicy → Nat
  | .lenient => 0
  | .strict => 1
  | .notify => 2

/-- The read policy a code stands for. -/
def readPolicyOfCode : Nat → Option ReadPolicy
  | 0 => some .lenient
  | 1 => some .strict
  | 2 => some .notify
  | _ => none

def AdmissionPhase.code : AdmissionPhase → Nat
  | .released => 0
  | .passing => 1

def Ending.code : Ending → Nat
  | .none => 0
  | .commit => 1
  | .withdraw => 2

def Level.code : Level → Nat
  | .clear => 0
  | .broken => 1

def TallyAction.code : TallyAction → Nat
  | .none => 0
  | .notice => 1
  | .pace => 2

/-- The tally action a code stands for. -/
def tallyActionOfCode : Nat → Option TallyAction
  | 0 => some .none
  | 1 => some .notice
  | 2 => some .pace
  | _ => none

/-- A flag, or a two-valued item whose second value is the true one. -/
def flagCode (b : Bool) : Nat := if b then 1 else 0

def Status.code : Status → Nat
  | .complete => 0
  | .found => 1
  | .failed => 2
  | .busy => 3

def ConditionClass.code : ConditionClass → Nat
  | .request => 1
  | .state => 2
  | .resource => 3
  | .line => 4

/-- The class each condition code belongs to (R178). -/
def ConditionCode.cls : ConditionCode → ConditionClass
  | .invalidField | .notPermitted | .badArgument | .badList => .request
  | .notResident | .heldByOther | .double | .noHold | .holdLapsed | .settled | .revoked | .unreported | .notReady
  | .outOfSequence | .aborted | .noCollection | .collectionOpen => .state
  | .tableFull | .holdListFull | .listFull => .resource
  | .lineDown => .line

def ConditionCode.code : ConditionCode → Nat
  | .invalidField => 1
  | .notPermitted => 2
  | .badArgument => 3
  | .badList => 4
  | .notResident => 5
  | .tableFull => 6
  | .holdListFull => 7
  | .listFull => 8
  | .heldByOther => 9
  | .double => 10
  | .noHold => 11
  | .holdLapsed => 12
  | .settled => 13
  | .revoked => 14
  | .unreported => 15
  | .notReady => 16
  | .outOfSequence => 17
  | .aborted => 18
  | .noCollection => 19
  | .collectionOpen => 20
  | .lineDown => 21

def FieldKind.code : FieldKind → Nat
  | .block => 1
  | .data => 2
  | .item => 3
  | .entry => 4

/-- The request codes (Formats, Request code list). -/
def Request.code : Request → Nat
  | .passInsert _ => 0x10
  | .passRead _ => 0x11
  | .passDrop _ => 0x12
  | .passFind _ => 0x13
  | .tableSize => 0x14
  | .tableClear => 0x15
  | .dayMerge _ _ => 0x20
  | .revokeLoad _ => 0x21
  | .revokeRead _ _ => 0x22
  | .refundHold _ => 0x23
  | .refundSettle _ _ => 0x24
  | .refundRelease _ => 0x25
  | .holdListRead => 0x26
  | .usageCollect _ => 0x27
  | .usageConfirm _ _ => 0x28
  | .laneOpen _ => 0x30
  | .laneClose _ => 0x31
  | .laneReset _ => 0x32
  | .laneStatus _ => 0x33
  | .watchSet _ _ _ => 0x34
  | .clockSet _ => 0x35
  | .clockRead => 0x36
  | .profileSet _ _ => 0x37
  | .profileRead => 0x38
  | .tallyProgram _ _ => 0x39
  | .tallyRead _ => 0x3A
  | .tallyClear _ => 0x3B
  | .historyRead _ _ => 0x3C
  | .linkOpen _ _ _ _ => 0x3D
  | .linkClose => 0x3E
  | .linkStatus => 0x3F
  | .readyCheck => 0x40
  | .conditionRead => 0x41
  | .markWarm => 0x42

/-! ## Items of answer data (R188) -/

def img1 (n : Nat) : List Byte := leBytes 1 n
def img2 (n : Nat) : List Byte := leBytes 2 n
def img4 (n : Nat) : List Byte := leBytes 4 n

/-- A pass number; 0 when absent. -/
def imgPass (p : Option Nat) : List Byte := img4 (p.getD 0)

/-- A one-byte item; FFh when absent. -/
def imgOpt1 (n : Option Nat) : List Byte := img1 (n.getD 255)

/-- A flag. -/
def imgFlag (b : Bool) : List Byte := img1 (flagCode b)

/-- A time: day first; day FFh and second 0 when absent. -/
def imgTime : Option Stamp → List Byte
  | none => img1 255 ++ img4 0
  | some t => img1 t.day ++ img4 t.second

/-- A timebase value or deadline; all bits set when absent. -/
def imgTimebase : Option Nat → List Byte
  | none => List.replicate 8 0xFF
  | some n => leBytes 8 n

/-- A set of days: a 30-byte day map. -/
def imgDays (ds : DaySet) : List Byte := leBytes 30 ds.toNat

/-- A list: a 2-byte count of its members, then each member in order. -/
def imgList (ms : List (List Byte)) : List Byte := img2 ms.length ++ ms.flatten

def imgLane (l : LaneNo) : List Byte := img1 l.val

/-- The next boundary: the second, FFFFFFFFh for ROLLOVER. -/
def imgBoundary : Boundary → List Byte
  | .second n => img4 n
  | .rollover => img4 0xFFFFFFFF

/-! ## Record images -/

/-- The pass record image of 96 bytes, with its derived items as of `today`; bytes 84 to 95 are reserved. -/
def PassRecord.image (today : Nat) (r : PassRecord) : List Byte :=
  img4 r.pass ++ img1 r.cls.code ++ img1 r.kind.code ++ img1 r.entitled ++ img1 r.state.code
    ++ img1 r.first ++ img1 r.last ++ imgOpt1 (r.inFlight.map (·.val))
    ++ img1 (flagCode r.overdrawn + 2 * flagCode r.holdLapsed) ++ img1 (r.refundable today)
    ++ imgOpt1 (r.lastPassage.map (·.lane.val)) ++ img2 r.ridesSeason ++ img2 (r.shownRides today)
    ++ imgOpt1 (r.lastPassage.map (·.at_.day)) ++ [0]
    ++ img4 ((r.lastPassage.map (·.at_.second)).getD 0)
    ++ imgDays r.used ++ imgDays r.unreported ++ List.replicate 12 0

/-- The condition record image of 12 bytes; absent: an empty record, condition class NONE. -/
def conditionImage : Option Condition → List Byte
  | none => List.replicate 12 0
  | some c =>
    img1 c.code.cls.code ++ img1 c.code.code ++ img1 ((c.field.map (·.kind.code)).getD 0) ++ img1 c.requestCode
      ++ img2 ((c.field.map (·.index)).getD 0) ++ [0, 0] ++ imgPass c.pass

/-- An answer: its 16-byte header, then its data. -/
def Answer.bytes (a : Answer) : List Byte :=
  img1 a.requestCode ++ img1 a.status.code ++ img2 a.data.length
    ++ (match a.status with | .failed => conditionImage a.condition | _ => List.replicate 12 0) ++ a.data

/-- The content of a notice, bytes 4 to 15 of its block. -/
def Notice.content : Notice → List Byte
  | .lane l st c => imgLane l ++ img1 st.code ++ img1 c.code ++ List.replicate 9 0
  | .tally c a v t => img1 c.val ++ img1 a.code ++ img1 t.day ++ [0] ++ img4 v ++ img4 t.second
  | .lapse p st t => img4 p ++ img1 st.code ++ img1 t.day ++ [0, 0] ++ img4 t.second
  | .link st r => img1 st.code ++ img1 r.code ++ List.replicate 10 0
  | .miss l p => imgLane l ++ [0, 0, 0] ++ img4 p ++ List.replicate 4 0
  | .sweep g rv rs => img2 g ++ img2 rv ++ img2 rs ++ List.replicate 6 0

/-- The kind of a notice. -/
def Notice.kindCode : Notice → Nat
  | .lane .. => 1
  | .tally .. => 2
  | .lapse .. => 3
  | .link .. => 4
  | .miss .. => 5
  | .sweep .. => 6

/-- The 16-byte notice block. -/
def QueuedNotice.bytes (q : QueuedNotice) : List Byte :=
  img1 q.notice.kindCode ++ imgFlag q.changedAgain ++ [0, 0] ++ q.notice.content

/-- An interval record as an origin reads it (R160). -/
def IntervalRecord.image (r : IntervalRecord) : List Byte :=
  img1 r.close.day ++ [0] ++ img1 r.values.length ++ [0] ++ img4 r.close.second ++ img4 r.lived
    ++ (r.values.map fun (c, v) => img1 c.val ++ [0, 0, 0] ++ img4 v).flatten

/-- A tally program of 16 bytes. -/
def Program.image (p : Program) : List Byte :=
  img1 ((p.kind.map (·.code)).getD 0) ++ img1 p.lanes.toNat ++ img1 p.classes.toNat ++ img1 p.action.code
    ++ img2 p.reasons.toNat ++ imgOpt1 (p.armSource.map (·.val))
    ++ img1 (flagCode p.freeze + 2 * flagCode p.interval + 4 * flagCode p.history) ++ img4 p.threshold
    ++ List.replicate 4 0

/-- A profile pair. -/
def ProfilePair.image (p : ProfilePair) : List Byte := img1 p.code ++ img1 p.lane ++ img2 p.value

/-! ## Reader messages (R45, Formats) -/

/-- The sum of a message's bytes. -/
def byteSum : List Byte → Nat
  | [] => 0
  | b :: bs => b.toNat + byteSum bs

/-- A message with its check byte: the sum of all bytes, the check included, is 0 modulo 256. -/
def withCheck (m : List Byte) : List Byte := m ++ [byte (256 - byteSum m % 256)]

/-- Whether a burst's bytes sum to 0 modulo 256. -/
def checkHolds (m : List Byte) : Bool := byteSum m % 256 == 0

/-- The bytes of a VERDICT message. -/
def Verdict.bytes (v : Verdict) : List Byte :=
  withCheck (match v.kind with
    | .admitted left rides => img1 3 ++ img4 v.pass ++ img1 0 ++ imgOpt1 left ++ img2 rides
    | .refuse r => img1 3 ++ img4 v.pass ++ img1 1 ++ img1 r.code ++ img2 0
    | .wait => img1 3 ++ img4 v.pass ++ img1 2 ++ img1 0 ++ img2 0
    | .reread => img1 3 ++ img4 v.pass ++ img1 3 ++ img1 0 ++ img2 0
    | .closed => img1 3 ++ img4 v.pass ++ img1 4 ++ img1 0 ++ img2 0)

/-! ## Office frames (R203, R205, Formats) -/

/-- One bit of the frame check register: polynomial 1021h, most significant bit first. -/
def crcShift (c : Word) : Word := if c.msb then (c <<< 1) ^^^ 0x1021#16 else c <<< 1

/-- One byte into the frame check register. -/
def crcByte (c : Word) (b : Byte) : Word :=
  crcShift (crcShift (crcShift (crcShift (crcShift (crcShift (crcShift (crcShift
    (c ^^^ ((b.setWidth 16) <<< 8)))))))))

/-- The frame check of a frame's bytes: initial value FFFFh, not reflected, not inverted. -/
def frameCheck (bs : List Byte) : Word := bs.foldl crcByte 0xFFFF#16

/-- A whole frame from its address byte to its check. -/
def frameBytes (address kind : Nat) (body : List Byte) : List Byte :=
  let f := img1 address ++ img1 kind ++ img2 body.length ++ body
  f ++ img2 (frameCheck f).toNat

/-- The bytes of a frame with 7Eh and 7Dh escaped (R205). -/
def escapeBytes : List Byte → List Byte
  | [] => []
  | b :: bs => if b = 0x7E ∨ b = 0x7D then 0x7D :: (b ^^^ 0x20) :: escapeBytes bs else b :: escapeBytes bs

/-- A frame as it stands on the line, with its opening and closing flags. -/
def onLine (frame : List Byte) : List Byte := [0x7E] ++ escapeBytes frame ++ [0x7E]

/-- Undoes the escape; absent when an escape byte stands before the closing flag (R203). -/
def unescapeBytes : List Byte → Option (List Byte)
  | [] => some []
  | [b] => if b = 0x7D then none else some [b]
  | b :: c :: bs =>
    if b = 0x7D then (unescapeBytes bs).map ((c ^^^ 0x20) :: ·)
    else (unescapeBytes (c :: bs)).map (b :: ·)

end Sys2Proof.Machine
end

