-- ==== Sys2Proof/Machine/Answers.lean ====
section
/-! DEFINITION. Handing answers and notices to the two ports: presenting at the station port (R193), filling the outbound
slots of the office link (R205), and the end of a request (R172, R176, R177). -/

namespace Sys2Proof.Machine

/-! ## Station port -/

/-- Presents the next item when the output window is empty: the oldest answer, else the notice at the queue's head (R193). -/
def Port.present (p : Port) : Port :=
  match p.window, p.answers, p.queue with
  | some _, _, _ => p
  | none, a :: rest, _ => { p with answers := rest, window := some { item := .answer a, position := 0 } }
  | none, [], q :: rest => { p with queue := rest, window := some { item := .notice q, position := 0 } }
  | none, [], [] => p

/-- Whether an answer waits in the answer list or is presented (R191). -/
def Port.answerWaits (p : Port) : Bool :=
  !p.answers.isEmpty || match p.window with
    | some { item := .answer _, .. } => true
    | _ => false

/-- Adds an answer at the tail of the answer list and presents (R193). -/
def Port.takeAnswer (a : Answer) (p : Port) : Port := Port.present { p with answers := p.answers ++ [a] }

/-! ## Office link -/

/-- Whether the transmitter may begin a frame: UP and, in FULL mode, clear-to-send high (R205). -/
def Link.maySend (k : Link) : Bool := k.state == .up && (k.dataOnly || k.clearToSend)

/-- The transmitter begins the first slot's frame as soon as it may (R205). -/
def Link.begin (k : Link) : Link :=
  if k.sending = false ∧ k.slots ≠ [] ∧ k.maySend then { k with sending := true } else k

/-- Fills one empty slot while the line is UP: with the oldest answer, else with the notice at the queue's head (R205). -/
def Link.fillOne (k : Link) : Link :=
  if k.state = .up ∧ k.slots.length < 2 then
    match k.answers, k.queue with
    | a :: rest, _ => { k with answers := rest, slots := k.slots ++ [frameBytes k.address 2 a.answer.bytes] }
    | [], q :: rest => { k with queue := rest, slots := k.slots ++ [frameBytes k.address 3 q.bytes] }
    | [], [] => k
  else k

/-- Fills the two slots and begins sending, whatever the event that made it possible (R205). -/
def Link.pump (k : Link) : Link := k.fillOne.fillOne.begin

/-- The answer that replaces or joins the office answer list: a BUSY answer takes the place of a BUSY answer that waits,
which then also stands for the request it answered (R205, log entry 18). The list then holds the request code of the answer
handed later, one of the two readings of R205's words (the model's choice of log entry 37). -/
def joinOfficeAnswer (a : OfficeAnswer) : List OfficeAnswer → List OfficeAnswer
  | [] => [a]
  | x :: xs =>
    if a.answer.status = .busy ∧ x.answer.status = .busy then
      { answer := a.answer, taken := x.taken || a.taken } :: xs
    else x :: joinOfficeAnswer a xs

/-- Hands an answer to the office link. -/
def Link.takeAnswer (a : OfficeAnswer) (k : Link) : Link :=
  Link.pump { k with answers := joinOfficeAnswer a k.answers }

/-! ## Answers -/

/-- Hands an answer to an origin's port; `taken` says that it answers a request that was taken (R172). -/
def State.handAnswer (o : Origin) (taken : Bool) (a : Answer) (s : State) : State :=
  match o with
  | .station => s.updPort (Port.takeAnswer a)
  | .office => s.updLink (Link.takeAnswer { answer := a, taken := taken })

/-- The BUSY answer to a request block that is not taken (R172): no condition record, no data (R176). -/
def busyAnswer (code : Nat) : Answer := { requestCode := code, status := .busy, condition := none, data := [] }

/-- The end of a request that was taken (R172, R176): the answer is composed; a FAILED one writes the condition record,
whether it is sent or not (R177); it is handed to the port while answerable is yes. -/
def State.endWith (o : Origin) (a : Answer) (s : State) : State :=
  match (s.context o).inFlight with
  | none => s
  | some f =>
    let s := s.updContext o fun c =>
      { c with inFlight := none, condition := if a.status = .failed then a.condition else c.condition }
    if f.answerable then s.handAnswer o true a else s

/-- The code of an origin's request in flight, 0 when it has none. -/
def State.flightCode (s : State) (o : Origin) : Nat :=
  match (s.context o).inFlight with
  | some f => f.request.code
  | none => 0

/-- COMPLETE, with its data. -/
def State.complete (o : Origin) (data : List Byte) (s : State) : State :=
  s.endWith o { requestCode := s.flightCode o, status := .complete, condition := none, data := data }

/-- FOUND, with its data (R20). -/
def State.found (o : Origin) (data : List Byte) (s : State) : State :=
  s.endWith o { requestCode := s.flightCode o, status := .found, condition := none, data := data }

/-- FAILED, with the condition's code and the fields the owner's rule names (R177). -/
def State.fail (o : Origin) (code : ConditionCode) (pass : Option Nat) (field : Option FieldRef) (s : State) : State :=
  s.endWith o
    { requestCode := s.flightCode o, status := .failed,
      condition := some { code := code, requestCode := s.flightCode o, pass := pass, field := field }, data := [] }

/-- BUSY to a request that was taken (R176). -/
def State.busy (o : Origin) (s : State) : State := s.endWith o (busyAnswer (s.flightCode o))

/-- A field of the request block, by its offset (R177). -/
def blockField (off : Nat) : Option FieldRef := some { kind := .block, index := off }

/-- A byte of the data phase, by its offset (R177). -/
def dataField (off : Nat) : Option FieldRef := some { kind := .data, index := off }

/-! ## Notice queues (R183, R184) -/

/-- Whether two notices have the same kind and subject (R183). -/
def Notice.sameSubject : Notice → Notice → Bool
  | .lane l _ _, .lane m _ _ => l == m
  | .tally c _ _ _, .tally d _ _ _ => c == d
  | .lapse p _ _, .lapse q _ _ => p == q
  | .link _ _, .link _ _ => true
  | .miss l _, .miss m _ => l == m
  | .sweep _ _ _, .sweep _ _ _ => true
  | _, _ => false

/-- Places a notice in a queue: updated in place where one of the same kind and subject is queued, else added at the tail (R184). -/
def placeNotice (n : Notice) : List QueuedNotice → List QueuedNotice
  | [] => [{ notice := n, changedAgain := false }]
  | q :: qs =>
    if q.notice.sameSubject n then { notice := n, changedAgain := true } :: qs else q :: placeNotice n qs

/-- Places a notice in an origin's queue; its port presents or sends it when it can (R184, R193, R205). -/
def State.placeFor (o : Origin) (n : Notice) (s : State) : State :=
  match o with
  | .station => s.updPort fun p => Port.present { p with queue := placeNotice n p.queue }
  | .office => s.updLink fun k => Link.pump { k with queue := placeNotice n k.queue }

/-- Whether a watch mask selects a notice of the kinds that are filtered (R182, R183). -/
def WatchMask.selects (w : WatchMask) : Notice → Bool
  | .lane l _ _ => w.lanes.getLsbD l
  | .tally c _ _ _ => w.counters.getLsbD c
  | .link _ _ => w.link
  | _ => false

end Sys2Proof.Machine
end

