-- ==== Sys2Proof/Machine/Requests.lean ====
section
/-! DEFINITION. The request decoder's taking and checking of request blocks (R172, R173), broadcasts (R174), the ABORT
event (R175), and the arbitration of the table engine (R12). -/

namespace Sys2Proof.Machine

/-! ## The request code list (Formats) -/

/-- The length of a request's data phase: fixed, or so many bytes for each of the request's count. -/
inductive DataLength where
  | fixed (n : Nat)
  | each (size : Nat)
  deriving DecidableEq, Repr

/-- A request's count argument: where it stands in the block, and its own range. -/
structure CountArg where
  offset : Nat
  width : Nat
  lo : Nat
  hi : Nat
  deriving DecidableEq, Repr

/-- Who is permitted a request; the two S (insert) and S (settle) entries read a right of the profile. -/
inductive Permission where
  | both
  | office
  | station
  | insertRight
  | settleRight
  deriving DecidableEq, Repr

/-- One row of the request code list: the defined flag bits, the defined bits of the argument bytes at offsets 4 to 15,
the data phase, the permission. -/
structure CodeRow where
  flags : Byte
  args : List Byte
  data : DataLength
  permission : Permission
  deriving DecidableEq, Repr

/-- The request code list. -/
def codeRow : Nat → Option CodeRow
  | 0x10 => some ⟨0, [0xFF, 0xFF, 0xFF, 0xFF, 0xFF, 0xFF, 0xFF, 0xFF, 0xFF], .fixed 30, .insertRight⟩
  | 0x11 => some ⟨0, [0xFF, 0xFF, 0xFF, 0xFF], .fixed 0, .both⟩
  | 0x12 => some ⟨0, [0xFF, 0xFF, 0xFF, 0xFF], .fixed 0, .insertRight⟩
  | 0x13 => some ⟨1, [0xFF, 0xFF, 0xFF, 0xFF, 0xFF, 0xFF, 0x0F, 0x0F, 0xFF, 0xFF, 0x03], .fixed 0, .both⟩
  | 0x14 => some ⟨0, [], .fixed 0, .both⟩
  | 0x15 => some ⟨0, [], .fixed 0, .station⟩
  | 0x20 => some ⟨0, [0xFF, 0xFF], .each 36, .office⟩
  | 0x21 => some ⟨1, [0xFF, 0xFF], .each 4, .office⟩
  | 0x22 => some ⟨0, [0xFF, 0xFF, 0xFF, 0xFF], .fixed 0, .both⟩
  | 0x23 => some ⟨0, [0xFF, 0xFF, 0xFF, 0xFF], .fixed 0, .both⟩
  | 0x24 => some ⟨0, [0xFF, 0xFF, 0xFF, 0xFF, 0xFF], .fixed 0, .settleRight⟩
  | 0x25 => some ⟨0, [0xFF, 0xFF, 0xFF, 0xFF], .fixed 0, .both⟩
  | 0x26 => some ⟨0, [], .fixed 0, .both⟩
  | 0x27 => some ⟨0, [0xFF], .fixed 0, .office⟩
  | 0x28 => some ⟨1, [0xFF], .fixed 0, .office⟩
  | 0x30 => some ⟨0, [0xFF], .fixed 0, .station⟩
  | 0x31 => some ⟨0, [0xFF], .fixed 0, .station⟩
  | 0x32 => some ⟨0, [0xFF], .fixed 0, .station⟩
  | 0x33 => some ⟨0, [0xFF], .fixed 0, .both⟩
  | 0x34 => some ⟨1, [0xFF, 0xFF, 0x0F], .fixed 0, .both⟩
  | 0x35 => some ⟨0, [0xFF, 0xFF, 0, 0, 0xFF, 0xFF, 0xFF, 0xFF], .fixed 0, .both⟩
  | 0x36 => some ⟨0, [], .fixed 0, .both⟩
  | 0x37 => some ⟨0, [0xFF], .each 4, .both⟩
  | 0x38 => some ⟨0, [], .fixed 0, .both⟩
  | 0x39 => some ⟨0, [0xFF], .fixed 16, .station⟩
  | 0x3A => some ⟨0, [0xFF, 0x0F], .fixed 0, .both⟩
  | 0x3B => some ⟨0, [0xFF, 0x0F], .fixed 0, .both⟩
  | 0x3C => some ⟨1, [0xFF], .fixed 0, .both⟩
  | 0x3D => some ⟨0, [0xFF, 0xFF, 0xFF, 0xFF], .fixed 0, .station⟩
  | 0x3E => some ⟨0, [], .fixed 0, .station⟩
  | 0x3F => some ⟨0, [], .fixed 0, .both⟩
  | 0x40 => some ⟨0, [], .fixed 0, .both⟩
  | 0x41 => some ⟨0, [], .fixed 0, .both⟩
  | 0x42 => some ⟨0, [], .fixed 0, .station⟩
  | _ => none

/-- The first argument byte, in ascending offset, that has a bit set which the list does not define (R173). -/
def badArgumentByte (row : CodeRow) (block : List Byte) : Option Nat :=
  ((List.range 12).find? fun i => byteAt block (4 + i) &&& ~~~(row.args.getD i 0) != 0).map (4 + ·)

/-- The count argument of a request that has one, with the range its own rule gives (R20, R97, R106, R134, R141, R167,
R180). -/
def countArg : Nat → Option CountArg
  | 0x13 => some { offset := 8, width := 2, lo := 0, hi := 8192 }
  | 0x20 => some { offset := 4, width := 2, lo := 1, hi := 128 }
  | 0x21 => some { offset := 4, width := 2, lo := 0, hi := 2048 }
  | 0x22 => some { offset := 6, width := 2, lo := 0, hi := 256 }
  | 0x27 => some { offset := 4, width := 1, lo := 0, hi := 64 }
  | 0x37 => some { offset := 4, width := 1, lo := 1, hi := 32 }
  | 0x3C => some { offset := 4, width := 1, lo := 0, hi := 8 }
  | _ => none

/-- The data length the list gives, for this count. -/
def DataLength.bytes (count : Nat) : DataLength → Nat
  | .fixed n => n
  | .each size => size * count

/-- Whether a count argument lies outside its own range. -/
def CountArg.outside (block : List Byte) (c : CountArg) : Bool :=
  decide (fieldAt block c.offset c.width < c.lo) || decide (c.hi < fieldAt block c.offset c.width)

/-- Whether the data length is the one the list gives and the port can carry; of a request whose count lies outside its own
range only the port's limit is tested (R173, check 2). -/
def lengthHolds (row : CodeRow) (limit : Nat) (block : List Byte) : Bool :=
  let len := fieldAt block 2 2
  decide (len ≤ limit) && match countArg (byteAt block 0).toNat with
    | some c => c.outside block || len == row.data.bytes (fieldAt block c.offset c.width)
    | none => len == row.data.bytes 0

/-- Whether an origin is permitted a request, by the rights as they stand (R173, check 3). -/
def permitted (p : Profile) (o : Origin) : Permission → Bool
  | .both => true
  | .office => o == .office
  | .station => o == .station
  | .insertRight => o == .office || p.insertRight
  | .settleRight => o == .office || p.settleRight

/-- The largest data phase each port carries (R173). -/
def dataLimit : Origin → Nat
  | .station => 1024
  | .office => 8192

/-- One entry of a DAY MERGE's data phase (R141). -/
def mergeEntryOf (bs : List Byte) : MergeEntry :=
  { pass := fieldAt bs 0 4, days := BitVec.ofNat 256 (fieldAt bs 4 32) }

/-- One pair of a PROFILE SET's data phase (R180). -/
def profilePairOf (bs : List Byte) : ProfilePair :=
  { code := fieldAt bs 0 1, lane := fieldAt bs 1 1, value := fieldAt bs 2 2 }

/-- The request a block spells, for the codes of the list; its flags and reserved bits are checked elsewhere. -/
def requestOf (block : List Byte) : Option Request :=
  let arg := fieldAt block
  let flag := (byteAt block 1).getLsbD 0
  let data := block.drop 16
  match arg 0 1 with
  | 0x10 => some (.passInsert { pass := arg 4 4, cls := arg 8 1, kind := arg 9 1, entitled := arg 10 1,
                                first := arg 11 1, last := arg 12 1, used := BitVec.ofNat 240 (fieldAt data 0 30) })
  | 0x11 => some (.passRead (arg 4 4))
  | 0x12 => some (.passDrop (arg 4 4))
  | 0x13 => some (.passFind { invert := flag, start := arg 4 4, count := arg 8 2, states := BitVec.ofNat 4 (arg 10 1),
                              classes := BitVec.ofNat 4 (arg 11 1), kind := arg 12 1, minRefundable := arg 13 1,
                              unreported := (byteAt block 14).getLsbD 0, usedToday := (byteAt block 14).getLsbD 1 })
  | 0x14 => some .tableSize
  | 0x15 => some .tableClear
  | 0x20 => some (.dayMerge (arg 4 2) ((chunks 36 (arg 4 2) data).map mergeEntryOf))
  | 0x21 => some (.revokeLoad { merge := flag, count := arg 4 2,
                                entries := (chunks 4 (arg 4 2) data).map fun bs => fieldAt bs 0 4 })
  | 0x22 => some (.revokeRead (arg 4 2) (arg 6 2))
  | 0x23 => some (.refundHold (arg 4 4))
  | 0x24 => some (.refundSettle (arg 4 4) (arg 8 1))
  | 0x25 => some (.refundRelease (arg 4 4))
  | 0x26 => some .holdListRead
  | 0x27 => some (.usageCollect (arg 4 1))
  | 0x28 => some (.usageConfirm (arg 4 1) flag)
  | 0x30 => some (.laneOpen (byteAt block 4))
  | 0x31 => some (.laneClose (byteAt block 4))
  | 0x32 => some (.laneReset (byteAt block 4))
  | 0x33 => some (.laneStatus (byteAt block 4))
  | 0x34 => some (.watchSet (byteAt block 4) (BitVec.ofNat 12 (arg 5 2)) flag)
  | 0x35 => some (.clockSet { day := arg 4 1, second := arg 8 4, lastDay := arg 5 1 })
  | 0x36 => some .clockRead
  | 0x37 => some (.profileSet (arg 4 1) ((chunks 4 (arg 4 1) data).map profilePairOf))
  | 0x38 => some .profileRead
  | 0x39 => some (.tallyProgram (arg 4 1) (data.take 16))
  | 0x3A => some (.tallyRead (BitVec.ofNat 12 (arg 4 2)))
  | 0x3B => some (.tallyClear (BitVec.ofNat 12 (arg 4 2)))
  | 0x3C => some (.historyRead (arg 4 1) flag)
  | 0x3D => some (.linkOpen (arg 4 1) (arg 5 1) (arg 6 1) (arg 7 1))
  | 0x3E => some .linkClose
  | 0x3F => some .linkStatus
  | 0x40 => some .readyCheck
  | 0x41 => some .conditionRead
  | 0x42 => some .markWarm
  | _ => none

/-- What the decoder's checks make of a request block. -/
inductive Checked where
  | passed (r : Request)
  | failed (code : ConditionCode) (field : Option FieldRef)
  deriving DecidableEq, Repr

/-- The decoder's three checks, in their order (R173). -/
def checkBlock (p : Profile) (o : Origin) (block : List Byte) : Checked :=
  match codeRow (byteAt block 0).toNat, requestOf block with
  | some row, some r =>
    if byteAt block 1 &&& ~~~row.flags ≠ 0 then .failed .invalidField (blockField 1)
    else match badArgumentByte row block with
      | some off => .failed .invalidField (blockField off)
      | none =>
        if lengthHolds row (dataLimit o) block = false then .failed .invalidField (blockField 2)
        else if permitted p o row.permission = false then .failed .notPermitted none
        else .passed r
  | _, _ => .failed .invalidField (blockField 0)

/-- The requests the table engine takes as claims (R11). -/
def Request.isTable : Request → Bool
  | .passInsert _ | .passRead _ | .passDrop _ | .passFind _ | .tableSize | .tableClear | .dayMerge _ _ | .revokeLoad _
  | .revokeRead _ _ | .refundHold _ | .refundSettle _ _ | .refundRelease _ | .usageCollect _ | .usageConfirm _ _ => true
  | .holdListRead | .laneOpen _ | .laneClose _ | .laneReset _ | .laneStatus _ | .watchSet _ _ _ | .clockSet _
  | .clockRead | .profileSet _ _ | .profileRead | .tallyProgram _ _ | .tallyRead _ | .tallyClear _ | .historyRead _ _
  | .linkOpen _ _ _ _ | .linkClose | .linkStatus | .readyCheck | .conditionRead | .markWarm => false

/-- Submits an office claim behind the office claims that wait (R12); the station's waits by its request in flight. -/
def State.submitClaim (o : Origin) (s : State) : State :=
  match o with
  | .station => s
  | .office => s.updTable fun t => { t with officeClaims := t.officeClaims ++ [.own] }

/-- Whether a request block of this origin is answered BUSY and not taken (R172). Of the office's answers that wait, only one
to a request that was taken counts; a BUSY answer to a block that was not taken does not (the model's choice of log
entry 31). -/
def State.originBusy (s : State) (o : Origin) : Bool :=
  (s.context o).inFlight.isSome || (o == .office && s.link.answers.any (·.taken))

/-- The answer FAILED of the decoder's own checks (R173). -/
def checkFailure (code : Nat) (cc : ConditionCode) (field : Option FieldRef) : Answer :=
  { requestCode := code, status := .failed,
    condition := some { code := cc, requestCode := code, pass := none, field := field }, data := [] }

/-- The condition record is emptied as a request other than CONDITION READ is taken (R177). -/
def State.clearCondition (o : Origin) (code : Nat) (s : State) : State :=
  if code = 0x41 then s else s.updContext o fun c => { c with condition := none }

/-- A block that fails a check is answered FAILED, the condition record written (R173, R177). -/
def State.failBlock (o : Origin) (a : Answer) (s : State) : State :=
  (s.updContext o fun c => { c with condition := a.condition }).handAnswer o true a

/-- A request that passed the checks becomes the request in flight and goes to its owner, a table request as a claim
(R11, R172, R175); a table request taken while a TABLE CLEAR runs is answered BUSY (R23, R27, log entry 9). -/
def State.takeRequest (o : Origin) (r : Request) (s : State) : State :=
  let s := s.updContext o fun c => { c with inFlight := some { request := r, answerable := true, stage := .waiting } }
  if r.isTable then (if s.clearing then s.busy o else s.submitClaim o) else s

/-- A whole request block reaches the decoder (R172, R173): answered BUSY and not taken, or taken, checked, and answered
FAILED or handed to its owner. -/
def State.deliver (o : Origin) (block : List Byte) (s : State) : State :=
  let code := (byteAt block 0).toNat
  if s.originBusy o then s.handAnswer o false (busyAnswer code)
  else match checkBlock s.decoder.profile o block with
    | .failed cc field => (s.clearCondition o code).failBlock o (checkFailure code cc field)
    | .passed r => (s.clearCondition o code).takeRequest o r

/-- A broadcast reaches the decoder (R174): a CLOCK SET or REVOKE LOAD that passes the checks goes to its owner, but for a
load while a TABLE CLEAR runs (R23, log entry 9); nothing else has an effect, and nothing is answered. -/
def State.deliverBroadcast (block : List Byte) (s : State) : State :=
  match checkBlock s.decoder.profile .office block with
  | .passed (.clockSet a) => s.updClock fun c => { c with broadcasts := c.broadcasts ++ [a] }
  | .passed (.revokeLoad a) =>
    if s.clearing then s else s.updTable fun t => { t with officeClaims := t.officeClaims ++ [.broadcastLoad a] }
  | _ => s

/-! ## ABORT (R175, R25, R115) -/

/-- Removes an origin's waiting claim. -/
def State.dropClaim (o : Origin) (s : State) : State :=
  match o with
  | .station => s
  | .office => s.updTable fun t => { t with officeClaims := t.officeClaims.filter (· ≠ .own) }

/-- An ABORT event of an origin: it ends that origin's long request, and does nothing when there is none. -/
def State.abortEvent (o : Origin) (s : State) : State :=
  match (s.context o).inFlight with
  | some { request := .refundHold p, stage := .waiting, .. } => (s.dropClaim o).fail o .aborted (some p) none
  | some { request := .refundHold _, stage := .pendingHold p, .. } =>
    (s.updSettlement fun u => { u with holds := u.holds.filter fun e => e.pass != p }).fail o .aborted (some p) none
  | some { request := .tableClear, stage := .waiting, .. } => (s.dropClaim o).fail o .aborted none none
  | some { request := .tableClear, stage := .clearing, .. } =>
    (s.updTable fun t => { t with clear := none }).fail o .aborted none none
  | _ => s

/-! ## The table engine's order (R12) -/

/-- Whether an origin's own request has a claim at this stage. -/
def Stage.claims : Stage → Bool
  | .waiting | .finding _ _ | .merging _ _ => true
  | .pendingHold _ | .clearing => false

/-- Whether a lane has a claim waiting: its decision claim or its ending claim (R48). -/
def State.laneWaits (s : State) (l : LaneNo) : Bool :=
  s.lanePresent l && ((s.laneAt l).state == .deciding || (s.laneAt l).ending != .none)

/-- The first waiting lane after the last lane served, counting round (R12). -/
def State.nextLane (s : State) : Option LaneNo :=
  ((List.finRange 8).map fun i => s.table.lastLane + 1 + i).find? s.laneWaits

/-- Whether an origin has a claim waiting; a broadcast's claim is an office claim (R12). -/
def State.originWaits (s : State) : Origin → Bool
  | .station => match s.decoder.station.inFlight with
    | some f => f.request.isTable && f.stage.claims
    | none => false
  | .office => !s.table.officeClaims.isEmpty

/-- Whose turn it is at the table engine. -/
inductive Turn where
  | lane (l : LaneNo)
  | settlement
  | origin (o : Origin)
  /-- Nothing else waits: a sweep step or a TABLE CLEAR step. -/
  | background
  /-- A TABLE CLEAR left by a warm reset: its steps come before any other claim (R27). -/
  | orphanClear
  deriving DecidableEq, Repr

/-- The order of R12, and R27's for a clear left by a warm reset. -/
def State.turn (s : State) : Turn :=
  if s.table.clear.any (·.orphan) then .orphanClear
  else match s.nextLane with
    | some l => .lane l
    | none =>
      if s.settlement.lapseClaim.isSome then .settlement
      else if s.originWaits (otherOrigin s.table.lastOrigin) then .origin (otherOrigin s.table.lastOrigin)
      else if s.originWaits s.table.lastOrigin then .origin s.table.lastOrigin
      else .background

/-- Whether a request of several claims has had one taken and has another to come. A sweep step or a TABLE CLEAR step may be
taken between the two (R13, R23, R145, log entry 10). -/
def InFlight.underWay (f : InFlight) : Bool :=
  match f.stage, f.request with
  | .merging _ done, _ => !done.isEmpty
  | .finding above _, .passFind a => above != a.start
  | _, _ => false

/-- Whether an origin's own request is between two of its claims. -/
def State.betweenClaims (s : State) (o : Origin) : Bool := (s.context o).inFlight.any InFlight.underWay

/-- Whether an origin has a claim waiting, the further claims of a request under way aside. -/
def State.originHoldsBack (s : State) : Origin → Bool
  | .station => s.originWaits .station && !s.betweenClaims .station
  | .office => s.table.officeClaims.any fun c => c != .own || !s.betweenClaims .office

/-- Whether a sweep step or a step of the station's TABLE CLEAR may be taken: no other claim waits (R12). -/
def State.mayStep (s : State) : Bool :=
  s.turn != .orphanClear && s.nextLane.isNone && s.settlement.lapseClaim.isNone
    && !s.originHoldsBack .station && !s.originHoldsBack .office

/-- Whether it is the turn of this origin's own claim; of two office claims the one submitted first (R12). -/
def State.hasTurn (s : State) (o : Origin) : Bool :=
  s.turn == .origin o && match o with
    | .station => true
    | .office => s.table.officeClaims.head? == some .own

/-- The table engine serves an origin: it becomes the last origin served, and an office claim leaves its place (R12). -/
def State.serve (o : Origin) (s : State) : State :=
  s.updTable fun t => match o with
    | .station => { t with lastOrigin := .station }
    | .office => { t with lastOrigin := .office, officeClaims := t.officeClaims.tail }

/-- A lane is served. -/
def State.serveLane (l : LaneNo) (s : State) : State := s.updTable fun t => { t with lastLane := l }

/-- A table request of one claim, taken whole when it has its turn (R11, R12). -/
def State.tableClaim (o : Origin) (k : State → State) (s : State) : State := if s.hasTurn o then k (s.serve o) else s

/-- The start of a table request of several claims, which serves no origin itself (R13, log entry 10). -/
def State.tableBegin (o : Origin) (k : State → State) (s : State) : State := if s.hasTurn o then k s else s

end Sys2Proof.Machine
end

