-- ==== Sys2Proof/Machine/Lanes.lean ====
section
/-! DEFINITION. The lane machine (Chapter 3): what each event does to one lane, and the meanings of the reader, beam, timer
and pacing commands and of the lane requests. -/

namespace Sys2Proof.Machine

/-! ## One lane's event -/

/-- What a lane reads besides its own items: its number, the timebase, and its items of the profile (R53 to R55, R81). -/
structure LaneEnv where
  lane : LaneNo
  now : Nat
  policy : ReadPolicy
  windowMs : Nat
  limitMs : Nat
  missWaitMs : Nat
  deriving DecidableEq, Repr

/-- A lane in the course of one event: the lane, the tally events it hands, the messages it raises to the decoder. -/
structure LaneRun where
  lane : Lane
  events : List Event
  msgs : List LaneMsg
  deriving DecidableEq, Repr

/-- What a lane reads at this moment. -/
def State.laneEnv (s : State) (l : LaneNo) : LaneEnv :=
  { lane := l, now := s.now, policy := s.decoder.profile.readPolicy[l],
    windowMs := s.decoder.profile.window * 1000, limitMs := s.decoder.profile.limit * 1000,
    missWaitMs := s.decoder.profile.missWait }

def LaneRun.upd (f : Lane → Lane) (r : LaneRun) : LaneRun := { r with lane := f r.lane }

/-- Hands a tally event of this lane with no class (R148). -/
def LaneRun.hand (e : Event) (r : LaneRun) : LaneRun := { r with events := r.events ++ [e] }

/-- Sends a verdict to the lane's reader (R50); a REFUSE starts the tone's 300 ms again (R49). -/
def LaneRun.send (env : LaneEnv) (pass : Nat) (k : VerdictKind) (r : LaneRun) : LaneRun :=
  r.upd fun ln =>
    { ln with
      readerOut := ln.readerOut ++ [{ pass := pass, kind := k }],
      toneAt := match k with
        | .refuse _ => some (env.now + 300)
        | _ => ln.toneAt }

/-- Enters a state: a blinking lamp starts lit (R48); CLOSED and FAULT silence the tone (R49). -/
def LaneRun.enter (env : LaneEnv) (st : LaneState) (r : LaneRun) : LaneRun :=
  r.upd fun ln =>
    { ln with
      state := st, lampLit := true,
      blinkAt := if st = .waiting ∨ st = .fault then some (env.now + 500) else none,
      toneAt := if st = .closed ∨ st = .fault then none else ln.toneAt }

/-- The current slot is finished: the next presentation moves up (R53). -/
def LaneRun.finishSlot (r : LaneRun) : LaneRun := r.upd fun ln => { ln with current := ln.next, next := none }

/-- Empties both slots, each presentation answered CLOSED, current slot first (R59, R64). -/
def LaneRun.closeSlots (env : LaneEnv) (r : LaneRun) : LaneRun :=
  let r := match r.lane.current with
    | some p => r.send env p.pass .closed
    | none => r
  let r := match r.lane.next with
    | some p => r.send env p.pass .closed
    | none => r
  r.upd fun ln => { ln with current := none, next := none }

/-! ## The read check and taking up (R53, R54) -/

inductive ReadCheck where
  | passes
  | reread
  | refuse
  deriving DecidableEq, Repr

/-- The read check of a presentation under a policy (R54). -/
def readCheck (policy : ReadPolicy) (p : Presentation) : ReadCheck :=
  match policy, p.status with
  | _, .good => .passes
  | .strict, _ => .refuse
  | _, .corrected => .passes
  | _, .fault => if p.attempt ≤ 3 then .reread else .refuse

/-- What NOTIFY adds to the read check: the READ FAULT event and the lane's condition (R54). -/
def LaneRun.notifyRead (env : LaneEnv) (p : Presentation) (r : LaneRun) : LaneRun :=
  if env.policy = .notify then
    match p.status with
    | .good => r.upd fun ln => { ln with condition := if ln.condition = .readFault then .none else ln.condition }
    | _ => (r.hand (laneEvent .readFault env.lane)).upd fun ln => { ln with condition := .readFault }
  else r

/-- In READY with the current slot occupied, the lane takes it up; a reread or a refusal finishes the slot, and the
presentation that moves up is taken up in turn (R53). A lane has two slots, so `2` rounds are enough. -/
def LaneRun.takeUp (env : LaneEnv) : Nat → LaneRun → LaneRun
  | 0, r => r
  | n + 1, r =>
    if r.lane.state = .ready then
      match r.lane.current with
      | none => r
      | some p =>
        let r := r.notifyRead env p
        match readCheck env.policy p with
        | .passes => r.enter env .deciding
        | .reread => LaneRun.takeUp env n (r.send env p.pass .reread).finishSlot
        | .refuse =>
          LaneRun.takeUp env n
            ((r.send env p.pass (.refuse .readFault)).hand (refusedEvent env.lane none .readFault)).finishSlot
    else r

/-- Enters READY and takes up a presentation that waits (R53). -/
def LaneRun.toReady (env : LaneEnv) (r : LaneRun) : LaneRun := (r.enter env .ready).takeUp env 2

/-- Enters PAUSED, sending WAIT once for the current slot (R61). -/
def LaneRun.toPaused (env : LaneEnv) (r : LaneRun) : LaneRun :=
  let r := r.enter env .paused
  match r.lane.current with
  | some p => r.send env p.pass .wait
  | none => r

/-- Enters PAUSED when the pause mark is set, READY when not (R57, R60, R84 to R86). -/
def LaneRun.resume (env : LaneEnv) (r : LaneRun) : LaneRun :=
  if r.lane.pause then r.toPaused env else r.toReady env

/-! ## Misses (R83) -/

/-- The three steps that end every miss (R83). -/
def LaneRun.endMiss (env : LaneEnv) (r : LaneRun) : LaneRun :=
  { r with
    lane := { r.lane with missWait := none, miss := none },
    msgs := r.msgs ++ [.removeMiss env.lane] }

/-- A miss that ends in REFUSE NOT FOUND (R84 to R86), after the events given. -/
def LaneRun.refuseMiss (env : LaneEnv) (before : List Event) (r : LaneRun) : LaneRun :=
  match r.lane.miss with
  | none => r
  | some m =>
    let r := (r.endMiss env).send env m.pass (.refuse .notFound)
    let r := { r with events := r.events ++ before ++ [refusedEvent env.lane none .notFound] }
    r.finishSlot.resume env

/-! ## Faults (R58, R59) -/

/-- The lane enters FAULT (R59). -/
def LaneRun.toFault (env : LaneEnv) (cause : FaultMark) (r : LaneRun) : LaneRun :=
  let r := r.upd fun ln => { ln with condition := cause.condition }
  let r := if r.lane.state = .waiting then r.endMiss env else r
  let r := r.closeSlots env
  (r.upd fun ln => { ln with window := none, limit := none, gate := false, faultMark := none }).enter env .fault

/-! ## Passage (R55 to R57) -/

/-- The lane submits its ending claim: the gate is lowered (R57). -/
def LaneRun.submitEnding (e : Ending) (r : LaneRun) : LaneRun :=
  r.upd fun ln => { ln with gate := false, ending := e }

/-- The admission ends as its claim is taken (R57). -/
def LaneRun.endAdmission (env : LaneEnv) (r : LaneRun) : LaneRun :=
  let r := r.upd fun ln => { ln with admission := none, ending := .none, exitSeen := false }
  match r.lane.faultMark with
  | some m => r.toFault env m
  | none => if r.lane.state = .closing then r.enter env .closed else r.resume env

/-- A fault met during an admission: its event and the fault mark. -/
def LaneRun.mark (env : LaneEnv) (k : EventKind) (m : FaultMark) (r : LaneRun) : LaneRun :=
  (r.hand (laneEvent k env.lane)).upd fun ln => { ln with faultMark := some m }

/-- Whether a state holds an admission: RELEASED, PASSING, CLOSING (R48). -/
def LaneState.holdsAdmission : LaneState → Bool
  | .released | .passing | .closing => true
  | .closed | .ready | .deciding | .waiting | .paused | .fault => false

/-- An entry beam break, the level aside (R55 to R58). -/
def LaneRun.entryBreak (env : LaneEnv) (r : LaneRun) : LaneRun :=
  match r.lane.state with
  | .closed | .fault => r
  | .ready | .deciding | .waiting | .paused => (r.hand (laneEvent .tailgate env.lane)).toFault env .tailgate
  | .released | .passing | .closing =>
    if r.lane.ending ≠ .none then r.mark env .tailgate .tailgate
    else match r.lane.admission with
      | some { phase := .released, .. } =>
        r.upd fun ln =>
          { ln with
            window := none,
            admission := ln.admission.map fun a => { a with phase := .passing },
            exitSeen := false,
            limit := some (env.now + env.limitMs),
            state := if ln.state = .closing then .closing else .passing }
      | _ => r.mark env .tailgate .tailgate

/-- An exit beam break, the level aside (R55 to R58). -/
def LaneRun.exitBreak (env : LaneEnv) (r : LaneRun) : LaneRun :=
  match r.lane.state with
  | .closed | .fault => r
  | .ready | .deciding | .waiting | .paused => (r.hand (laneEvent .reverse env.lane)).toFault env .reverse
  | .released | .passing | .closing =>
    if r.lane.ending ≠ .none then r.mark env .reverse .reverse
    else match r.lane.admission with
      | some { phase := .passing, .. } => r.upd fun ln => { ln with exitSeen := true }
      | _ => ((r.mark env .reverse .reverse).upd fun ln => { ln with window := none }).submitEnding .withdraw

/-- An exit beam restore, the level aside: it ends a passage whose exit has been seen (R56). -/
def LaneRun.exitRestore (r : LaneRun) : LaneRun :=
  match r.lane.admission with
  | some { phase := .passing, .. } =>
    if r.lane.ending = .none ∧ r.lane.exitSeen then
      (r.upd fun ln => { ln with limit := none }).submitEnding .commit
    else r
  | _ => r

/-! ## Reader messages (R45, R46, R52) -/

/-- Every message that passes its check restarts the reader silence timer (R46). -/
def LaneRun.heard (env : LaneEnv) (r : LaneRun) : LaneRun :=
  r.upd fun ln => { ln with silence := some (env.now + 3000), readerPresent := true }

/-- A presentation whose fields are all defined, or none for a malformed one (R45). -/
def presentationOf (pass : BitVec 32) (media status attempt : Byte) : Option Presentation :=
  match badPass pass.toNat, mediaOfCode media.toNat, readStatusOfCode status.toNat with
  | false, some m, some st =>
    if 1 ≤ attempt.toNat ∧ attempt.toNat ≤ 4 then
      some { pass := pass.toNat, media := m, status := st, attempt := attempt.toNat }
    else none
  | _, _, _ => none

/-- Whether a presentation's pass stands in a slot or in the admission record (R52). -/
def Lane.doubleTap (ln : Lane) (pass : Nat) : Bool :=
  ln.current.any (·.pass == pass) || ln.next.any (·.pass == pass) || ln.admission.any (·.pass == pass)

/-- Whether presentations are answered CLOSED (R52). -/
def LaneState.answersClosed : LaneState → Bool
  | .closed | .closing | .fault => true
  | .ready | .deciding | .waiting | .released | .passing | .paused => false

/-- A PRESENTATION taken at the lane (R45, R52). -/
def LaneRun.present (env : LaneEnv) (pass : Nat) (p : Option Presentation) (r : LaneRun) : LaneRun :=
  if r.lane.state.answersClosed then r.send env pass .closed
  else match p with
    | none => (r.send env pass (.refuse .readFault)).hand (refusedEvent env.lane none .readFault)
    | some p =>
      if r.lane.doubleTap p.pass then r
      else if r.lane.current.isSome ∧ r.lane.next.isSome then r.send env p.pass .wait
      else
        let r := r.upd fun ln =>
          if ln.current.isNone then { ln with current := some p } else { ln with next := some p }
        let r := if r.lane.state = .paused then r.send env p.pass .wait else r
        r.takeUp env 2

/-- The reader silence timer expires (R46). -/
def LaneRun.silent (env : LaneEnv) (r : LaneRun) : LaneRun :=
  let r := r.upd fun ln => { ln with silence := none, readerPresent := false }
  match r.lane.state with
  | .closed => r
  | .ready | .paused | .deciding | .waiting => r.toFault env .readerSilent
  | .released | .passing | .closing => r.upd fun ln => { ln with faultMark := some .readerSilent }
  | .fault => r.upd fun ln => { ln with condition := .readerSilent }

/-! ## Pacing (R60, R61) -/

/-- A start of pacing is taken (R60). -/
def LaneRun.paceStart (env : LaneEnv) (r : LaneRun) : LaneRun :=
  let r := r.upd fun ln => { ln with pause := true }
  match r.lane.state with
  | .ready | .deciding => r.toPaused env
  | .waiting | .released | .passing | .closed | .closing | .fault | .paused => r

/-- An end of pacing is taken (R61). -/
def LaneRun.paceEnd (env : LaneEnv) (r : LaneRun) : LaneRun :=
  let r := r.upd fun ln => { ln with pause := false }
  if r.lane.state = .paused then r.toReady env else r

/-! ## Requests to one lane (R63 to R65) -/

/-- LANE OPEN of one lane (R63); in FAULT the exit beam has nothing more to do (log entry 25). -/
def LaneRun.openLane (env : LaneEnv) (r : LaneRun) : LaneRun :=
  if r.lane.state = .closed then
    let r := r.upd fun ln => { ln with condition := .none, silence := some (env.now + 3000) }
    if r.lane.entryBeam = .broken then (r.hand (laneEvent .tailgate env.lane)).toFault env .tailgate
    else if r.lane.exitBeam = .broken then (r.hand (laneEvent .reverse env.lane)).toFault env .reverse
    else if r.lane.pause then r.toPaused env else r.toReady env
  else r

/-- LANE CLOSE of one lane (R64). -/
def LaneRun.closeLane (env : LaneEnv) (r : LaneRun) : LaneRun :=
  match r.lane.state with
  | .ready | .paused | .deciding => (r.closeSlots env).enter env .closed
  | .waiting =>
    let r := match r.lane.current with
      | some p =>
        (r.send env p.pass (.refuse .laneClosing)).hand (refusedEvent env.lane none .laneClosing)
      | none => r
    ((r.upd fun ln => { ln with current := none }).endMiss env |>.closeSlots env).enter env .closed
  | .released | .passing => (r.closeSlots env).enter env .closing
  | .closed | .closing | .fault => r

/-- LANE RESET of one lane (R65). -/
def LaneRun.resetLane (env : LaneEnv) (r : LaneRun) : LaneRun :=
  if r.lane.state = .fault then
    (r.upd fun ln => { ln with condition := .none, faultMark := none }).enter env .closed
  else r

/-! ## Lamps (R43, R48) -/

/-- The lamps of a present lane: steady ones by its state alone, a blinking one lit while its half second is (R48). -/
def Lane.lamps (ln : Lane) : Lamps :=
  match ln.state with
  | .closed | .closing => { red := true, amber := false, green := false }
  | .ready | .deciding => { red := false, amber := true, green := false }
  | .waiting => { red := false, amber := ln.lampLit, green := false }
  | .released | .passing => { red := false, amber := false, green := true }
  | .paused => { red := true, amber := true, green := false }
  | .fault => { red := ln.lampLit, amber := false, green := false }

/-- The lamp outputs of a lane port; an absent lane's are dark (R43). -/
def State.lampsAt (s : State) (l : LaneNo) : Lamps :=
  if s.lanePresent l then (s.laneAt l).lamps else { red := false, amber := false, green := false }

/-! ## Running a lane's event on the part -/

/-- Whether an event of a lane raises a LANE notice, by the lane before and after it (R51). A reader silence in FAULT whose
condition is READER SILENT already changes nothing and raises none (R51 and R59 read together: the model's choice of log
entry 19). -/
def laneNoticeDue (before after : Lane) : Bool :=
  before.condition != after.condition
    || (before.state != after.state
      && (after.state == .closed || after.state == .closing || after.state == .paused || after.state == .fault
        || before.state == .closed || before.state == .paused))

/-- Runs one event of a present lane: the lane, its tally events in one batch (log entry 8), its messages to the decoder,
and at most one LANE notice (R51). An absent lane takes no event (R43). -/
def State.runLane (l : LaneNo) (f : LaneEnv → LaneRun → LaneRun) (s : State) : State :=
  if s.lanePresent l then
    let before := s.laneAt l
    let r := f (s.laneEnv l) { lane := before, events := [], msgs := [] }
    let notice := if laneNoticeDue before r.lane then [LaneMsg.notice (.lane l r.lane.state r.lane.condition)] else []
    ((s.setLane l r.lane).handEvents r.events).raiseLane (r.msgs ++ notice)
  else s

/-- Runs the same event on several lanes, in the order given. -/
def State.runLanes (ls : List LaneNo) (f : LaneEnv → LaneRun → LaneRun) (s : State) : State :=
  ls.foldl (fun s l => s.runLane l f) s

/-! ## Meanings: reader messages -/

/-- PRESENCE (R46). -/
def execPresence (l : LaneNo) (s : State) : Host.Outcome State Fault Refusal :=
  .next (s.runLane l fun env r => r.heard env)

/-- A PRESENTATION's event at its lane. -/
def State.takePresentation (l : LaneNo) (pass : BitVec 32) (media status attempt : Byte) (s : State) : State :=
  s.runLane l fun env r => (r.heard env).present env pass.toNat (presentationOf pass media status attempt)

/-- PRESENTATION (R45, R52 to R54). -/
def execPresentation (l : LaneNo) (pass : BitVec 32) (media status attempt : Byte) (s : State) :
    Host.Outcome State Fault Refusal :=
  .next (s.takePresentation l pass media status attempt)

/-- What a burst from a reader is (R45, Reader messages). -/
inductive Burst where
  | presence
  | presentation (pass : BitVec 32) (media status attempt : Byte)
  | discarded
  deriving DecidableEq, Repr

/-- Judges a burst by its check byte, its kind and the length its kind gives (R45, Reader messages). -/
def judgeBurst (burst : List Byte) : Burst :=
  if checkHolds burst then
    match (byteAt burst 0).toNat, burst.length with
    | 1, 2 => .presence
    | 2, 9 =>
      .presentation (BitVec.ofNat 32 (fieldAt burst 1 4)) (byteAt burst 5) (byteAt burst 6) (byteAt burst 7)
    | _, _ => .discarded
  else .discarded

/-- DISCARDED READER MESSAGE (R45): a burst that fails its check or is of no defined kind has no effect. A burst that is a
message after all is taken as that message (log entry 6). -/
def execDiscardedReaderMessage (l : LaneNo) (burst : List Byte) (s : State) : Host.Outcome State Fault Refusal :=
  .next <| match judgeBurst burst with
    | .discarded => s
    | .presence => s.runLane l fun env r => r.heard env
    | .presentation pass media status attempt => s.takePresentation l pass media status attempt

/-- READER SILENCE: the expiry of the reader silence timer (R46). -/
def execReaderSilence (l : LaneNo) (s : State) : Host.Outcome State Fault Refusal :=
  .next (if due s.now (s.laneAt l).silence then s.runLane l fun env r => r.silent env else s)

/-! ## Meanings: beams -/

/-- BEAM SETTLE: 50 ms after a reset the levels are sampled afresh, with no break or restore event (R44). -/
def execBeamSettle (entryBroken exitBroken : LaneMask) (s : State) : Host.Outcome State Fault Refusal :=
  .next <|
    if due s.now s.lanes.settleAt then
      s.updLanes fun c =>
        { c with
          settleAt := none,
          lane := Vector.ofFn fun l : Fin 8 =>
            if s.lanePresent l then
              { c.lane[l] with
                entryBeam := if entryBroken.getLsbD l then .broken else .clear,
                exitBeam := if exitBroken.getLsbD l then .broken else .clear }
            else c.lane[l] }
    else s

/-- The level the lane holds for a beam (R44). -/
def Lane.beam (ln : Lane) : Beam → Level
  | .entry => ln.entryBeam
  | .exit => ln.exitBeam

/-- Sets the level held for a beam. -/
def Lane.setBeam (b : Beam) (v : Level) (ln : Lane) : Lane :=
  match b with
  | .entry => { ln with entryBeam := v }
  | .exit => { ln with exitBeam := v }

/-- BEAM BREAK: a filtered change of a settled beam from CLEAR to BROKEN (R44, R55 to R58). -/
def execBeamBreak (l : LaneNo) (b : Beam) (s : State) : Host.Outcome State Fault Refusal :=
  .next <|
    if s.lanes.settleAt = none ∧ (s.laneAt l).beam b = .clear then
      s.runLane l fun env r =>
        let r := r.upd (Lane.setBeam b .broken)
        match b with
        | .entry => r.entryBreak env
        | .exit => r.exitBreak env
    else s

/-- BEAM RESTORE: a filtered change of a settled beam from BROKEN to CLEAR (R44, R56). -/
def execBeamRestore (l : LaneNo) (b : Beam) (s : State) : Host.Outcome State Fault Refusal :=
  .next <|
    if s.lanes.settleAt = none ∧ (s.laneAt l).beam b = .broken then
      s.runLane l fun _ r =>
        let r := r.upd (Lane.setBeam b .clear)
        match b with
        | .entry => r
        | .exit => r.exitRestore
    else s

/-! ## Meanings: lane timers -/

/-- PASSAGE WINDOW EXPIRY: the lane submits the withdraw claim (R55). -/
def execPassageWindowExpiry (l : LaneNo) (s : State) : Host.Outcome State Fault Refusal :=
  .next (if due s.now (s.laneAt l).window then
    s.runLane l fun _ r => (r.upd fun ln => { ln with window := none }).submitEnding .withdraw else s)

/-- PASSING LIMIT EXPIRY: STUCK, and the lane submits the commit claim (R56). -/
def execPassingLimitExpiry (l : LaneNo) (s : State) : Host.Outcome State Fault Refusal :=
  .next (if due s.now (s.laneAt l).limit then
    s.runLane l fun env r =>
      ((r.upd fun ln => { ln with limit := none }).mark env .stuck .stuck).submitEnding .commit else s)

/-- MISS WAIT EXPIRY (R85). -/
def execMissWaitExpiry (l : LaneNo) (s : State) : Host.Outcome State Fault Refusal :=
  .next (if due s.now (s.laneAt l).missWait then
    s.runLane l fun env r => r.refuseMiss env [laneEvent .missExpired l] else s)

/-- TONE END: 300 ms after the last REFUSE (R49). -/
def execToneEnd (l : LaneNo) (s : State) : Host.Outcome State Fault Refusal :=
  .next (if due s.now (s.laneAt l).toneAt then
    s.runLane l fun _ r => r.upd fun ln => { ln with toneAt := none } else s)

/-- LAMP BLINK: 500 ms lit, 500 ms dark (R48). -/
def execLampBlink (l : LaneNo) (s : State) : Host.Outcome State Fault Refusal :=
  .next (if due s.now (s.laneAt l).blinkAt then
    s.runLane l fun _ r => r.upd fun ln =>
      { ln with lampLit := !ln.lampLit, blinkAt := ln.blinkAt.map (· + 500) } else s)

/-! ## Meanings: pacing and line drop -/

/-- PACING START: the lane takes the first of its pacing reports, a start (R60). -/
def execPacingStart (l : LaneNo) (s : State) : Host.Outcome State Fault Refusal :=
  .next <| match (s.laneAt l).pacing with
    | .start :: rest => s.runLane l fun env r => (r.upd fun ln => { ln with pacing := rest }).paceStart env
    | _ => s

/-- PACING END: the lane takes the first of its pacing reports, an end (R61). -/
def execPacingEnd (l : LaneNo) (s : State) : Host.Outcome State Fault Refusal :=
  .next <| match (s.laneAt l).pacing with
    | .stop :: rest => s.runLane l fun env r => (r.upd fun ln => { ln with pacing := rest }).paceEnd env
    | _ => s

/-- LINE DROP AT LANES: every WAITING lane ends its miss with REFUSE NOT FOUND (R86), the lanes in ascending order, which the
spec leaves open (the model's choice of log entry 30). -/
def execLineDropAtLanes (s : State) : Host.Outcome State Fault Refusal :=
  .next <|
    if s.lanes.drops = 0 then s
    else (s.updLanes fun c => { c with drops := c.drops - 1 }).runLanes s.presentLanes fun env r => r.refuseMiss env []

/-! ## Meanings: lane requests (R62 to R66) -/

/-- Whether a lane mask is refused: it selects no lane, or an absent one (R62). -/
def State.badLaneMask (s : State) (mask : LaneMask) : Bool := mask == 0 || (lanesOf mask).any fun l => !s.lanePresent l

/-- The answer list of LANE OPEN, LANE CLOSE and LANE RESET: each lane of the mask with its state (R62). -/
def State.laneListImage (s : State) (mask : LaneMask) : List Byte :=
  imgList ((lanesOf mask).map fun l => imgLane l ++ img1 (s.laneAt l).state.code)

/-- LANE OPEN, LANE CLOSE and LANE RESET alike: each lane of the mask takes the event, and the answer lists them (R62). The
lanes take it in ascending order, in which their LANE notices are raised; the spec orders the answer list alone (the model's
choice of log entry 30). -/
def State.laneRequest (o : Origin) (mask : LaneMask) (f : LaneEnv → LaneRun → LaneRun) (s : State) : State :=
  let s := s.runLanes (lanesOf mask) f
  s.complete o (s.laneListImage mask)

/-- LANE OPEN (R62, R63). A bad mask fails BAD ARGUMENT before NOT READY is tested, an order the spec leaves open (the model's
choice of log entry 29). -/
def execLaneOpen (o : Origin) (s : State) : Host.Outcome State Fault Refusal :=
  .next <| match s.waitingRequest o with
    | some (.laneOpen mask) =>
      if s.badLaneMask mask then s.fail o .badArgument none (blockField 4)
      else if s.clock.state ≠ .running ∨ s.clearing ∨ s.lanes.settleAt ≠ none then s.fail o .notReady none none
      else s.laneRequest o mask fun env r => r.openLane env
    | _ => s

/-- LANE CLOSE (R62, R64). -/
def execLaneClose (o : Origin) (s : State) : Host.Outcome State Fault Refusal :=
  .next <| match s.waitingRequest o with
    | some (.laneClose mask) =>
      if s.badLaneMask mask then s.fail o .badArgument none (blockField 4)
      else s.laneRequest o mask fun env r => r.closeLane env
    | _ => s

/-- LANE RESET (R62, R65). -/
def execLaneReset (o : Origin) (s : State) : Host.Outcome State Fault Refusal :=
  .next <| match s.waitingRequest o with
    | some (.laneReset mask) =>
      if s.badLaneMask mask then s.fail o .badArgument none (blockField 4)
      else s.laneRequest o mask fun env r => r.resetLane env
    | _ => s

/-- A slot in a LANE STATUS record; an empty slot's attempt number is 0 (log entry 15). -/
def slotImage (p : Option Presentation) : List Byte :=
  imgPass (p.map (·.pass)) ++ imgOpt1 (p.map (·.media.code)) ++ imgOpt1 (p.map (·.status.code))
    ++ img1 ((p.map (·.attempt)).getD 0)

/-- The running one of the passage window, passing limit and miss wait timers (R66). -/
def Lane.runningTimer (ln : Lane) : Option Nat := ln.window <|> ln.limit <|> ln.missWait

/-- A lane's record in LANE STATUS (R66); beams still unsettled read BROKEN (R44). -/
def laneImage (settled : Bool) (ln : Lane) : List Byte :=
  let level (v : Level) := img1 (if settled then v.code else Level.broken.code)
  img1 ln.state.code ++ img1 ln.condition.code ++ imgFlag ln.pause
    ++ imgOpt1 (ln.faultMark.map (·.condition.code)) ++ imgFlag ln.readerPresent
    ++ level ln.entryBeam ++ level ln.exitBeam ++ slotImage ln.current ++ slotImage ln.next
    ++ imgPass (ln.admission.map (·.pass)) ++ imgOpt1 (ln.admission.map (·.day))
    ++ imgOpt1 (ln.admission.map (flagCode ·.consume)) ++ imgTimebase (ln.admission.map (·.release))
    ++ imgOpt1 (ln.admission.map (·.phase.code)) ++ img1 ln.ending.code
    ++ imgPass (ln.miss.map (·.pass)) ++ imgTimebase (ln.miss.map (·.start)) ++ imgTimebase ln.runningTimer

/-- LANE STATUS (R62, R66). -/
def execLaneStatus (o : Origin) (s : State) : Host.Outcome State Fault Refusal :=
  .next <| match s.waitingRequest o with
    | some (.laneStatus mask) =>
      if s.badLaneMask mask then s.fail o .badArgument none (blockField 4)
      else s.complete o (imgList ((lanesOf mask).map fun l => laneImage s.lanes.settleAt.isNone (s.laneAt l)))
    | _ => s

end Sys2Proof.Machine
end

