-- ==== Sys2Proof/Machine/Tallying.lean ====
section
/-! DEFINITION. The tally unit (Chapter 8): counting, arming, crossing, pacing, the interval and the history ring, and the
tally requests. -/

namespace Sys2Proof.Machine

/-! ## Counters -/

/-- Whether a counter is enabled (R147). -/
def Counter.enabled (c : Counter) : Bool := c.program.kind.isSome

/-- A counter zeroed, its program kept (R147). -/
def Counter.zero (c : Counter) : Counter := Counter.zeroed c.program

/-- Whether a counter is frozen (R147). -/
def Counter.frozen (c : Counter) : Bool := c.crossed && c.program.freeze

/-- The lane filter of R150: an event without a lane passes only when every present lane is selected. -/
def laneFilter (present : List LaneNo) (p : Program) (e : Event) : Bool :=
  match e.lane with
  | some l => p.lanes.getLsbD l
  | none => present.all fun l => p.lanes.getLsbD l

/-- The class filter of R150. -/
def classFilter (p : Program) (e : Event) : Bool :=
  match e.cls with
  | some c => p.classes.getLsbD c.code
  | none => p.classes == 0xF

/-- The reason filter of R150. -/
def reasonFilter (p : Program) (e : Event) : Bool :=
  match e.kind, e.reason with
  | .refused, some r => p.reasons.getLsbD r.code
  | .refused, none => false
  | _, _ => true

/-- Whether a counter counts an event, by the six conditions of R150. -/
def Counter.counts (present : List LaneNo) (e : Event) (c : Counter) : Bool :=
  c.program.kind == some e.kind && laneFilter present c.program e && classFilter c.program e
    && reasonFilter c.program e && (c.program.armSource.isNone || c.armed) && !c.frozen

/-- Whether counting the event makes the counter cross (R152). -/
def Counter.crosses (present : List LaneNo) (e : Event) (c : Counter) : Bool :=
  c.counts present e && decide (c.value < 4294967295) && decide (c.program.threshold ≠ 0)
    && c.value + 1 == c.program.threshold

/-- The counter after the event is offered to it, arming aside (R150, R152). -/
def Counter.offer (present : List LaneNo) (at_ : Stamp) (e : Event) (c : Counter) : Counter :=
  if c.counts present e then
    let v := nextCount32 c.value
    if c.crosses present e then { c with value := v, crossed := true, crossedAt := some at_ }
    else { c with value := v }
  else c

/-- Whether a counter is armed by the crossing of one of these counters (R151, R153). -/
def Counter.armedBy (crossing : List CounterNo) (c : Counter) : Bool :=
  c.enabled && c.program.armSource.any fun k => crossing.contains k

/-- The TALLY notice of a crossing, for action NOTICE or PACE (R153). -/
def crossingNotice (k : CounterNo) (c : Counter) (at_ : Stamp) : List Notice :=
  match c.program.action with
  | .none => []
  | .notice | .pace => [.tally k c.program.action c.program.threshold at_]

/-- The counters that an event makes cross, in ascending number, in which their TALLY notices are raised; the spec leaves that
order open (the model's choice of log entry 35). -/
def Tally.crossing (present : List LaneNo) (e : Event) (t : Tally) : List CounterNo :=
  (List.finRange 12).filter fun k => (t.counters[k]).crosses present e

/-- The tally unit after one event: every counter judged as it stood before it, then the arming (R149 to R153). -/
def Tally.take (present : List LaneNo) (at_ : Stamp) (e : Event) (t : Tally) : Tally :=
  let crossing := t.crossing present e
  { t with counters := t.counters.map fun c =>
      let c' := c.offer present at_ e
      if c.armedBy crossing then { c' with armed := true } else c' }

/-! ## Pacing (R154) -/

/-- Whether the counters pace a lane (R154). -/
def Tally.paces (t : Tally) (l : LaneNo) : Bool :=
  t.counters.any fun c => c.enabled && c.program.action == .pace && c.crossed && c.program.lanes.getLsbD l

/-- What a change of the counters reports to a lane (R154). -/
def pacingReport (before after : Bool) : List PacingReport :=
  match before, after with
  | false, true => [.start]
  | true, false => [.stop]
  | _, _ => []

/-- Puts the tally unit in its new condition and reports to each present lane the change of its standing (R154). -/
def State.setTally (t : Tally) (s : State) : State :=
  let before := s.tally
  let present := s.lanePresent
  (s.updTally fun _ => t).updLanes fun c =>
    { c with lane := Vector.ofFn fun l : Fin 8 =>
        if present l then
          { c.lane[l] with pacing := c.lane[l].pacing ++ pacingReport (before.paces l) (t.paces l) }
        else c.lane[l] }

/-! ## The interval (R156 to R159) -/

/-- The next boundary from a reference second: the smallest whole multiple of the length above it (R156). -/
def nextBoundary (length s : Nat) : Boundary :=
  let m := (s / length + 1) * length
  if 86400 ≤ m then .rollover else .second m

/-- Computes the next boundary, with the profile's tally interval as it stands (R156). -/
def Tally.rebound (intervalMin ref : Nat) (t : Tally) : Tally :=
  { t with length := intervalMin * 60, boundary := nextBoundary (intervalMin * 60) ref }

/-- One second lived, by an advance or a rollover (R157). -/
def Tally.live (t : Tally) : Tally := { t with lived := nextCount32 t.lived }

/-- The interval record of a close (R158, R160). -/
def Tally.recordOf (at_ : Stamp) (t : Tally) : IntervalRecord :=
  { close := at_, lived := t.lived,
    values := (List.finRange 12).filterMap fun k =>
      let c := t.counters[k]
      if c.enabled ∧ c.program.history then some (k, c.value) else none }

/-- Appends a record; a full ring first drops its oldest, and a cursor that names it moves to the next (R162). -/
def Tally.append (r : IntervalRecord) (t : Tally) : Tally :=
  if t.ring.length < 96 then { t with ring := t.ring ++ [r] }
  else
    { t with
      ring := t.ring.tail ++ [r], stationCursor := t.stationCursor - 1, officeCursor := t.officeCursor - 1 }

/-- Retires the records that both cursors have passed (R161). -/
def Tally.retire (t : Tally) : Tally :=
  let n := min t.stationCursor t.officeCursor
  { t with ring := t.ring.drop n, stationCursor := t.stationCursor - n, officeCursor := t.officeCursor - n }

/-- A counter at an interval close: zeroed when it counts by interval (R158). -/
def Counter.endInterval (c : Counter) : Counter := if c.enabled ∧ c.program.interval then c.zero else c

/-- The interval close with its stamp; the reference of the next boundary is the stamp's second (R158). -/
def Tally.close (intervalMin : Nat) (at_ : Stamp) (t : Tally) : Tally :=
  let kept := t.append (t.recordOf at_)
  Tally.rebound intervalMin at_.second
    { kept with counters := kept.counters.map Counter.endInterval, lived := 0 }

/-- Whether the operating second has reached the next boundary and the interval is still to be closed (R157, log entry 11). -/
def State.closeDue (s : State) : Bool := s.tally.phaseOpen && s.tally.boundary == .second s.clock.second

/-- The interval close of a boundary that is reached (R158). -/
def State.closeInterval (s : State) : State :=
  s.setTally (s.tally.close s.decoder.profile.tallyInterval s.stamp)

/-- A close that is due is made before the clock's next second is handed (log entry 11). -/
def State.settleClose (s : State) : State := if s.closeDue then s.closeInterval else s

/-! ## Meanings: events and interval -/

/-- TALLY EVENT: one handed event, taken whole (R149 to R154). The batch is the events of one claim or event, which are
taken in their order; batches have no order between them (log entry 8). -/
def execTallyEvent (batch : Nat) (s : State) : Host.Outcome State Fault Refusal :=
  .next <| match s.tally.inbox[batch]? with
    | some (e :: rest) =>
      let inbox :=
        if rest.isEmpty then s.tally.inbox.eraseIdx batch else s.tally.inbox.set batch rest
      let crossing := s.tally.crossing s.presentLanes e
      let t := { s.tally.take s.presentLanes s.stamp e with inbox := inbox }
      (s.raiseTally (crossing.flatMap fun k => crossingNotice k s.tally.counters[k] s.stamp)).setTally t
    | _ => s

/-- INTERVAL CLOSE (R157, R158). -/
def execIntervalClose (s : State) : Host.Outcome State Fault Refusal :=
  .next s.settleClose

/-! ## Tally requests (R163 to R167) -/

/-- The program its 16 bytes spell, once its fields are defined. -/
def programOf (kind : Option EventKind) (bs : List Byte) : Program :=
  match kind with
  | none => .disabled
  | some k =>
    let arm := fieldAt bs 6 1
    { kind := some k, lanes := byteAt bs 1, classes := BitVec.ofNat 4 (fieldAt bs 2 1),
      reasons := BitVec.ofNat 13 (fieldAt bs 4 2), threshold := fieldAt bs 8 4,
      action := (tallyActionOfCode (fieldAt bs 3 1)).getD .none, freeze := (byteAt bs 7).getLsbD 0,
      armSource := if h : arm < 12 then some ⟨arm, h⟩ else none,
      interval := (byteAt bs 7).getLsbD 1, history := (byteAt bs 7).getLsbD 2 }

/-- The tests of R163, in order: the byte of the data phase at fault, or the program. The counter number has been tested.
Where test 7 or test 9 fails by two fields together, the byte is that of the reason mask or of the threshold; a reserved bit
of the two-byte reason mask names byte 5, which holds it, not the field's first byte (both the model's choices of log entry
17). -/
def checkProgram (badLanes : LaneMask → Bool) (counter : CounterNo) (bs : List Byte) : Except Nat Program :=
  let reserved : List (Nat × Byte) :=
    [(2, 0xF0), (5, 0xE0), (7, 0xF8), (12, 0xFF), (13, 0xFF), (14, 0xFF), (15, 0xFF)]
  match reserved.find? fun (off, mask) => byteAt bs off &&& mask != 0 with
  | some (off, _) => .error off
  | none =>
    match eventKindOfCode (fieldAt bs 0 1) with
    | none => .error 0
    | some none => .ok .disabled
    | some (some k) =>
      if badLanes (byteAt bs 1) then .error 1
      else if byteAt bs 2 = 0 then .error 2
      else if k = .refused ↔ fieldAt bs 4 2 = 0 then .error 4
      else match tallyActionOfCode (fieldAt bs 3 1) with
        | none => .error 3
        | some a =>
          if (a ≠ .none ∨ (byteAt bs 7).getLsbD 0) ∧ fieldAt bs 8 4 = 0 then .error 8
          else if fieldAt bs 6 1 ≠ 255 ∧ (11 < fieldAt bs 6 1 ∨ fieldAt bs 6 1 = counter.val) then .error 6
          else .ok (programOf (some k) bs)

/-- A counter as TALLY READ gives it (R166). -/
def Counter.image (c : Counter) : List Byte :=
  c.program.image ++ img4 c.value ++ imgFlag c.crossed ++ imgTime c.crossedAt ++ imgFlag c.armed ++ imgFlag c.frozen

/-- The counters a mask selects, in ascending number. -/
def countersOf (mask : CounterMask) : List CounterNo := (List.finRange 12).filter fun k => mask.getLsbD k

/-- TALLY PROGRAM (R163, R164). -/
def execTallyProgram (o : Origin) (s : State) : Host.Outcome State Fault Refusal :=
  .next <| match s.waitingRequest o with
    | some (.tallyProgram n bs) =>
      if h : n < 12 then
        match checkProgram s.badLaneMask ⟨n, h⟩ bs with
        | .error off => s.fail o .badArgument none (dataField off)
        | .ok p =>
          let c := Counter.zeroed p
          (s.setTally { s.tally with counters := s.tally.counters.set n c }).complete o
            (img1 n ++ p.image ++ img4 c.value ++ imgFlag c.crossed ++ imgTime c.crossedAt ++ imgFlag c.armed)
      else s.fail o .badArgument none (blockField 4)
    | _ => s

/-- TALLY CLEAR (R165). -/
def execTallyClear (o : Origin) (s : State) : Host.Outcome State Fault Refusal :=
  .next <| match s.waitingRequest o with
    | some (.tallyClear mask) =>
      if mask = 0 then s.fail o .badArgument none none
      else
        let t := { s.tally with
          counters := Vector.ofFn fun k : Fin 12 =>
            if mask.getLsbD k then (s.tally.counters[k]).zero else s.tally.counters[k] }
        (s.setTally t).complete o (imgList ((countersOf mask).map fun k => (t.counters[k]).image))
    | _ => s

/-- The set of present lanes that are paced (R166). -/
def State.pacedMask (s : State) : Nat :=
  (s.presentLanes.map fun l => if s.tally.paces l then 2 ^ l.val else 0).sum

/-- TALLY READ (R166). -/
def execTallyRead (o : Origin) (s : State) : Host.Outcome State Fault Refusal :=
  .next <| match s.waitingRequest o with
    | some (.tallyRead mask) =>
      if mask = 0 then s.fail o .badArgument none none
      else s.complete o
        (imgList ((countersOf mask).map fun k => (s.tally.counters[k]).image)
          ++ imgFlag s.tally.phaseOpen ++ img2 s.tally.length ++ imgBoundary s.tally.boundary ++ img4 s.tally.lived
          ++ img1 s.pacedMask)
    | _ => s

/-- An origin's cursor (R161). -/
def Tally.cursor (t : Tally) : Origin → Nat
  | .station => t.stationCursor
  | .office => t.officeCursor

/-- Moves an origin's cursor on. -/
def Tally.moveCursor (o : Origin) (n : Nat) (t : Tally) : Tally :=
  match o with
  | .station => { t with stationCursor := t.stationCursor + n }
  | .office => { t with officeCursor := t.officeCursor + n }

/-- HISTORY READ (R167): the records from the origin's cursor, and without peek the cursor past them. -/
def execHistoryRead (o : Origin) (s : State) : Host.Outcome State Fault Refusal :=
  .next <| match s.waitingRequest o with
    | some (.historyRead count peek) =>
      if 8 < count then s.fail o .badArgument none none
      else
        let ahead := s.tally.ring.drop (s.tally.cursor o)
        let got := ahead.take (if count = 0 then 8 else count)
        let s' := if peek then s else s.updTally fun t => (t.moveCursor o got.length).retire
        let left := if peek then ahead.length else ahead.length - got.length
        s'.complete o (img2 got.length ++ img2 left ++ (got.map (·.image)).flatten)
    | _ => s

end Sys2Proof.Machine
end

