-- ==== Sys2Proof/Machine/Clockwork.lean ====
section
/-! DEFINITION. The clock (Chapter 2): the operating second, rollover, CLOCK SET and CLOCK READ, and the millisecond that
passes on an empty queue. -/

namespace Sys2Proof.Machine

/-- The clock at a rollover (R32). -/
def Clock.roll (c : Clock) : Clock :=
  let c := { c with second := 0, phase := 0 }
  match c.state with
  | .running =>
    if c.day < c.lastDay then { c with day := c.day + 1 } else { c with day := c.day + 1, state := .ended }
  | .ended => if c.day < 239 then { c with day := c.day + 1 } else c
  | .unset => c

/-- A rollover: the clock's part, then the tally unit's interval close, stamped as the rollover left the clock (R32, R157). -/
def State.rollOver (s : State) : State :=
  let s := s.settleClose.updClock Clock.roll
  if s.tally.phaseOpen then s.setTally (s.tally.live.close s.decoder.profile.tallyInterval s.stamp) else s

/-- An advance of the operating second, handed to the tally unit (R31, R157). -/
def State.advanceSecond (s : State) : State :=
  let s := s.settleClose.updClock fun c => { c with second := c.second + 1, phase := 0 }
  if s.tally.phaseOpen then s.updTally Tally.live else s

/-- The milliseconds left in the operating second pass on the timebase (R30, R31, log entry 3). -/
def State.finishSecond (s : State) : State := s.updClock fun c => advanceTimebase (1000 - c.phase) c

/-- OPERATING SECOND ADVANCE (R31): the second phase passes 999 within a running day. -/
def execOperatingSecondAdvance (s : State) : Host.Outcome State Fault Refusal :=
  .next (if s.clock.state ≠ .unset ∧ s.clock.second < 86399 then s.finishSecond.advanceSecond else s)

/-- ROLLOVER (R32): the operating second would pass 86399. -/
def execRollover (s : State) : Host.Outcome State Fault Refusal :=
  .next (if s.clock.state ≠ .unset ∧ 86399 ≤ s.clock.second then s.finishSecond.rollOver else s)

/-- One millisecond: what a step does on an empty queue (R30, R31, log entry 2). -/
def tick (s : State) : State :=
  if s.clock.state = .unset then s.updClock (advanceTimebase 1)
  else if s.clock.phase < 999 then s.updClock fun c => advanceTimebase 1 { c with phase := c.phase + 1 }
  else if s.clock.second < 86399 then s.finishSecond.advanceSecond
  else s.finishSecond.rollOver

/-! ## CLOCK SET (R34, R35, R159) -/

/-- The argument tests of R34, in order: the offset of the field at fault. -/
def checkClockSet (c : Clock) (a : ClockSetArgs) : Option Nat :=
  if 239 < a.day then some 4
  else if 86399 < a.second then some 8
  else if 238 < a.lastDay then some 5
  else if c.state ≠ .unset ∧ a.day < c.day then some 4
  else if a.lastDay < a.day then some 5
  else none

/-- The clock takes the values of a set (R35). -/
def Clock.setTo (a : ClockSetArgs) (c : Clock) : Clock :=
  { c with state := .running, day := a.day, second := a.second, phase := 0, lastDay := a.lastDay }

/-- A CLOCK SET that passed its tests, with what the tally unit makes of it (R35, R159). -/
def State.applyClockSet (a : ClockSetArgs) (s : State) : State :=
  let interval := s.decoder.profile.tallyInterval
  if s.clock.state = .unset then
    (s.updClock (Clock.setTo a)).updTally fun t => { t with phaseOpen := true, lived := 0 }.rebound interval a.second
  else if a.day = s.clock.day then
    let ref := max a.second s.clock.second
    (s.updClock (Clock.setTo a)).updTally (Tally.rebound interval ref)
  else
    let rolled := s.updClock Clock.roll
    let closed :=
      if rolled.tally.phaseOpen then rolled.setTally (rolled.tally.live.close interval rolled.stamp) else rolled
    (closed.updClock (Clock.setTo a)).updTally (Tally.rebound interval a.second)

/-- The clock as CLOCK READ and CLOCK SET answer it (R35, R37). -/
def Clock.image (c : Clock) : List Byte :=
  img1 c.state.code ++ img1 c.day ++ img4 c.second ++ img2 c.phase ++ img1 c.lastDay ++ imgTimebase (some c.timebase)

/-- CLOCK SET, from an origin or by broadcast (R34 to R36). -/
def execClockSet (src : Source) (s : State) : Host.Outcome State Fault Refusal :=
  .next <| match src with
    | .own o =>
      match s.waitingRequest o with
      | some (.clockSet a) =>
        if o = .station ∧ s.link.state = .up then s.fail o .notPermitted none none
        else match checkClockSet s.clock a with
          | some off => s.fail o .badArgument none (blockField off)
          | none =>
            let s := s.applyClockSet a
            s.complete o s.clock.image
      | _ => s
    | .broadcast =>
      match s.clock.broadcasts with
      | a :: rest =>
        let s := s.updClock fun c => { c with broadcasts := rest }
        match checkClockSet s.clock a with
        | some _ => s
        | none => s.applyClockSet a
      | [] => s

/-- CLOCK READ (R37). -/
def execClockRead (o : Origin) (s : State) : Host.Outcome State Fault Refusal :=
  .next <| match s.waitingRequest o with
    | some .clockRead => s.complete o s.clock.image
    | _ => s

end Sys2Proof.Machine
end

