-- ==== Sys2Proof/Machine/Passes.lean ====
section
/-! DEFINITION. The pass table's requests (Chapter 1): insert and eviction, drop, read, find, size and clear. -/

namespace Sys2Proof.Machine

/-! ## Inserting (R14 to R17) -/

/-- The argument checks of PASS INSERT, in order: the offset of the field at fault (R14). -/
def checkInsert (a : InsertArgs) : Option Nat :=
  if badPass a.pass then some 4
  else if classOfCode a.cls = none then some 8
  else if kindOfCode a.kind = none then some 9
  else if kindOfCode a.kind = some .days ∧ (a.entitled < 1 ∨ 30 < a.entitled) then some 10
  else if 239 < a.first then some 11
  else if 239 < a.last then some 12
  else if a.last < a.first then some 11
  else none

/-- The class of an insert whose arguments have passed. -/
def InsertArgs.passClass (a : InsertArgs) : PassClass := (classOfCode a.cls).getD .adult

/-- The kind of an insert whose arguments have passed. -/
def InsertArgs.passKind (a : InsertArgs) : PassKind := (kindOfCode a.kind).getD .days

/-- Entitled days as held: 0 for a SEASON record (R1). -/
def InsertArgs.heldEntitled (a : InsertArgs) : Nat :=
  match a.passKind with
  | .days => a.entitled
  | .season => 0

/-- The record an insert creates, in the state given (R5, R15). -/
def InsertArgs.newRecord (a : InsertArgs) (state : RecordState) : PassRecord :=
  { pass := a.pass, cls := a.passClass, kind := a.passKind, entitled := a.heldEntitled, first := a.first,
    last := a.last, used := a.used, unreported := 0, state := state, inFlight := none, lastPassage := none,
    ridesSeason := 0, ridesToday := 0, holdLapsed := false }

/-- A record with its product fields replaced (R17). -/
def InsertArgs.replace (a : InsertArgs) (r : PassRecord) : PassRecord :=
  { r with
    cls := a.passClass, kind := a.passKind, entitled := a.heldEntitled, first := a.first, last := a.last,
    used := joinDays r.used a.used }

/-- Whether an entry of the open collection names a pass, void or not (R10, R133). -/
def Settlement.collected (u : Settlement) (p : Nat) : Bool :=
  match u.collection with
  | none => false
  | some c => c.entries.any fun e => e.pass == p

/-- Whether a record is evictable (R10). -/
def State.evictable (s : State) (r : PassRecord) : Bool :=
  r.state != .held && r.inFlight.isNone && r.unreported == 0 && !s.settlement.collected r.pass

/-- The least recent evictable record's pass (R16). -/
def State.evictee (s : State) : Option Nat :=
  s.table.recency.reverse.find? fun p => (s.record p).any s.evictable

/-- The owner of the HELD hold on a pass (R109). -/
def State.holder (s : State) (p : Nat) : Option Origin :=
  (s.settlement.holds.find? fun e => e.pass == p && e.phase == .held).map (·.owner)

/-- FAILED DOUBLE to the owner of a HELD hold, HELD BY OTHER to the other origin (R17, R18). -/
def State.failHeld (o : Origin) (p : Nat) (s : State) : State :=
  if s.holder p = some o then s.fail o .double (some p) none else s.fail o .heldByOther (some p) none

/-- The lane whose miss record names a pass (R82). -/
def State.missLane (s : State) (p : Nat) : Option LaneNo :=
  s.presentLanes.find? fun l => (s.laneAt l).miss.any (·.pass == p)

/-- A miss ends by insert: the lane submits a new decision claim, or enters PAUSED (R84). -/
def LaneRun.missInserted (env : LaneEnv) (r : LaneRun) : LaneRun :=
  let r := r.endMiss env
  if r.lane.pause then r.toPaused env else r.enter env .deciding

/-- Tells the lane that waits for this pass, if any (R15, R84). -/
def State.tellMiss (p : Nat) (f : LaneEnv → LaneRun → LaneRun) (s : State) : State :=
  match s.missLane p with
  | some l => s.runLane l f
  | none => s

/-- Creates the record, the table having room; `evicted` is the pass evicted for it (R15). -/
def State.createPass (o : Origin) (a : InsertArgs) (evicted : Option Nat) (s : State) : State :=
  let state := s.table.listState a.pass
  let s := s.updTable (Table.create (a.newRecord state))
  let s := s.tellMiss a.pass fun env r => r.missInserted env
  s.complete o (img1 0 ++ img1 state.code ++ imgPass evicted)

/-- PASS INSERT of a pass that has no record (R15, R16). -/
def State.insertNew (o : Origin) (a : InsertArgs) (s : State) : State :=
  if s.table.records.length < 8192 then s.createPass o a none
  else match s.evictee with
    | some p => (s.updTable (Table.remove p)).createPass o a (some p)
    | none =>
      (s.tellMiss a.pass fun env r => r.refuseMiss env []).fail o .tableFull (some a.pass) none

/-- PASS INSERT of a pass that has a record (R17). -/
def State.insertOver (o : Origin) (a : InsertArgs) (r : PassRecord) (s : State) : State :=
  if r.inFlight.isSome then s.busy o
  else match r.state with
    | .held => s.failHeld o a.pass
    | .settled => s.fail o .settled (some a.pass) none
    | .active | .revoked =>
      ((s.updRecord a.pass a.replace).updTable (Table.toHead a.pass)).complete o (img1 1 ++ img1 r.state.code)

/-- PASS INSERT (R14 to R17). -/
def execPassInsert (o : Origin) (s : State) : Host.Outcome State Fault Refusal :=
  .next <| match s.waitingRequest o with
    | some (.passInsert a) => s.tableClaim o fun s =>
      match checkInsert a with
      | some off => s.fail o .badArgument (some a.pass) (blockField off)
      | none =>
        match s.record a.pass with
        | none => s.insertNew o a
        | some r => s.insertOver o a r
    | _ => s

/-! ## Removing and reading (R18, R19) -/

/-- PASS DROP (R18). -/
def execPassDrop (o : Origin) (s : State) : Host.Outcome State Fault Refusal :=
  .next <| match s.waitingRequest o with
    | some (.passDrop p) => s.tableClaim o fun s =>
      if badPass p then s.fail o .badArgument (some p) none
      else match s.record p with
        | none => s.fail o .notResident (some p) none
        | some r =>
          if r.inFlight.isSome then s.busy o
          else if r.state = .held then s.failHeld o p
          else if r.unreported ≠ 0 then s.fail o .unreported (some p) none
          else if s.settlement.collected p then s.fail o .collectionOpen (some p) none
          else (s.updTable (Table.remove p)).complete o []
    | _ => s

/-- PASS READ (R19). -/
def execPassRead (o : Origin) (s : State) : Host.Outcome State Fault Refusal :=
  .next <| match s.waitingRequest o with
    | some (.passRead p) => s.tableClaim o fun s =>
      if badPass p then s.fail o .badArgument none none
      else match s.record p with
        | none => s.fail o .notResident none none
        | some r => s.complete o (r.image s.clock.day)
    | _ => s

/-! ## Searching (R20, R21) -/

/-- The argument checks of PASS FIND: the offset of the field at fault, in the order R20 names them (log entry 17). -/
def checkFind (a : FindArgs) : Option Nat :=
  if a.states = 0 then some 10
  else if a.classes = 0 then some 11
  else if a.start = 4294967295 then some 4
  else if 8192 < a.count then some 8
  else if 2 < a.kind then some 12
  else if 240 < a.minRefundable then some 13
  else none

/-- Whether a record meets all six criteria of the pattern (R20). -/
def FindArgs.matches (a : FindArgs) (today : Nat) (r : PassRecord) : Bool :=
  a.states.getLsbD r.state.code && a.classes.getLsbD r.cls.code && (a.kind == 2 || a.kind == r.kind.code)
    && decide (a.minRefundable ≤ r.refundable today) && (!a.unreported || r.unreported != 0)
    && (!a.usedToday || hasDay r.used today)

/-- PASS FIND: its argument checks; the walk starts at the start number (R20, R21). -/
def execPassFind (o : Origin) (s : State) : Host.Outcome State Fault Refusal :=
  .next <| match s.waitingRequest o with
    | some (.passFind a) => s.tableBegin o fun s =>
      match checkFind a with
      | some off => (s.dropClaim o).fail o .badArgument none (blockField off)
      | none => s.setStage o (.finding a.start (if a.count = 0 then none else some a.count))
    | _ => s

/-- One step's part of the walk: the records examined, and those above them. R21 gives only the bound of 64; a step always
examines as many as the bound and the count leave (the model's choice of log entry 36). -/
def walkStep (left : Option Nat) (ahead : List PassRecord) : List PassRecord × List PassRecord :=
  let n := min 64 (left.getD 64)
  (ahead.take n, ahead.drop n)

/-- Where a walk resumes: at the lowest pass above the last record examined (R8). -/
def walkFrom (above : Nat) (batch : List PassRecord) : Nat := (batch.getLast?.map (·.pass + 1)).getD above

/-- PASS FIND STEP: one claim examines at most 64 records (R8, R20, R21). -/
def execPassFindStep (o : Origin) (s : State) : Host.Outcome State Fault Refusal :=
  .next <| match (s.context o).inFlight with
    | some { request := .passFind a, stage := .finding above left, .. } =>
      if s.hasTurn o then
        let s := s.serve o
        let ahead := s.table.records.filter fun r => decide (above ≤ r.pass)
        let (batch, rest) := walkStep left ahead
        match batch.find? fun r => a.matches s.clock.day r != a.invert with
        | some r => s.found o (imgPass (some r.pass))
        | none =>
          let left' := left.map (· - batch.length)
          match rest with
          | [] => s.complete o (imgPass none ++ imgPass none)
          | r :: _ =>
            if left' = some 0 then s.complete o (imgPass none ++ imgPass (some r.pass))
            else (s.setStage o (.finding (walkFrom above batch) left')).submitClaim o
      else s
    | _ => s

/-! ## Occupancy (R22) -/

/-- TABLE SIZE (R22). -/
def execTableSize (o : Origin) (s : State) : Host.Outcome State Fault Refusal :=
  .next <| match s.waitingRequest o with
    | some .tableSize => s.tableClaim o fun s =>
      s.complete o
        (img2 8192 ++ img2 s.table.records.length ++ img2 (s.table.records.countP s.evictable)
          ++ img2 s.settlement.queue.length ++ img2 s.settlement.holds.length ++ img2 s.table.revoked.length
          ++ imgFlag s.table.sweep.running ++ img2 s.table.sweep.revokedCount ++ img2 s.table.sweep.restoredCount)
    | _ => s

/-! ## Clearing (R23 to R25) -/

/-- TABLE CLEAR: its conditions, tested once and in order; then the clear begins (R23, R24). -/
def execTableClear (o : Origin) (s : State) : Host.Outcome State Fault Refusal :=
  .next <| match s.waitingRequest o with
    | some .tableClear => s.tableClaim o fun s =>
      if s.table.sweep.running then s.busy o
      else if s.presentLanes.any fun l => (s.laneAt l).state != .closed then s.fail o .notReady none none
      else if s.settlement.queue ≠ [] then s.fail o .unreported none none
      else if s.settlement.holds ≠ [] then s.fail o .heldByOther none none
      else if s.settlement.collection.isSome then s.fail o .collectionOpen none none
      else (s.updTable fun t => { t with clear := some { removed := 0, orphan := false } }).setStage o .clearing
    | _ => s

/-- A step of a clear on the record of lowest pass number: it is removed, and with it a hold that a REFUND HOLD in flight as
the clear began has placed on it (R23, R24, R110, log entry 9). -/
def State.clearRecord (c : Clear) (p : Nat) (s : State) : State :=
  (s.updTable fun t => { t.remove p with clear := some { c with removed := c.removed + 1 } }).updSettlement
    fun u => { u with holds := u.holds.filter fun e => e.pass != p }

/-- CLEAR STEP: the record of lowest pass number is removed, or the clear ends; a clear left by a warm reset is not
answered (R24, R27). -/
def execClearStep (s : State) : Host.Outcome State Fault Refusal :=
  .next <| match s.table.clear with
    | none => s
    | some c =>
      if s.mayStep ∨ s.turn = .orphanClear then
        match s.table.records with
        | r :: _ => s.clearRecord c r.pass
        | [] =>
          let s := s.updTable fun t => { t with clear := none }
          if c.orphan then s else s.complete .station (img2 c.removed)
      else s

end Sys2Proof.Machine
end

