-- ==== Sys2Proof/Machine/Holds.lean ====
section
/-! DEFINITION. Refund holds and settlement (Chapter 6): the hold list, placing, settling, releasing and lapsing holds. -/

namespace Sys2Proof.Machine

/-! ## The hold list (R109) -/

/-- Whether entry e, reaching HELD with its deadline, stands after entry x: only after HELD entries of no later deadline. -/
def holdAfter (e x : HoldEntry) : Bool :=
  x.phase == .held && decide (x.deadline.getD 0 ≤ e.deadline.getD 0)

/-- Places a HELD entry: after every HELD entry of an earlier or equal deadline, before every other entry (R109). -/
def insertHeld (e : HoldEntry) : List HoldEntry → List HoldEntry
  | [] => [e]
  | x :: xs => if holdAfter e x then x :: insertHeld e xs else e :: x :: xs

/-- The hold list entry of a pass; there is at most one (R110). -/
def Settlement.hold (u : Settlement) (p : Nat) : Option HoldEntry := u.holds.find? fun e => e.pass == p

/-- Removes the entry of a pass. -/
def Settlement.dropHold (p : Nat) (u : Settlement) : Settlement :=
  { u with holds := u.holds.filter fun e => e.pass != p }

/-- The length of a hold from now, in milliseconds (R113). -/
def State.holdLapseMs (s : State) : Nat := s.decoder.profile.holdLapse * 60000

/-- A hold on a pass reaches HELD: its entry takes its place with its deadline, and the record becomes HELD with hold
lapsed clear (R5, R113, R114). -/
def State.reachHeld (p : Nat) (owner : Origin) (placedAt : Nat) (s : State) : State :=
  let e : HoldEntry :=
    { pass := p, owner := owner, phase := .held, deadline := some (s.now + s.holdLapseMs), placedAt := placedAt }
  (s.updSettlement fun u => { u with holds := insertHeld e (u.dropHold p).holds }).updRecord p
    fun r => { r with state := .held, holdLapsed := false }

/-- The passes an origin's LAPSE notices name, in its queue or raised and not yet placed (R123, log entry 13). -/
def State.lapsePasses (s : State) (o : Origin) : List Nat :=
  let queue := match o with
    | .station => s.port.queue
    | .office => s.link.queue
  (queue.filterMap fun q => match q.notice with
    | .lapse p _ _ => some p
    | _ => none)
  ++ (s.decoder.settlementMsgs.filterMap fun m => match m.notice with
    | .lapse p _ _ => if m.owner = o then some p else none
    | _ => none)

/-- The passes counted in an origin's hold count (R123). -/
def State.countedPasses (s : State) (o : Origin) : List Nat :=
  (((s.settlement.holds.filter fun e => e.owner == o).map (·.pass)) ++ s.lapsePasses o).dedup

/-- The HOLD PLACED or SETTLED event of a record (R113, R119). -/
def holdEvent (k : EventKind) (r : PassRecord) : Event := { kind := k, lane := none, cls := some r.cls, reason := none }

/-- The answer data of REFUND HOLD (R113), from the record and its entry as the claim leaves them. -/
def holdImage (today : Nat) (r : PassRecord) (owner : Origin) (deadline : Option Nat) (waited : Bool) : List Byte :=
  imgPass (some r.pass) ++ img1 (originCode owner) ++ img1 r.cls.code ++ img1 r.kind.code ++ img1 r.entitled
    ++ img1 r.first ++ img1 r.last ++ imgDays r.used ++ imgDays r.unreported ++ imgFlag r.overdrawn
    ++ img1 (r.refundable today) ++ img2 r.ridesSeason ++ imgTime (r.lastPassage.map (·.at_))
    ++ imgOpt1 (r.lastPassage.map (·.lane.val)) ++ imgTimebase deadline ++ imgFlag waited

/-- The answer data for the hold of a pass as the state stands. -/
def State.holdAnswer (s : State) (p : Nat) (waited : Bool) : List Byte :=
  match s.record p, s.settlement.hold p with
  | some r, some e => holdImage s.clock.day r e.owner e.deadline waited
  | _, _ => []

/-! ## Placing (R111 to R115) -/

/-- The claim of a REFUND HOLD, its tests in order (R112). A PENDING entry joins the list's tail, behind one placed in the same
millisecond too, a tie that R109 leaves open (the model's choice of log entry 34). -/
def State.placeHold (o : Origin) (p : Nat) (s : State) : State :=
  if badPass p then s.fail o .badArgument none (blockField 4)
  else match s.record p with
    | none => s.fail o .notResident (some p) none
    | some r =>
      match s.settlement.hold p with
      | some e =>
        if e.owner = o then s.fail o .double (some p) none else s.fail o .heldByOther (some p) none
      | none =>
        if r.state = .revoked then s.fail o .revoked (some p) none
        else if r.state = .settled then s.fail o .settled (some p) none
        else if 16 ≤ s.settlement.holds.length
            ∨ (16 ≤ (s.countedPasses o).length ∧ p ∉ s.countedPasses o) then
          s.fail o .holdListFull (some p) none
        else if r.inFlight.isSome then
          let e : HoldEntry := { pass := p, owner := o, phase := .pending, deadline := none, placedAt := s.now }
          let s := s.updSettlement fun u => { u with holds := u.holds ++ [e] }
          if (s.context o).inFlight.any (·.answerable) then s.setStage o (.pendingHold p)
          else s.updContext o fun c => { c with inFlight := none }
        else
          let s := (s.reachHeld p o s.now).handEvents [holdEvent .holdPlaced r]
          s.complete o (s.holdAnswer p false)

/-- REFUND HOLD (R111 to R114). -/
def execRefundHold (o : Origin) (s : State) : Host.Outcome State Fault Refusal :=
  .next <| match s.waitingRequest o with
    | some (.refundHold p) => s.tableClaim o fun s => s.placeHold o p
    | _ => s

/-- The HOLD PLACED event that the end of an admission hands where it brings a PENDING hold to HELD (R114). -/
def State.pendingEvents (s : State) (p : Nat) : List Event :=
  match s.settlement.hold p, s.record p with
  | some e, some r => if e.phase = .pending then [holdEvent .holdPlaced r] else []
  | _, _ => []

/-- Within the claim that ends an admission, a PENDING hold of the pass becomes HELD (R114). -/
def State.pendingToHeld (p : Nat) (s : State) : State :=
  match s.settlement.hold p with
  | some e => if e.phase = .pending then s.reachHeld p e.owner e.placedAt else s
  | none => s

/-- Whether an origin's request in flight is the REFUND HOLD placed PENDING on this pass. -/
def State.awaitsHold (s : State) (o : Origin) (p : Nat) : Bool := s.stage o == some (.pendingHold p)

/-- The deferred answer of a REFUND HOLD, waited set, where its request is still in flight (R114, R126). -/
def State.answerPending (p : Nat) (s : State) : State :=
  if s.awaitsHold .station p then s.complete .station (s.holdAnswer p true)
  else if s.awaitsHold .office p then s.complete .office (s.holdAnswer p true)
  else s

/-! ## Settling and releasing (R116 to R120) -/

/-- The tests REFUND SETTLE and REFUND RELEASE share, in order; `k` acts on the record once step 4 is passed (R117). -/
def State.heldByMe (o : Origin) (p : Nat) (k : PassRecord → State → State) (s : State) : State :=
  match s.record p with
  | none => s.fail o .notResident (some p) none
  | some r =>
    match s.settlement.hold p with
    | some e =>
      if e.owner ≠ o then s.fail o .heldByOther (some p) none
      else match e.phase with
        | .pending => s.busy o
        | .held => k r s
    | none =>
      if r.state = .settled then s.fail o .settled (some p) none
      else if r.holdLapsed then s.fail o .holdLapsed (some p) none
      else if r.state = .revoked then s.fail o .revoked (some p) none
      else s.fail o .noHold (some p) none

/-- Voids the open collection's entry of a pass (R119, R136). -/
def Collection.voidEntry (p : Nat) (c : Collection) : Collection :=
  { c with entries := c.entries.map fun e => if e.pass = p then { e with void := true } else e }

/-- The tag of the open collection, where one of its entries names the pass; 0 for none (R119, log entry 14). -/
def Settlement.tagNaming (u : Settlement) (p : Nat) : Nat :=
  match u.collection with
  | some c => if u.collected p then c.tag else 0
  | none => 0

/-- The settlement unit's part of a settlement (R119). -/
def Settlement.settle (p : Nat) (u : Settlement) : Settlement :=
  { u with
    holds := u.holds.filter fun e => e.pass != p,
    queue := u.queue.filter fun q => q != p,
    collection := u.collection.map (Collection.voidEntry p) }

/-- REFUND SETTLE's own tests and the settlement (R118, R119). -/
def State.settleHeld (o : Origin) (p refunded : Nat) (r : PassRecord) (s : State) : State :=
  let refundable := r.refundable s.clock.day
  if refundable < refunded then s.fail o .badArgument (some p) (blockField 8)
  else if s.table.listed p then s.fail o .revoked (some p) none
  else
    let tag := s.settlement.tagNaming p
    let s := (s.updRecord p fun r => { r with state := .settled, unreported := 0 }).updSettlement (Settlement.settle p)
    let s := s.handEvents [holdEvent .settled r]
    s.complete o (imgPass (some p) ++ img1 refunded ++ img1 refundable ++ imgDays r.used ++ imgDays r.unreported
      ++ img1 tag)

/-- REFUND SETTLE (R116 to R119). -/
def execRefundSettle (o : Origin) (s : State) : Host.Outcome State Fault Refusal :=
  .next <| match s.waitingRequest o with
    | some (.refundSettle p refunded) => s.tableClaim o fun s =>
      if badPass p then s.fail o .badArgument none (blockField 4)
      else if 240 < refunded then s.fail o .badArgument none (blockField 8)
      else s.heldByMe o p (fun r s => s.settleHeld o p refunded r)
    | _ => s

/-- REFUND RELEASE (R117, R120). -/
def execRefundRelease (o : Origin) (s : State) : Host.Outcome State Fault Refusal :=
  .next <| match s.waitingRequest o with
    | some (.refundRelease p) => s.tableClaim o fun s =>
      if badPass p then s.fail o .badArgument none none
      else s.heldByMe o p fun _ s =>
        let state := s.table.listState p
        ((s.updSettlement (Settlement.dropHold p)).updRecord p fun r => { r with state := state }).complete o
          (imgPass (some p) ++ img1 state.code)
    | _ => s

/-! ## Lapse (R121 to R124) -/

/-- The first HELD entry; its deadline is the lapse timer's (R121). -/
def Settlement.firstHeld (u : Settlement) : Option HoldEntry := u.holds.find? fun (e : HoldEntry) => e.phase == HoldPhase.held

/-- The pass of the first HELD entry whose deadline the timebase has reached (R121). -/
def State.duePass (s : State) : Option Nat :=
  match s.settlement.firstHeld with
  | some e => if due s.now e.deadline then some e.pass else none
  | none => none

/-- LAPSE TIMER EXPIRY: the lapse claim of the first HELD entry is submitted (R121). -/
def execLapseTimerExpiry (s : State) : Host.Outcome State Fault Refusal :=
  .next (if s.settlement.lapseClaim.isNone then s.updSettlement fun u => { u with lapseClaim := s.duePass } else s)

/-- A hold lapses (R122, R123). -/
def State.lapse (e : HoldEntry) (s : State) : State :=
  let state := s.table.listState e.pass
  let s := (s.updSettlement (Settlement.dropHold e.pass)).updRecord e.pass
    fun r => { r with state := state, holdLapsed := true }
  s.raiseLapse { owner := e.owner, notice := .lapse e.pass state s.stamp }

/-- LAPSE CLAIM (R121, R122). -/
def execLapseClaim (s : State) : Host.Outcome State Fault Refusal :=
  .next <| match s.settlement.lapseClaim with
    | none => s
    | some p =>
      if s.turn = .settlement then
        let s := match s.settlement.hold p with
          | some e => if e.phase = HoldPhase.held ∧ due s.now e.deadline then s.lapse e else s
          | none => s
        s.updSettlement fun u => { u with lapseClaim := s.duePass }
      else s

/-! ## Reading (R125) -/

/-- An entry as HOLD LIST READ gives it. -/
def HoldEntry.image (e : HoldEntry) : List Byte :=
  imgPass (some e.pass) ++ img1 (originCode e.owner) ++ img1 e.phase.code ++ imgTimebase (some e.placedAt)
    ++ imgTimebase e.deadline

/-- HOLD LIST READ (R125). -/
def execHoldListRead (o : Origin) (s : State) : Host.Outcome State Fault Refusal :=
  .next <| match s.waitingRequest o with
    | some .holdListRead =>
      s.complete o (img2 s.settlement.holds.length ++ imgTimebase (some s.now)
        ++ (s.settlement.holds.map HoldEntry.image).flatten)
    | _ => s

end Sys2Proof.Machine
end

