-- ==== Sys2Proof/Machine/Admission.lean ====
section
/-! DEFINITION. Admission (Chapter 4): the decision claim, the miss it may begin, the commit claim and the withdraw claim. -/

namespace Sys2Proof.Machine

/-! ## The decision (R70 to R76) -/

/-- The outcome of a decision claim (R69). -/
inductive Decision where
  | admitted (consume : Bool)
  | refuse (reason : Reason)
  | miss
  deriving DecidableEq, Repr

/-- A time as a count of seconds (R40). -/
def Stamp.seconds (t : Stamp) : Nat := t.day * 86400 + t.second

/-- Whether a decision at time `at_` is within the passback interval of `minutes` (R40); a negative elapsed time is 0. -/
def withinPassback (minutes : Nat) (at_ : Stamp) (r : PassRecord) : Bool :=
  match r.lastPassage with
  | none => false
  | some p => decide (minutes ≠ 0) && decide (at_.seconds - p.at_.seconds < minutes * 60)

/-- Step 9: whether a day is available, with the consume flag (R76). -/
def decideDay (today : Nat) (r : PassRecord) : Decision :=
  if hasDay r.used today then .admitted false
  else if r.kind = .days ∧ r.entitled ≤ sizeDays r.used then .refuse .noDays
  else .admitted true

/-- Steps 6 to 9 (R74 to R76). -/
def State.decideTime (s : State) (r : PassRecord) : Decision :=
  if s.clock.state = .ended then .refuse .seasonEnded
  else if s.clock.day < r.first then .refuse .notYetValid
  else if r.last < s.clock.day then .refuse .expired
  else if r.cls ≠ .staff ∧ withinPassback s.decoder.profile.passback s.stamp r then .refuse .passback
  else decideDay s.clock.day r

/-- Steps 4 to 9 (R73 to R76). -/
def State.decideRecord (s : State) (r : PassRecord) : Decision :=
  match r.state with
  | .revoked => .refuse .revoked
  | .held => .refuse .held
  | .settled => .refuse .settled
  | .active => if r.inFlight.isSome then .refuse .inFlight else s.decideTime r

/-- Step 3 for a pass with no record (R72). -/
def State.decideAbsent (s : State) (l : LaneNo) (p : Nat) : Decision :=
  if s.presentLanes.any fun m => m != l && (s.laneAt m).miss.any (·.pass == p) then .refuse .inFlight
  else if s.decoder.profile.missFetch ∧ s.link.state = .up then .miss
  else .refuse .notFound

/-- The decision claim of lane l for pass p: steps 1 to 9, the first check that fails giving the outcome (R70). -/
def State.decision (s : State) (l : LaneNo) (p : Nat) : Decision :=
  match s.record p with
  | some r =>
    if (s.decoder.profile.laneClasses[l]).getLsbD r.cls.code = false then .refuse .cls
    else if s.table.listed p then .refuse .revoked
    else s.decideRecord r
  | none => if s.table.listed p then .refuse .revoked else s.decideAbsent l p

/-! ## Acting on the outcome (R53, R77, R78, R81) -/

/-- Days left in the verdict: none for a SEASON record; with the consume flag on, the decision day counts among the used
days (R50, R78). -/
def daysLeft (day : Nat) (consume : Bool) (r : PassRecord) : Option Nat :=
  match r.kind with
  | .season => none
  | .days => some (r.entitled - sizeDays (if consume then joinDays r.used (oneDay day) else r.used))

/-- Rides today in the verdict (R50, R78). -/
def ridesFigure (day : Nat) (r : PassRecord) : Nat := nextRide (r.shownRides day)

/-- The lane's part of an admit (R53). -/
def LaneRun.admitRider (env : LaneEnv) (p day : Nat) (consume : Bool) (left : Option Nat) (rides : Nat)
    (r : LaneRun) : LaneRun :=
  let r := r.send env p (.admitted left rides)
  let r := r.upd fun ln =>
    { ln with
      gate := true,
      admission := some { pass := p, day := day, consume := consume, release := env.now, phase := .released },
      window := some (env.now + env.windowMs) }
  r.finishSlot.enter env .released

/-- An admit: the record's in-flight mark and recency, then the lane (R78). -/
def State.admitPass (l : LaneNo) (p : Nat) (consume : Bool) (r : PassRecord) (s : State) : State :=
  let day := s.clock.day
  ((s.updRecord p fun r => { r with inFlight := some l }).updTable (Table.toHead p)).runLane l
    fun env run => run.admitRider env p day consume (daysLeft day consume r) (ridesFigure day r)

/-- The lane's part of a refusal: READY, or PAUSED were the pause mark set (R53, R77). -/
def LaneRun.refuseRider (env : LaneEnv) (p : Nat) (reason : Reason) (r : LaneRun) : LaneRun :=
  (r.send env p (.refuse reason)).finishSlot.resume env

/-- A refusal: a resident record goes to the head of the recency list, nothing else of it changes, and the claim hands REFUSED
(R77). What the lane then hands of the next presentation is a batch of its own, in no order with it (R149). -/
def State.refusePass (l : LaneNo) (p : Nat) (reason : Reason) (s : State) : State :=
  let cls := (s.record p).map (·.cls)
  let s := if cls.isSome then s.updTable (Table.toHead p) else s
  (s.handEvents [refusedEvent l cls reason]).runLane l fun env run => run.refuseRider env p reason

/-- The lane's part of a miss (R81). -/
def LaneRun.beginMiss (env : LaneEnv) (p : Nat) (r : LaneRun) : LaneRun :=
  let r := (r.send env p .wait).upd fun ln =>
    { ln with miss := some { pass := p, start := env.now }, missWait := some (env.now + env.missWaitMs) }
  let r := (r.enter env .waiting).hand (laneEvent .missSent env.lane)
  { r with msgs := r.msgs ++ [.notice (.miss env.lane p)] }

/-- Acts on the outcome of the decision claim. -/
def State.actOn (l : LaneNo) (p : Nat) (d : Decision) (s : State) : State :=
  match d with
  | .admitted consume => match s.record p with
    | some r => s.admitPass l p consume r
    | none => s
  | .refuse reason => s.refusePass l p reason
  | .miss => s.runLane l fun env run => run.beginMiss env p

/-- Whether the claim at the turn is this lane's, with the lane in the condition given. -/
def State.laneHasTurn (s : State) (l : LaneNo) : Bool := s.lanePresent l && s.turn == .lane l

/-- DECISION CLAIM (R69 to R78, R81). -/
def execDecisionClaim (l : LaneNo) (s : State) : Host.Outcome State Fault Refusal :=
  .next <|
    if s.laneHasTurn l ∧ (s.laneAt l).state = .deciding then
      match (s.laneAt l).current with
      | some pr => (s.serveLane l).actOn l pr.pass (s.decision l pr.pass)
      | none => s
    else s

/-! ## Commit and withdraw (R87 to R89) -/

/-- Whether a commit adds its decision day to the unreported days (R87, steps 1 and 2). -/
def consumesDay (a : Admission) (r : PassRecord) : Bool := a.consume && !hasDay r.used a.day

/-- Rides today after a commit on this season day (R39). -/
def ridesAfter (day : Nat) (r : PassRecord) : Nat :=
  match r.lastPassage with
  | none => 1
  | some p => if p.at_.day = day then nextRide r.ridesToday else 1

/-- The record after a commit (R87). -/
def PassRecord.commit (l : LaneNo) (at_ : Stamp) (a : Admission) (r : PassRecord) : PassRecord :=
  { r with
    used := joinDays r.used (oneDay a.day),
    unreported := if consumesDay a r then joinDays r.unreported (oneDay a.day) else r.unreported,
    lastPassage := some { at_ := at_, lane := l },
    ridesSeason := nextRide r.ridesSeason,
    ridesToday := ridesAfter at_.day r,
    inFlight := none }

/-- The report queue after a commit of this record (R88, step 1). -/
def queueAfterCommit (a : Admission) (r : PassRecord) (queue : List Nat) : List Nat :=
  if consumesDay a r ∧ r.unreported = 0 then queue ++ [r.pass] else queue

/-- An event of a lane with the record's class (R95). -/
def riderEvent (k : EventKind) (l : LaneNo) (r : PassRecord) : Event :=
  { kind := k, lane := some l, cls := some r.cls, reason := none }

/-- The events of a commit (R88, step 3). -/
def commitEvents (l : LaneNo) (a : Admission) (r : PassRecord) : List Event :=
  riderEvent .passage l r :: if consumesDay a r then [riderEvent .dayConsumed l r] else []

/-- A commit of this admission whose record is r (R87, R88). -/
def State.commitRecord (l : LaneNo) (a : Admission) (r : PassRecord) (s : State) : State :=
  let at_ := s.stamp
  let held := s.pendingEvents a.pass
  let s := (s.updRecord a.pass (PassRecord.commit l at_ a)).updTable (Table.toHead a.pass)
  let s := s.updSettlement fun u => { u with queue := queueAfterCommit a r u.queue }
  let s := (s.pendingToHeld a.pass).handEvents (held ++ commitEvents l a r)
  s.answerPending a.pass

/-- A withdrawal of this admission whose record is r (R89). -/
def State.withdrawRecord (l : LaneNo) (a : Admission) (r : PassRecord) (s : State) : State :=
  let held := s.pendingEvents a.pass
  let s := s.updRecord a.pass fun r => { r with inFlight := none }
  let s := (s.pendingToHeld a.pass).handEvents (held ++ [riderEvent .withdrawn l r])
  s.answerPending a.pass

/-- An ending claim of lane l: the table's part where the admission's record is found, then the lane ends the admission
(R57, R79). The record is always resident (R79; log entry 27). -/
def State.endingClaim (l : LaneNo) (k : Admission → PassRecord → State → State) (s : State) : State :=
  let s := s.serveLane l
  let s := match (s.laneAt l).admission with
    | some a => match s.record a.pass with
      | some r => k a r s
      | none => s
    | none => s
  s.runLane l fun env run => run.endAdmission env

/-- COMMIT CLAIM (R87, R88). -/
def execCommitClaim (l : LaneNo) (s : State) : Host.Outcome State Fault Refusal :=
  .next <|
    if s.laneHasTurn l ∧ (s.laneAt l).ending = .commit then s.endingClaim l fun a r s => s.commitRecord l a r
    else s

/-- WITHDRAW CLAIM (R89). -/
def execWithdrawClaim (l : LaneNo) (s : State) : Host.Outcome State Fault Refusal :=
  .next <|
    if s.laneHasTurn l ∧ (s.laneAt l).ending = .withdraw then s.endingClaim l fun a r s => s.withdrawRecord l a r
    else s

end Sys2Proof.Machine
end

