-- ==== Sys2Proof/Machine/Revocation.lean ====
section
/-! DEFINITION. The revocation list (Chapter 5): loading it, the sweep, and reading it. -/

namespace Sys2Proof.Machine

/-! ## Loading (R97 to R101) -/

/-- The index of the first bad entry (R98), of entries whose first has index `i` and follows `prev`. -/
def badEntry (i : Nat) (prev : Option Nat) : List Nat → Option Nat
  | [] => none
  | e :: es => if badPass e ∨ prev.any (e ≤ ·) then some i else badEntry (i + 1) (some e) es

/-- One pass joined into an ascending list, once (R96, R99). -/
def insertPass (p : Nat) : List Nat → List Nat
  | [] => [p]
  | x :: xs => if p < x then p :: x :: xs else if p = x then x :: xs else x :: insertPass p xs

/-- The union of the list held and the carried list (R99). -/
def joinPasses (held carried : List Nat) : List Nat := carried.foldr insertPass held

/-- What the tests of R97, from the second on, make of a load against the list held. -/
inductive LoadOutcome where
  | listFull
  | badList (index : Nat)
  | accepted (list : List Nat)
  deriving DecidableEq, Repr

/-- Tests 2 to 5 of R97, with the resulting list of R99. -/
def judgeLoad (held : List Nat) (a : LoadArgs) : LoadOutcome :=
  if 2048 < a.count then .listFull
  else match badEntry 0 none a.entries with
    | some i => .badList i
    | none =>
      let list := if a.merge then joinPasses held a.entries else a.entries
      if 2048 < list.length then .listFull else .accepted list

/-- The list generation advanced by one (R96). -/
def nextGeneration (g : Nat) : Nat := if g < 65535 then g + 1 else 0

/-- A sweep as it starts (R102). -/
def Sweep.started : Sweep := { running := true, position := none, revokedCount := 0, restoredCount := 0 }

/-- An accepted load (R100). -/
def Table.load (list : List Nat) (t : Table) : Table :=
  { t with revoked := list, generation := nextGeneration t.generation, sweep := Sweep.started }

/-- The answer data of an accepted load (R100). -/
def loadImage (old new : List Nat) (generation : Nat) : List Byte :=
  img2 new.length ++ img2 (new.countP fun p => !old.contains p) ++ img2 (old.countP fun p => !new.contains p)
    ++ img2 generation

/-- REVOKE LOAD of an origin, its claim being taken (R97): BUSY while a sweep or a TABLE CLEAR runs. -/
def State.loadFor (o : Origin) (a : LoadArgs) (s : State) : State :=
  if s.table.sweep.running || s.clearing then s.busy o
  else match judgeLoad s.table.revoked a with
    | .listFull => s.fail o .listFull none none
    | .badList i => s.fail o .badList none (some { kind := .entry, index := i })
    | .accepted list =>
      let old := s.table.revoked
      let s := s.updTable (Table.load list)
      s.complete o (loadImage old list s.table.generation)

/-- A broadcast REVOKE LOAD, its claim being taken: the same tests, no answer, no condition record (R101). One that meets a
sweep or a TABLE CLEAR is not applied. -/
def State.loadBroadcast (a : LoadArgs) (s : State) : State :=
  if s.table.sweep.running || s.clearing then s
  else match judgeLoad s.table.revoked a with
    | .listFull | .badList _ => s
    | .accepted list => s.updTable (Table.load list)

/-- REVOKE LOAD (R97 to R101). -/
def execRevokeLoad (src : Source) (s : State) : Host.Outcome State Fault Refusal :=
  .next <| match src with
    | .own o => match s.waitingRequest o with
      | some (.revokeLoad a) => s.tableClaim o fun s => s.loadFor o a
      | _ => s
    | .broadcast => match s.table.officeClaims with
      | .broadcastLoad a :: _ =>
        if s.turn = .origin .office then (s.serve .office).loadBroadcast a else s
      | _ => s

/-! ## The sweep (R102 to R104) -/

/-- The record a sweep step deals with: the lowest above the position (R102). -/
def Table.sweepTarget (t : Table) : Option PassRecord :=
  t.records.find? fun r => t.sweep.position.all (· < r.pass)

/-- Whether the hold list holds a PENDING entry for a pass. -/
def Settlement.pending (u : Settlement) (p : Nat) : Bool := (u.hold p).any (·.phase == .pending)

/-- The state a sweep step gives a record (R103). -/
def sweptState (listed pending : Bool) : RecordState → RecordState
  | .active => if listed && !pending then .revoked else .active
  | .revoked => if listed then .revoked else .active
  | .held => .held
  | .settled => .settled

/-- The sweep after a step on a record of state `before` that leaves it in `after` (R103). -/
def Sweep.advance (pass : Nat) (before after : RecordState) (w : Sweep) : Sweep :=
  { w with
    position := some pass,
    revokedCount := if before = .active ∧ after = .revoked then w.revokedCount + 1 else w.revokedCount,
    restoredCount := if before = .revoked ∧ after = .active then w.restoredCount + 1 else w.restoredCount }

/-- A sweep step on the record r (R103). -/
def State.sweepRecord (r : PassRecord) (s : State) : State :=
  let after := sweptState (s.table.listed r.pass) (s.settlement.pending r.pass) r.state
  (s.updRecord r.pass fun x => { x with state := after }).updTable fun t =>
    { t with sweep := t.sweep.advance r.pass r.state after }

/-- The end of a sweep (R104). -/
def State.sweepEnd (s : State) : State :=
  let w := s.table.sweep
  (s.updTable fun t => { t with sweep := { t.sweep with running := false, position := none } }).raiseSweep
    (.sweep s.table.generation w.revokedCount w.restoredCount)

/-- SWEEP STEP (R102 to R104): taken when nothing else waits. -/
def execSweepStep (s : State) : Host.Outcome State Fault Refusal :=
  .next <|
    if s.table.sweep.running ∧ s.mayStep then
      match s.table.sweepTarget with
      | some r => s.sweepRecord r
      | none => s.sweepEnd
    else s

/-! ## Reading (R106) -/

/-- REVOKE READ (R106). -/
def execRevokeRead (o : Origin) (s : State) : Host.Outcome State Fault Refusal :=
  .next <| match s.waitingRequest o with
    | some (.revokeRead start count) => s.tableClaim o fun s =>
      if 2048 < start then s.fail o .badArgument none (blockField 4)
      else if 256 < count then s.fail o .badArgument none (blockField 6)
      else
        let got := (s.table.revoked.drop start).take (if count = 0 then 256 else count)
        s.complete o (img2 s.table.revoked.length ++ img2 s.table.generation ++ imgList (got.map img4))
    | _ => s

end Sys2Proof.Machine
end

