-- ==== Sys2Proof/Machine/Usage.lean ====
section
/-! DEFINITION. Usage reporting and day merging (Chapter 7): collections, their confirming and voiding, and DAY MERGE. -/

namespace Sys2Proof.Machine

/-! ## Collecting (R134, R135) -/

/-- The tag after the last tag (R135). -/
def nextTag (last : Nat) : Nat := if last < 255 then last + 1 else 1

/-- An entry of a USAGE COLLECT answer (R135). -/
def collectImage (r : PassRecord) : List Byte :=
  imgPass (some r.pass) ++ imgDays r.unreported ++ img2 r.ridesSeason ++ img1 r.state.code ++ imgFlag r.overdrawn

/-- The records of the first passes of the report queue, in queue order (R135). -/
def State.collectable (s : State) (count : Nat) : List PassRecord :=
  (s.settlement.queue.take (if count = 0 then 64 else count)).filterMap s.record

/-- A collection of these records (R135). -/
def Collection.of (tag : Nat) (rs : List PassRecord) : Collection :=
  { tag := tag, entries := rs.map fun r => { pass := r.pass, carried := r.unreported, void := false } }

/-- The claim of a USAGE COLLECT (R134, R135). -/
def State.collect (o : Origin) (count : Nat) (s : State) : State :=
  if 64 < count then s.fail o .badArgument none (blockField 4)
  else if s.settlement.collection.isSome then s.fail o .collectionOpen none none
  else if (s.context o).inFlight.any (!·.answerable) then s.fail o .lineDown none none
  else if s.settlement.queue = [] then s.complete o (img1 0 ++ img2 0 ++ img2 0)
  else
    let rs := s.collectable count
    let tag := nextTag s.settlement.lastTag
    let s := s.updSettlement fun u => { u with collection := some (Collection.of tag rs), lastTag := tag }
    s.complete o (img1 tag ++ img2 rs.length ++ img2 s.settlement.queue.length ++ (rs.map collectImage).flatten)

/-- USAGE COLLECT (R134, R135). -/
def execUsageCollect (o : Origin) (s : State) : Host.Outcome State Fault Refusal :=
  .next <| match s.waitingRequest o with
    | some (.usageCollect count) => s.tableClaim o fun s => s.collect o count
    | _ => s

/-! ## Confirming (R137 to R139) -/

/-- The table and the report queue in the course of a confirm, with the numbers of passes that left and moved. -/
structure Confirming where
  table : Table
  queue : List Nat
  left : Nat
  moved : Nat
  deriving DecidableEq, Repr

/-- Removes an entry's carried days from its record (R138, step 2). -/
def PassRecord.reported (carried : DaySet) (r : PassRecord) : PassRecord :=
  { r with unreported := withoutDays r.unreported carried }

/-- One entry of a confirm (R138); a void one is passed over, and one whose record is missing does nothing (log entry 27). -/
def Confirming.entry (c : Confirming) (e : CollectionEntry) : Confirming :=
  if e.void then c
  else match c.table.find e.pass with
    | none => c
    | some r =>
      let table := c.table.update e.pass (PassRecord.reported e.carried)
      let queue := c.queue.filter (· != e.pass)
      if withoutDays r.unreported e.carried = 0 then { c with table := table, queue := queue, left := c.left + 1 }
      else { c with table := table, queue := queue ++ [e.pass], moved := c.moved + 1 }

/-- The changes of a confirm of these entries (R138). -/
def State.confirmEntries (es : List CollectionEntry) (s : State) : Confirming :=
  es.foldl Confirming.entry { table := s.table, queue := s.settlement.queue, left := 0, moved := 0 }

/-- The answer data of USAGE CONFIRM (R138, R139). -/
def confirmImage (tag confirmed void left moved queue : Nat) : List Byte :=
  img1 tag ++ img2 confirmed ++ img2 void ++ img2 left ++ img2 moved ++ img2 queue

/-- A confirm of the open collection (R138). -/
def State.confirm (o : Origin) (c : Collection) (s : State) : State :=
  let r := s.confirmEntries c.entries
  let void := c.entries.countP (·.void)
  let s := (s.updTable fun _ => r.table).updSettlement fun u => { u with queue := r.queue, collection := none }
  s.complete o (confirmImage c.tag (c.entries.length - void) void r.left r.moved r.queue.length)

/-- A discard of the open collection (R139). -/
def State.discard (o : Origin) (c : Collection) (s : State) : State :=
  (s.updSettlement fun u => { u with collection := none }).complete o
    (confirmImage c.tag 0 0 0 0 s.settlement.queue.length)

/-- USAGE CONFIRM (R137 to R139). -/
def execUsageConfirm (o : Origin) (s : State) : Host.Outcome State Fault Refusal :=
  .next <| match s.waitingRequest o with
    | some (.usageConfirm tag discard) => s.tableClaim o fun s =>
      match s.settlement.collection with
      | none => s.fail o .noCollection none none
      | some c =>
        if c.tag ≠ tag then s.fail o .noCollection none none
        else if discard then s.discard o c
        else s.confirm o c
    | _ => s

/-- COLLECTION VOID: the settlement unit takes an entry of the line into DROPPING; the open collection closes as a discard
does, with no answer and no notice (R140). -/
def execCollectionVoid (s : State) : Host.Outcome State Fault Refusal :=
  .next <|
    if s.settlement.drops = 0 then s
    else s.updSettlement fun u => { u with drops := u.drops - 1, collection := none }

/-! ## Merging (R141 to R144) -/

/-- DAY MERGE: the test of its count; its entries then take a claim each (R141, log entry 10). -/
def execDayMerge (o : Origin) (s : State) : Host.Outcome State Fault Refusal :=
  .next <| match s.waitingRequest o with
    | some (.dayMerge count entries) => s.tableBegin o fun s =>
      if count = 0 ∨ 128 < count then (s.dropClaim o).fail o .badArgument none (blockField 4)
      else s.setStage o (.merging entries [])
    | _ => s

/-- The days 0 to 239 of a merge entry's set. -/
def mergeDays (m : MergeMap) : DaySet := m.setWidth 240

/-- Whether a merge entry's set names a day above 239 (R142). -/
def badMergeDays (m : MergeMap) : Bool := m >>> 240 != 0

/-- The outcome of a merge entry that is not applied (R142, R144). -/
def mergeFailure (e : MergeEntry) (k : MergeOutcome) : MergeResult :=
  { pass := e.pass, outcome := k, added := 0, overdrawn := false, state := none }

/-- A record with a merge entry's days joined into its used days (R143). -/
def PassRecord.merge (ds : DaySet) (r : PassRecord) : PassRecord := { r with used := joinDays r.used ds }

/-- What a merge entry applied to this record gives the answer (R144). -/
def mergeSuccess (e : MergeEntry) (r : PassRecord) : MergeResult :=
  { pass := e.pass, outcome := .merged, added := sizeDays (withoutDays (mergeDays e.days) r.used),
    overdrawn := (r.merge (mergeDays e.days)).overdrawn, state := some r.state }

/-- The outcome of a merge entry at its claim (R142). -/
def State.mergeOutcome (e : MergeEntry) (s : State) : MergeResult :=
  if badPass e.pass ∨ badMergeDays e.days then mergeFailure e .badArgument
  else match s.record e.pass with
    | none => mergeFailure e .notResident
    | some r => mergeSuccess e r

/-- The effect of a merge entry at its claim (R142, R143). -/
def State.applyMerge (e : MergeEntry) (s : State) : State :=
  if badPass e.pass ∨ badMergeDays e.days then s else s.updRecord e.pass (PassRecord.merge (mergeDays e.days))

/-- One entry of a DAY MERGE answer (R144). -/
def MergeResult.image (m : MergeResult) : List Byte :=
  imgPass (some m.pass) ++ img1 m.outcome.code ++ img1 m.added ++ imgFlag m.overdrawn
    ++ imgOpt1 (m.state.map (·.code))

/-- The answer data of a DAY MERGE (R144). -/
def mergeImage (rs : List MergeResult) : List Byte :=
  img2 rs.length ++ img2 (rs.countP (·.outcome == .merged)) ++ img2 (rs.countP (·.outcome == .notResident))
    ++ img2 (rs.countP (·.outcome == .badArgument)) ++ (rs.map MergeResult.image).flatten

/-- DAY MERGE ENTRY: one entry in its own claim; the last one's claim answers (R142 to R145). -/
def execDayMergeEntry (o : Origin) (s : State) : Host.Outcome State Fault Refusal :=
  .next <| match s.stage o with
    | some (.merging (e :: todo) done) =>
      if s.hasTurn o then
        let s := s.serve o
        let done := done ++ [s.mergeOutcome e]
        let s := s.applyMerge e
        if todo.isEmpty then s.complete o (mergeImage done)
        else (s.setStage o (.merging todo done)).submitClaim o
      else s
    | _ => s

end Sys2Proof.Machine
end

