-- ==== Sys2Proof/Machine/Decoding.lean ====
section
/-! DEFINITION. The request decoder's own work (Chapter 9): placing notices, the profile, the watch masks, readiness and
conditions. -/

namespace Sys2Proof.Machine

/-! ## Notices (R183, R184) -/

/-- Places a notice for each origin whose watch mask selects it (R183). -/
def State.placeWatched (n : Notice) (s : State) : State :=
  let s := if s.decoder.station.watch.selects n then s.placeFor .station n else s
  if s.decoder.office.watch.selects n then s.placeFor .office n else s

/-- Places a notice of a lane: a LANE notice by the watch masks, a MISS notice for the office (R183). -/
def State.placeLaneNotice (n : Notice) (s : State) : State :=
  match n with
  | .miss _ _ => s.placeFor .office n
  | _ => s.placeWatched n

/-- Places a LINK notice for the station, when its LINK flag is set (R183). -/
def State.placeLink (n : Notice) (s : State) : State :=
  if s.decoder.station.watch.link then s.placeFor .station n else s

/-- NOTICE PLACEMENT: the decoder takes the first message of a block, a notice (R183). A removal request at the head of the
lane controller's messages is MISS NOTICE REMOVAL's. -/
def execNoticePlacement (raiser : Raiser) (s : State) : Host.Outcome State Fault Refusal :=
  .next <| match raiser with
    | .laneController => match s.decoder.laneMsgs with
      | .notice n :: rest => (s.updDecoder fun d => { d with laneMsgs := rest }).placeLaneNotice n
      | _ => s
    | .tallyUnit => match s.decoder.tallyMsgs with
      | n :: rest => (s.updDecoder fun d => { d with tallyMsgs := rest }).placeWatched n
      | [] => s
    | .settlementUnit => match s.decoder.settlementMsgs with
      | m :: rest => (s.updDecoder fun d => { d with settlementMsgs := rest }).placeFor m.owner m.notice
      | [] => s
    | .officeLink => match s.decoder.linkMsgs with
      | n :: rest => (s.updDecoder fun d => { d with linkMsgs := rest }).placeLink n
      | [] => s
    | .tableEngine => match s.decoder.tableMsgs with
      | n :: rest => (s.updDecoder fun d => { d with tableMsgs := rest }).placeFor .office n
      | [] => s

/-- Whether a notice is the MISS notice of a lane. -/
def Notice.isMissOf (l : LaneNo) : Notice → Bool
  | .miss m _ => m == l
  | _ => false

/-- MISS NOTICE REMOVAL: the queued MISS notice of the lane, if any, leaves the office queue (R83, R184). -/
def execMissNoticeRemoval (s : State) : Host.Outcome State Fault Refusal :=
  .next <| match s.decoder.laneMsgs with
    | .removeMiss l :: rest =>
      (s.updDecoder fun d => { d with laneMsgs := rest }).updLink fun k =>
        { k with queue := k.queue.filter fun q => !q.notice.isMissOf l }
    | _ => s

/-! ## The profile (R179 to R181) -/

/-- Whether a value lies in an item's range (R179, R180 test 4). -/
def itemInRange (code value : Nat) : Bool :=
  match code with
  | 1 => decide (value ≤ 60)
  | 2 => decide (3 ≤ value) && decide (value ≤ 30)
  | 3 => decide (5 ≤ value) && decide (value ≤ 60)
  | 4 => decide (500 ≤ value) && decide (value ≤ 5000)
  | 6 | 7 => decide (1 ≤ value) && decide (value ≤ 60)
  | 8 => decide (value ≤ 2)
  | 9 => decide (1 ≤ value) && decide (value ≤ 15)
  | 5 | 10 | 11 => decide (value ≤ 1)
  | _ => false

/-- Whether an item is one of the two held for each lane. -/
def itemPerLane (code : Nat) : Bool := code == 8 || code == 9

/-- Whether an origin may set an item (R180 test 2). -/
def maySetItem (o : Origin) (code : Nat) : Bool :=
  match o with
  | .station => decide (code ≤ 9)
  | .office => decide (10 ≤ code)

/-- The tests of one pair, in order (R180). -/
def checkPair (present : Nat → Bool) (o : Origin) (p : ProfilePair) : Option ConditionCode :=
  if p.code < 1 ∨ 11 < p.code then some .badArgument
  else if maySetItem o p.code = false then some .notPermitted
  else if (if itemPerLane p.code then present p.lane else p.lane == 0) = false then some .badArgument
  else if itemInRange p.code p.value = false then some .badArgument
  else none

/-- The first pair that fails, by its index, with the code it fails with (R180). -/
def checkPairs (present : Nat → Bool) (o : Origin) (i : Nat) : List ProfilePair → Option (Nat × ConditionCode)
  | [] => none
  | p :: ps => match checkPair present o p with
    | some cc => some (i, cc)
    | none => checkPairs present o (i + 1) ps

/-- The profile with one pair applied. -/
def Profile.apply (pr : Profile) (p : ProfilePair) : Profile :=
  match p.code with
  | 1 => { pr with passback := p.value }
  | 2 => { pr with window := p.value }
  | 3 => { pr with limit := p.value }
  | 4 => { pr with missWait := p.value }
  | 5 => { pr with missFetch := p.value == 1 }
  | 6 => { pr with holdLapse := p.value }
  | 7 => { pr with tallyInterval := p.value }
  | 8 =>
    if h : p.lane < 8 then
      { pr with readPolicy := pr.readPolicy.set p.lane ((readPolicyOfCode p.value).getD .lenient) }
    else pr
  | 9 => if h : p.lane < 8 then { pr with laneClasses := pr.laneClasses.set p.lane (BitVec.ofNat 4 p.value) } else pr
  | 10 => { pr with insertRight := p.value == 1 }
  | 11 => { pr with settleRight := p.value == 1 }
  | _ => pr

/-- Whether a lane number names a present lane (R43). -/
def State.presentNat (s : State) (n : Nat) : Bool := if h : n < 8 then s.lanePresent ⟨n, h⟩ else false

/-- The profile as a list of pairs (R181). -/
def Profile.pairs (present : List LaneNo) (pr : Profile) : List ProfilePair :=
  [⟨1, 0, pr.passback⟩, ⟨2, 0, pr.window⟩, ⟨3, 0, pr.limit⟩, ⟨4, 0, pr.missWait⟩, ⟨5, 0, flagCode pr.missFetch⟩,
    ⟨6, 0, pr.holdLapse⟩, ⟨7, 0, pr.tallyInterval⟩]
  ++ (present.flatMap fun l =>
    [⟨8, l.val, (pr.readPolicy[l]).code⟩, ⟨9, l.val, (pr.laneClasses[l]).toNat⟩])
  ++ [⟨10, 0, flagCode pr.insertRight⟩, ⟨11, 0, flagCode pr.settleRight⟩]

/-- The profile as PROFILE READ answers it (R181). -/
def State.profileImage (s : State) : List Byte :=
  imgList ((s.decoder.profile.pairs s.presentLanes).map ProfilePair.image)

/-- PROFILE SET (R180). -/
def execProfileSet (o : Origin) (s : State) : Host.Outcome State Fault Refusal :=
  .next <| match s.waitingRequest o with
    | some (.profileSet count pairs) =>
      if count = 0 ∨ 32 < count then s.fail o .badArgument none (blockField 4)
      else match checkPairs s.presentNat o 0 pairs with
        | some (i, cc) => s.fail o cc none (some { kind := .item, index := i })
        | none =>
          let s := s.updDecoder fun d => { d with profile := pairs.foldl Profile.apply d.profile }
          s.complete o s.profileImage
    | _ => s

/-- PROFILE READ (R181). -/
def execProfileRead (o : Origin) (s : State) : Host.Outcome State Fault Refusal :=
  .next <| match s.waitingRequest o with
    | some .profileRead => s.complete o s.profileImage
    | _ => s

/-! ## Watch masks (R182) -/

/-- The snapshot of WATCH SET (R182). -/
def State.snapshot (w : WatchMask) (s : State) : List Byte :=
  imgList (((lanesOf w.lanes).filter s.lanePresent).map fun l =>
      imgLane l ++ img1 (s.laneAt l).state.code ++ img1 (s.laneAt l).condition.code)
    ++ imgList ((countersOf w.counters).map fun k =>
      img1 k.val ++ img4 (s.tally.counters[k]).value ++ imgFlag (s.tally.counters[k]).crossed)
    ++ (if w.link then img1 s.link.state.code else [])

/-- WATCH SET (R182): the mask is replaced and the snapshot taken; the office may not set the LINK flag. -/
def execWatchSet (o : Origin) (s : State) : Host.Outcome State Fault Refusal :=
  .next <| match s.waitingRequest o with
    | some (.watchSet lanes counters link) =>
      if o = .office ∧ link then s.fail o .badArgument none (blockField 1)
      else
        let w : WatchMask := { lanes := lanes, counters := counters, link := link }
        let s := s.updContext o fun c => { c with watch := w }
        s.complete o (s.snapshot w)
    | _ => s

/-! ## Readiness and conditions (R177, R185, R186) -/

/-- The items of READY CHECK (R185); the part revision is 2. -/
def State.readyImage (s : State) : List Byte :=
  img1 s.clock.state.code ++ imgList (s.presentLanes.map fun l => img1 (s.laneAt l).state.code)
    ++ img1 s.link.state.code ++ imgFlag s.decoder.warmMarker ++ imgFlag s.decoder.tableRetained
    ++ imgFlag s.table.sweep.running ++ imgFlag s.clearing ++ imgFlag s.port.spi ++ img1 2

/-- READY CHECK (R185). -/
def execReadyCheck (o : Origin) (s : State) : Host.Outcome State Fault Refusal :=
  .next <| match s.waitingRequest o with
    | some .readyCheck => s.complete o s.readyImage
    | _ => s

/-- MARK WARM (R186). -/
def execMarkWarm (o : Origin) (s : State) : Host.Outcome State Fault Refusal :=
  .next <| match s.waitingRequest o with
    | some .markWarm =>
      let s := s.updDecoder fun d => { d with warmMarker := true, tableRetained := false }
      s.complete o s.readyImage
    | _ => s

/-- CONDITION READ (R177): the record's image, and the record is then emptied. -/
def execConditionRead (o : Origin) (s : State) : Host.Outcome State Fault Refusal :=
  .next <| match s.waitingRequest o with
    | some .conditionRead =>
      let image := conditionImage (s.context o).condition
      (s.updContext o fun c => { c with condition := none }).complete o image
    | _ => s

end Sys2Proof.Machine
end

