-- ==== Sys2Proof/Machine/StationPort.lean ====
section
/-! DEFINITION. The station port (Chapter 10): port control, the request and output windows, the words it shows. -/

namespace Sys2Proof.Machine

/-! ## The words the port shows (Formats, R190, R195) -/

/-- A flag at a bit of a word. -/
def wordBit (b : Bool) (n : Nat) : Word := if b then 1#16 <<< n else 0

/-- The port status word (R190). -/
def Port.status (p : Port) : Word :=
  wordBit p.filling 0 ||| wordBit p.window.isSome 1
    ||| wordBit (p.window.any fun w => match w.item with | .notice _ => true | .answer _ => false) 2
    ||| wordBit p.protocolError 3

/-- The strap word (R189). -/
def Port.strapWord (p : Port) : Word := wordBit p.eightLanes 0 ||| wordBit p.spi 1

/-- The level of the interrupt pin: low while OUTPUT READY or PROTOCOL ERROR is set (R195). -/
def Port.interruptHigh (p : Port) : Bool := !(p.window.isSome || p.protocolError)

/-! ## Port control (R191, R193, R194) -/

/-- Sets PROTOCOL ERROR (R195). -/
def Port.misuse (p : Port) : Port := { p with protocolError := true }

/-- Gives the grant: the fill starts (R191). -/
def Port.startFill (p : Port) : Port := { p with filling := true, fill := [], target := 16 }

/-- ERROR CLEAR (R194). -/
def Port.clearError (p : Port) : Port := { p with protocolError := false }

/-- Gives the grant that is pending when no answer waits or is presented (R191, R193). -/
def Port.grantIfPending (p : Port) : Port :=
  if p.grantPending ∧ p.answerWaits = false then { p with grantPending := false }.startFill else p

/-- OUTPUT TAKEN (R193). -/
def Port.taken (p : Port) : Port :=
  match p.window with
  | none => p.misuse
  | some _ => (Port.present { p with window := none }).grantIfPending

/-- What ABORT does at the port (R194): a fill in progress is discarded, its count and target as at a reset (the model's choice
of log entry 32), and a pending grant is cleared. -/
def Port.abort (p : Port) : Port :=
  let p := { p with grantPending := false }
  if p.filling then { p with filling := false, fill := [], target := 16 } else p

/-- REQUEST (R191). -/
def Port.request (p : Port) : Port :=
  if p.filling then p.misuse.startFill
  else if p.answerWaits then { p with grantPending := true }
  else p.startFill

/-- A write of port control: ERROR CLEAR, OUTPUT TAKEN, ABORT, REQUEST, in that order (R194). -/
def State.writeControl (w : Word) (s : State) : State :=
  let s := if w.getLsbD 3 then s.updPort Port.clearError else s
  let s := if w.getLsbD 2 then s.updPort Port.taken else s
  let s := if w.getLsbD 1 then (s.updPort Port.abort).abortEvent .station else s
  if w.getLsbD 0 then s.updPort Port.request else s

/-- REQUEST: a write of port control with its bit set (R191, R194, log entry 7). -/
def execRequest (control : Word) (s : State) : Host.Outcome State Fault Refusal :=
  .next (s.writeControl (control ||| 1))

/-- ABORT: a write of port control with its bit set (R194). -/
def execAbort (control : Word) (s : State) : Host.Outcome State Fault Refusal :=
  .next (s.writeControl (control ||| 2))

/-- OUTPUT TAKEN: a write of port control with its bit set (R193). -/
def execOutputTaken (control : Word) (s : State) : Host.Outcome State Fault Refusal :=
  .next (s.writeControl (control ||| 4))

/-- ERROR CLEAR: a write of port control with its bit set (R194). -/
def execErrorClear (control : Word) (s : State) : Host.Outcome State Fault Refusal :=
  .next (s.writeControl (control ||| 8))

/-! ## The request window (R191, R192) -/

/-- The two bytes of a word, the low one first. -/
def wordBytes (w : Word) : List Byte := [w.setWidth 8, (w >>> 8).setWidth 8]

/-- The fill target of a block whose first four bytes are known (R191). -/
def fillTarget (block : List Byte) : Nat :=
  let len := fieldAt block 2 2
  if len ≤ 1024 then 16 + len else 16

/-- The port after a word of the block is taken (R191): the bytes up to the fill target, and the target once the data length
is known. -/
def Port.fillWord (w : Word) (p : Port) : Port :=
  let block := (p.fill ++ wordBytes w).take p.target
  { p with fill := block, target := if block.length = 4 then fillTarget block else p.target }

/-- REQUEST WINDOW: a write of word 1 (R191, R192). The fill count and target of a block handed on stand until the next grant
(R190). -/
def execRequestWindow (word : Word) (s : State) : Host.Outcome State Fault Refusal :=
  .next <|
    if s.port.filling then
      let p := s.port.fillWord word
      if p.target ≤ p.fill.length then
        (s.updPort fun _ => { p with filling := false }).deliver .station p.fill
      else s.updPort fun _ => p
    else s.updPort Port.misuse

/-! ## The output window (R193) -/

/-- The bytes of the item presented. -/
def OutItem.bytes : OutItem → List Byte
  | .answer a => a.bytes
  | .notice q => q.bytes

/-- The word at a read position, low byte first; a missing high half is 00h (R193). -/
def wordOf (bs : List Byte) (position : Nat) : Word :=
  (byteAt bs (2 * position + 1)).setWidth 16 <<< 8 ||| (byteAt bs (2 * position)).setWidth 16

/-- The word a read of the output window gives: 0000h past the last word or with the window empty (R193). -/
def Port.outputWord (p : Port) : Word :=
  match p.window with
  | none => 0
  | some w => if 2 * w.position < w.item.bytes.length then wordOf w.item.bytes w.position else 0

/-- The port after a read of the output window (R193). -/
def Port.readWindow (p : Port) : Port :=
  let p := { p with readData := p.outputWord }
  match p.window with
  | none => p.misuse
  | some w =>
    if 2 * w.position < w.item.bytes.length then { p with window := some { w with position := w.position + 1 } }
    else p.misuse

/-- OUTPUT WINDOW: a read of word 2 (R193). -/
def execOutputWindow (s : State) : Host.Outcome State Fault Refusal := .next (s.updPort Port.readWindow)

/-! ## The rest (R189) -/

/-- IGNORED WRITE: a write of word 2 or word 3 has no effect in either personality (R189). -/
def execIgnoredWrite (_word : BitVec 2) (_value : Word) (s : State) : Host.Outcome State Fault Refusal := .next s

/-- SHORT TRANSFER: no effect but PROTOCOL ERROR; in the parallel personality the SPI pins are not examined (R189). -/
def execShortTransfer (s : State) : Host.Outcome State Fault Refusal :=
  .next (if s.port.spi then s.updPort Port.misuse else s)

/-- BAD COMMAND BYTE: a transfer whose command byte has any of bits 6 to 2 set has no effect but PROTOCOL ERROR (R189). -/
def execBadCommandByte (command : Byte) (s : State) : Host.Outcome State Fault Refusal :=
  .next (if s.port.spi ∧ command &&& 0x7C#8 ≠ 0 then s.updPort Port.misuse else s)

/-! ## The four words and the SPI transfer (R189, Station port words) -/

/-- The word a read of each of the four words gives (R189, Formats). -/
def Port.readWord (word : BitVec 2) (p : Port) : Word :=
  if word = 0 then p.status else if word = 1 then 0 else if word = 2 then p.outputWord else p.strapWord

/-- What the processor does at the port: a read or a write of a word, or an SPI transfer that is neither. -/
inductive PortAccess where
  | read (word : BitVec 2)
  | write (word : BitVec 2) (value : Word)
  | short
  | bad (command : Byte)
  deriving DecidableEq, Repr

/-- What the bytes of one period of select low are in the SPI personality (R189); the bytes after the third are ignored. -/
def spiAccess : List Byte → PortAccess
  | command :: low :: high :: _ =>
    if command &&& 0x7C ≠ 0 then .bad command
    else if command.getLsbD 7 then .write (command.setWidth 2) (high ++ low)
    else .read (command.setWidth 2)
  | _ => .short

/-- The bytes the part sends after the command byte of a read transfer, as many as the processor clocks: the word's value,
low byte first, and 00h after the third byte of the transfer (R189). -/
def spiSent (value : Word) (n : Nat) : List Byte := (wordBytes value ++ List.replicate (n - 2) 0).take n

/-- The command that an access of the port is, where it is one: a write of port control is named by its lowest bit (log entry
7), and a control write with no bit set, or a read of a word other than the output window, changes nothing. -/
def PortAccess.command : PortAccess → Option Instr
  | .read word => if word = 2 then some .outputWindow else none
  | .write word value =>
    if word = 0 then
      if value.getLsbD 0 then some (.request value)
      else if value.getLsbD 1 then some (.abort value)
      else if value.getLsbD 2 then some (.outputTaken value)
      else if value.getLsbD 3 then some (.errorClear value)
      else none
    else if word = 1 then some (.requestWindow value)
    else some (.ignoredWrite word value)
  | .short => some .shortTransfer
  | .bad command => some (.badCommandByte command)

end Sys2Proof.Machine
end

