-- ==== Sys2Proof/Machine/Line.lean ====
section
/-! DEFINITION. The office link (Chapter 11): the line control machine, opening and closing, the frames received and sent. -/

namespace Sys2Proof.Machine

/-! ## The line inputs and outputs (R197) -/

/-- Line-ready as the link reads it: high in DATA ONLY mode (R197). -/
def Link.readyIn (k : Link) : Bool := k.dataOnly || k.lineReady

/-- Carrier as the link reads it. -/
def Link.carrierIn (k : Link) : Bool := k.dataOnly || k.carrier

/-- Clear-to-send as the link reads it. -/
def Link.clearIn (k : Link) : Bool := k.dataOnly || k.clearToSend

/-- The level of the outputs terminal-ready and request-send (R197). -/
def Link.outputsHigh (k : Link) : Bool :=
  match k.state with
  | .armed | .starting | .up | .fading => true
  | .down | .dropping => false

/-! ## Moving (R198, R199) -/

/-- STARTING to UP when all three inputs are high (R198). -/
def Link.goUp (k : Link) : Link :=
  if k.state = .starting ∧ k.readyIn ∧ k.carrierIn ∧ k.clearIn then { k with state := .up, startTimer := none } else k

/-- ARMED to STARTING when line-ready is high, and on (R198). -/
def Link.passOn (now : Nat) (k : Link) : Link :=
  if k.state = .armed ∧ k.readyIn then Link.goUp { k with state := .starting, startTimer := some (now + 30000) } else k

/-- The link's own part of an entry into DROPPING: timers, reason, slots and answers (R199, steps 1 to 3). -/
def Link.drop (now : Nat) (why : DropReason) (k : Link) : Link :=
  { k with
    state := .dropping, lastReason := why, startTimer := none, fadeTimer := none, dropShort := some (now + 250),
    dropLong := some (now + 2000), slots := [], sending := false, answers := [] }

/-- What the drop does to the office's request in flight: a PENDING REFUND HOLD ends; any other is not answerable (R172). -/
def Context.lineDropped (c : Context) : Context :=
  { c with inFlight := match c.inFlight with
      | some { stage := .pendingHold _, .. } => none
      | some f => some { f with answerable := false }
      | none => none }

/-- Entry into DROPPING (R199, steps 1 to 4). -/
def State.enterDropping (why : DropReason) (s : State) : State :=
  (((s.updLink (Link.drop s.now why)).updContext .office Context.lineDropped).updLanes fun c =>
    { c with drops := c.drops + 1 }).updSettlement fun u => { u with drops := u.drops + 1 }

/-- The drop ends: DOWN where a close is pending, else ARMED and on (R198). -/
def Link.endDrop (now : Nat) (k : Link) : Link :=
  let k := { k with dropShort := none, dropLong := none, shortPassed := false }
  if k.closePending then { k with state := .down, closePending := false }
  else Link.passOn now { k with state := .armed }

/-- The drop reason a LINK notice carries (R198). -/
def Link.noticeReason (k : Link) : DropReason := if k.state = .dropping then k.lastReason else .none

/-- Runs one event at the line control machine: at most one LINK notice, carrying the state it ends in (R198); the
transmitter then goes on as far as it may (R205). -/
def State.lineEvent (f : State → State) (s : State) : State :=
  let s' := f s
  let s' := if s'.link.state ≠ s.link.state then s'.raiseLink (.link s'.link.state s'.link.noticeReason) else s'
  s'.updLink Link.pump

/-- Line-ready going low, as read (R198). -/
def State.lineReadyLow (s : State) : State :=
  match s.link.state with
  | .starting | .up | .fading => s.enterDropping .lineReadyLost
  | .dropping => if s.link.shortPassed then s.updLink (Link.endDrop s.now) else s
  | .down | .armed => s

/-- Line-ready going high, as read (R198). -/
def State.lineReadyHigh (s : State) : State := s.updLink fun k => (k.passOn s.now).goUp

/-- LINE READY: a change of the line-ready pin; in DATA ONLY mode it is no event (R197, R198). -/
def execLineReady (high : Bool) (s : State) : Host.Outcome State Fault Refusal :=
  .next <|
    if s.link.lineReady = high then s
    else
      let s := s.updLink fun k => { k with lineReady := high }
      if s.link.dataOnly then s
      else s.lineEvent fun s => if high then s.lineReadyHigh else s.lineReadyLow

/-- Carrier going low or high, as read (R198). -/
def State.carrierChange (high : Bool) (s : State) : State :=
  match s.link.state, high with
  | .up, false => s.updLink fun k => { k with state := .fading, fadeTimer := some (s.now + 2000) }
  | .fading, true => s.updLink fun k => { k with state := .up, fadeTimer := none }
  | .starting, true => s.updLink Link.goUp
  | _, _ => s

/-- CARRIER: a change of the carrier pin; in DATA ONLY mode it is no event (R197, R198). -/
def execCarrier (high : Bool) (s : State) : Host.Outcome State Fault Refusal :=
  .next <|
    if s.link.carrier = high then s
    else
      let s := s.updLink fun k => { k with carrier := high }
      if s.link.dataOnly then s else s.lineEvent (State.carrierChange high)

/-- CLEAR TO SEND: a change of the clear-to-send pin: it may complete the start, and governs the transmitter (R198, R205). -/
def execClearToSend (high : Bool) (s : State) : Host.Outcome State Fault Refusal :=
  .next <|
    if s.link.clearToSend = high then s
    else
      let s := s.updLink fun k => { k with clearToSend := high }
      if s.link.dataOnly then s
      else s.lineEvent fun s => if high then s.updLink Link.goUp else s

/-! ## Line timers (R198) -/

/-- START TIMER EXPIRY. -/
def execStartTimerExpiry (s : State) : Host.Outcome State Fault Refusal :=
  .next (if due s.now s.link.startTimer then s.lineEvent (State.enterDropping .noCarrier) else s)

/-- FADE TIMER EXPIRY. -/
def execFadeTimerExpiry (s : State) : Host.Outcome State Fault Refusal :=
  .next (if due s.now s.link.fadeTimer then s.lineEvent (State.enterDropping .noCarrier) else s)

/-- The 250 ms drop timer's expiry at the link (R198). -/
def Link.shortExpiry (now : Nat) (k : Link) : Link :=
  let k := { k with dropShort := none, shortPassed := true }
  if k.readyIn then k else k.endDrop now

/-- DROP SHORT EXPIRY. -/
def execDropShortExpiry (s : State) : Host.Outcome State Fault Refusal :=
  .next (if due s.now s.link.dropShort then s.lineEvent fun s => s.updLink (Link.shortExpiry s.now) else s)

/-- DROP LONG EXPIRY. -/
def execDropLongExpiry (s : State) : Host.Outcome State Fault Refusal :=
  .next (if due s.now s.link.dropLong then s.lineEvent fun s => s.updLink (Link.endDrop s.now) else s)

/-! ## Opening, closing and status (R200 to R202) -/

/-- The argument tests of LINK OPEN, in order: the offset of the byte at fault (R200). -/
def checkLinkOpen (address rate source mode : Nat) : Option Nat :=
  if address = 0 ∨ address = 255 then some 4
  else if 7 < rate then some 5
  else if 1 < source then some 6
  else if 1 < mode then some 7
  else none

/-- The link with the settings of a LINK OPEN, ARMED and on (R200). -/
def Link.opened (now address rate source mode : Nat) (k : Link) : Link :=
  Link.passOn now
    { k with
      address := address, rate := rate, lineClock := source == 1, dataOnly := mode == 1, state := .armed }

/-- LINK OPEN (R200). -/
def execLinkOpen (o : Origin) (s : State) : Host.Outcome State Fault Refusal :=
  .next <| match s.waitingRequest o with
    | some (.linkOpen address rate source mode) =>
      match checkLinkOpen address rate source mode with
      | some off => s.fail o .badArgument none (blockField off)
      | none =>
        if s.link.state ≠ .down then s.fail o .outOfSequence none none
        else
          let s := s.lineEvent fun s => s.updLink (Link.opened s.now address rate source mode)
          s.complete o (img1 s.link.state.code)
    | _ => s

/-- Sets close pending. -/
def Link.pendClose (k : Link) : Link := { k with closePending := true }

/-- LINK CLOSE (R201). -/
def execLinkClose (o : Origin) (s : State) : Host.Outcome State Fault Refusal :=
  .next <| match s.waitingRequest o with
    | some .linkClose =>
      match s.link.state with
      | .down => s.fail o .outOfSequence none none
      | .armed | .starting | .up | .fading =>
        let s := s.lineEvent fun s => (s.updLink Link.pendClose).enterDropping .close
        s.complete o (img1 s.link.state.code)
      | .dropping =>
        if s.link.closePending then s.fail o .double none none
        else
          let s := s.updLink Link.pendClose
          s.complete o (img1 s.link.state.code)
    | _ => s

/-- The deadline of the start, fade or 2 s drop timer that runs (R202). -/
def Link.runningTimer (k : Link) : Option Nat := k.startTimer <|> k.fadeTimer <|> k.dropLong

/-- The answer data of LINK STATUS (R202); a line input's level is 1 for high and 0 for low (the model's choice of log entry
33). -/
def Link.image (k : Link) : List Byte :=
  img1 k.state.code ++ imgFlag k.closePending ++ img1 k.lastReason.code ++ img1 k.address ++ img1 k.rate
    ++ imgFlag k.lineClock ++ imgFlag k.dataOnly ++ imgFlag k.readyIn ++ imgFlag k.carrierIn ++ imgFlag k.clearIn
    ++ imgTimebase k.runningTimer ++ img2 k.answers.length ++ img2 k.slots.length ++ img2 k.queue.length

/-- LINK STATUS (R202). -/
def execLinkStatus (o : Origin) (s : State) : Host.Outcome State Fault Refusal :=
  .next <| match s.waitingRequest o with
    | some .linkStatus => s.complete o s.link.image
    | _ => s

/-! ## Receiving frames (R203, R204) -/

/-- Hands the tally unit FRAME BAD, with no lane and no class (R203). -/
def State.frameBad (s : State) : State := s.handEvents [{ kind := .frameBad, lane := none, cls := none, reason := none }]

/-- What the receiver makes of a frame (R203, R204). -/
inductive Received where
  /-- Two flags that enclose nothing. -/
  | nothing
  | bad
  /-- Another lift's frame. -/
  | other
  | request (body : List Byte)
  | broadcast (body : List Byte)
  | abort
  | broadcastAbort
  deriving DecidableEq, Repr

/-- Whether a REQUEST body has its right form: 16 bytes and the data phase it announces (R203, step 3). -/
def requestForm (body : List Byte) : Bool :=
  decide (16 ≤ body.length) && body.length == 16 + fieldAt body 2 2

/-- Whether a frame passes its check, its escapes undone (R203, step 1). -/
def frameHolds (f : List Byte) : Bool :=
  decide (6 ≤ f.length) && decide (f.length ≤ 8214) && fieldAt f 2 2 == f.length - 6
    && (frameCheck (f.take (f.length - 2))).toNat == fieldAt f (f.length - 2) 2

/-- The form of a frame that is for this lift (R203, step 3). -/
def judgeForm (broadcast : Bool) (kind : Nat) (body : List Byte) : Received :=
  match kind with
  | 1 => if requestForm body then (if broadcast then .broadcast body else .request body) else .bad
  | 4 => if body = [] then (if broadcast then .broadcastAbort else .abort) else .bad
  | _ => .bad

/-- Judges the bytes between two flags (R203). -/
def judgeFrame (address : Nat) (received : List Byte) : Received :=
  if received = [] then .nothing
  else match unescapeBytes received with
    | none => .bad
    | some f =>
      if frameHolds f = false then .bad
      else if fieldAt f 0 1 ≠ address ∧ fieldAt f 0 1 ≠ 255 then .other
      else judgeForm (fieldAt f 0 1 == 255) (fieldAt f 1 1) ((f.drop 4).take (f.length - 6))

/-- Takes a frame by its kind (R204). -/
def State.takeFrame (r : Received) (s : State) : State :=
  match r with
  | .nothing | .other | .broadcastAbort => s
  | .bad => s.frameBad
  | .request body => s.deliver .office body
  | .broadcast body => s.deliverBroadcast body
  | .abort => s.abortEvent .office

/-- The receiver takes bytes only while the line is UP (R203). -/
def State.receive (r : Received) (s : State) : State := if s.link.state = .up then s.takeFrame r else s

/-- REQUEST FRAME: addressed to this lift (R204). -/
def execRequestFrame (body : List Byte) (s : State) : Host.Outcome State Fault Refusal :=
  .next (s.receive (judgeForm false 1 body))

/-- BROADCAST: a REQUEST frame addressed to 255 (R174, R204). -/
def execBroadcast (body : List Byte) (s : State) : Host.Outcome State Fault Refusal :=
  .next (s.receive (judgeForm true 1 body))

/-- ABORT FRAME: addressed to this lift (R204). -/
def execAbortFrame (s : State) : Host.Outcome State Fault Refusal := .next (s.receive .abort)

/-- BROADCAST ABORT: an ABORT frame addressed to 255 is not acted upon (R204). -/
def execBroadcastAbort (s : State) : Host.Outcome State Fault Refusal := .next (s.receive .broadcastAbort)

/-- FRAME DISCARDED: the bytes between two flags, judged whole (R203); a frame that is good after all is taken by its kind
(log entry 6). -/
def execFrameDiscarded (received : List Byte) (s : State) : Host.Outcome State Fault Refusal :=
  .next (s.receive (judgeFrame s.link.address received))

/-! ## Sending frames (R205) -/

/-- The closing flag of the frame being sent has gone: its slot empties and is filled again (R205). -/
def Link.sent (k : Link) : Link :=
  match k.slots with
  | f :: rest =>
    if k.sending then Link.pump { k with slots := rest, sending := false, lineOut := k.lineOut ++ [onLine f] } else k
  | [] => k

/-- FRAME SENT (R205). -/
def execFrameSent (s : State) : Host.Outcome State Fault Refusal := .next (s.updLink Link.sent)

end Sys2Proof.Machine
end

