-- ==== Sys2Proof/Machine/Resets.lean ====
section
/-! DEFINITION. The two resets (the reset rule of each chapter). -/

namespace Sys2Proof.Machine

/-- COLD RESET (R26, R41, R67, R107, R127, R146, R169, R181, R187, R196, R206): every block at its cold reset values; the
straps as latched (R189), the line input pins as they stand (log entry 20). -/
def execColdReset (eightLanes spi : Bool) (s : State) : Host.Outcome State Fault Refusal :=
  .next (State.afterColdReset eightLanes spi s.link.lineReady s.link.carrier s.link.clearToSend s.pending)

/-- A record at warm reset, given whether its pass has a PENDING hold (R27, R128). -/
def PassRecord.warm (pending : Bool) (r : PassRecord) : PassRecord :=
  { r with
    inFlight := none,
    state := if r.state = .held then .active else r.state,
    holdLapsed := r.holdLapsed || r.state == .held || pending }

/-- The table engine at warm reset (R27, R108). -/
def Table.warm (u : Settlement) (t : Table) : Table :=
  { t with
    records := t.records.map fun r => r.warm (u.pending r.pass),
    sweep := if t.sweep.running then Sweep.started else t.sweep,
    clear := t.clear.map fun c => { c with orphan := true },
    lastLane := 7, lastOrigin := .office, officeClaims := [] }

/-- The settlement unit at warm reset (R128, R146). -/
def Settlement.warm (u : Settlement) : Settlement :=
  { u with holds := [], lapseClaim := none, collection := none, drops := 0 }

/-- A lane at warm reset (R43, R68): the pause mark is set anew; the record of the verdicts sent stays. -/
def Lane.warm (now : Nat) (present paced : Bool) (ln : Lane) : Lane :=
  { (if present then Lane.initial now paced else Lane.absent) with readerOut := ln.readerOut }

/-- The lane controller at warm reset, with the strap latched (R44, R68). -/
def LaneController.warm (now : Nat) (eightLanes : Bool) (t : Tally) (c : LaneController) : LaneController :=
  { lane := Vector.ofFn fun l : Fin 8 => (c.lane[l]).warm now (decide (l.val < 4) || eightLanes) (t.paces l),
    settleAt := some (now + 50), drops := 0 }

/-- A context at warm reset (R187): the watch mask is retained. -/
def Context.warm (c : Context) : Context := { c with inFlight := none, condition := none }

/-- The request decoder at warm reset (R181, R186, R187; log entry 12). -/
def Decoder.warm (d : Decoder) : Decoder :=
  { d with
    station := d.station.warm, office := d.office.warm, tableRetained := true,
    laneMsgs := [], tallyMsgs := [], settlementMsgs := [], linkMsgs := [], tableMsgs := [] }

/-- The office link at warm reset: DOWN at once; the settings and the last drop reason are retained (R206). -/
def Link.warm (k : Link) : Link :=
  { k with
    state := .down, closePending := false, startTimer := none, fadeTimer := none, dropShort := none,
    dropLong := none, shortPassed := false, answers := [], slots := [], sending := false, queue := [] }

/-- WARM RESET (R27, R42, R68, R108, R128, R146, R170, R181, R187, R196, R206), with the straps as latched (R189). -/
def execWarmReset (eightLanes spi : Bool) (s : State) : Host.Outcome State Fault Refusal :=
  .next
    { s with
      table := s.table.warm s.settlement,
      settlement := s.settlement.warm,
      lanes := s.lanes.warm s.now eightLanes s.tally,
      decoder := s.decoder.warm,
      port := .initial eightLanes spi,
      link := s.link.warm }

end Sys2Proof.Machine
end

