-- ==== Sys2Proof/Machine/Dispatch.lean ====
section
/-! DEFINITION. What each command does: one arm for each constructor of Instr, each one call of its meaning. -/

namespace Sys2Proof.Machine

/-- The effect of a command on everything but the queue. -/
def exec (i : Instr) (s : State) : Host.Outcome State Fault Refusal :=
  match i with
  | .coldReset eightLanes spi => Sys2Proof.Machine.execColdReset eightLanes spi s
  | .warmReset eightLanes spi => Sys2Proof.Machine.execWarmReset eightLanes spi s
  | .operatingSecondAdvance => Sys2Proof.Machine.execOperatingSecondAdvance s
  | .rollover => Sys2Proof.Machine.execRollover s
  | .intervalClose => Sys2Proof.Machine.execIntervalClose s
  | .clockSet src => Sys2Proof.Machine.execClockSet src s
  | .clockRead o => Sys2Proof.Machine.execClockRead o s
  | .presence lane => Sys2Proof.Machine.execPresence lane s
  | .presentation lane pass media status attempt => Sys2Proof.Machine.execPresentation lane pass media status attempt s
  | .discardedReaderMessage lane burst => Sys2Proof.Machine.execDiscardedReaderMessage lane burst s
  | .readerSilence lane => Sys2Proof.Machine.execReaderSilence lane s
  | .beamSettle entryBroken exitBroken => Sys2Proof.Machine.execBeamSettle entryBroken exitBroken s
  | .beamBreak lane beam => Sys2Proof.Machine.execBeamBreak lane beam s
  | .beamRestore lane beam => Sys2Proof.Machine.execBeamRestore lane beam s
  | .passageWindowExpiry lane => Sys2Proof.Machine.execPassageWindowExpiry lane s
  | .passingLimitExpiry lane => Sys2Proof.Machine.execPassingLimitExpiry lane s
  | .missWaitExpiry lane => Sys2Proof.Machine.execMissWaitExpiry lane s
  | .toneEnd lane => Sys2Proof.Machine.execToneEnd lane s
  | .lampBlink lane => Sys2Proof.Machine.execLampBlink lane s
  | .decisionClaim lane => Sys2Proof.Machine.execDecisionClaim lane s
  | .commitClaim lane => Sys2Proof.Machine.execCommitClaim lane s
  | .withdrawClaim lane => Sys2Proof.Machine.execWithdrawClaim lane s
  | .lapseTimerExpiry => Sys2Proof.Machine.execLapseTimerExpiry s
  | .lapseClaim => Sys2Proof.Machine.execLapseClaim s
  | .sweepStep => Sys2Proof.Machine.execSweepStep s
  | .clearStep => Sys2Proof.Machine.execClearStep s
  | .passFindStep o => Sys2Proof.Machine.execPassFindStep o s
  | .dayMergeEntry o => Sys2Proof.Machine.execDayMergeEntry o s
  | .passInsert o => Sys2Proof.Machine.execPassInsert o s
  | .passRead o => Sys2Proof.Machine.execPassRead o s
  | .passDrop o => Sys2Proof.Machine.execPassDrop o s
  | .passFind o => Sys2Proof.Machine.execPassFind o s
  | .tableSize o => Sys2Proof.Machine.execTableSize o s
  | .tableClear o => Sys2Proof.Machine.execTableClear o s
  | .dayMerge o => Sys2Proof.Machine.execDayMerge o s
  | .revokeLoad src => Sys2Proof.Machine.execRevokeLoad src s
  | .revokeRead o => Sys2Proof.Machine.execRevokeRead o s
  | .refundHold o => Sys2Proof.Machine.execRefundHold o s
  | .refundSettle o => Sys2Proof.Machine.execRefundSettle o s
  | .refundRelease o => Sys2Proof.Machine.execRefundRelease o s
  | .holdListRead o => Sys2Proof.Machine.execHoldListRead o s
  | .usageCollect o => Sys2Proof.Machine.execUsageCollect o s
  | .usageConfirm o => Sys2Proof.Machine.execUsageConfirm o s
  | .laneOpen o => Sys2Proof.Machine.execLaneOpen o s
  | .laneClose o => Sys2Proof.Machine.execLaneClose o s
  | .laneReset o => Sys2Proof.Machine.execLaneReset o s
  | .laneStatus o => Sys2Proof.Machine.execLaneStatus o s
  | .pacingStart lane => Sys2Proof.Machine.execPacingStart lane s
  | .pacingEnd lane => Sys2Proof.Machine.execPacingEnd lane s
  | .tallyEvent batch => Sys2Proof.Machine.execTallyEvent batch s
  | .tallyProgram o => Sys2Proof.Machine.execTallyProgram o s
  | .tallyRead o => Sys2Proof.Machine.execTallyRead o s
  | .tallyClear o => Sys2Proof.Machine.execTallyClear o s
  | .historyRead o => Sys2Proof.Machine.execHistoryRead o s
  | .noticePlacement raiser => Sys2Proof.Machine.execNoticePlacement raiser s
  | .missNoticeRemoval => Sys2Proof.Machine.execMissNoticeRemoval s
  | .profileSet o => Sys2Proof.Machine.execProfileSet o s
  | .profileRead o => Sys2Proof.Machine.execProfileRead o s
  | .watchSet o => Sys2Proof.Machine.execWatchSet o s
  | .readyCheck o => Sys2Proof.Machine.execReadyCheck o s
  | .conditionRead o => Sys2Proof.Machine.execConditionRead o s
  | .markWarm o => Sys2Proof.Machine.execMarkWarm o s
  | .linkOpen o => Sys2Proof.Machine.execLinkOpen o s
  | .linkClose o => Sys2Proof.Machine.execLinkClose o s
  | .linkStatus o => Sys2Proof.Machine.execLinkStatus o s
  | .request control => Sys2Proof.Machine.execRequest control s
  | .requestWindow word => Sys2Proof.Machine.execRequestWindow word s
  | .outputWindow => Sys2Proof.Machine.execOutputWindow s
  | .outputTaken control => Sys2Proof.Machine.execOutputTaken control s
  | .abort control => Sys2Proof.Machine.execAbort control s
  | .errorClear control => Sys2Proof.Machine.execErrorClear control s
  | .ignoredWrite word value => Sys2Proof.Machine.execIgnoredWrite word value s
  | .shortTransfer => Sys2Proof.Machine.execShortTransfer s
  | .badCommandByte command => Sys2Proof.Machine.execBadCommandByte command s
  | .lineReady high => Sys2Proof.Machine.execLineReady high s
  | .carrier high => Sys2Proof.Machine.execCarrier high s
  | .clearToSend high => Sys2Proof.Machine.execClearToSend high s
  | .startTimerExpiry => Sys2Proof.Machine.execStartTimerExpiry s
  | .fadeTimerExpiry => Sys2Proof.Machine.execFadeTimerExpiry s
  | .dropShortExpiry => Sys2Proof.Machine.execDropShortExpiry s
  | .dropLongExpiry => Sys2Proof.Machine.execDropLongExpiry s
  | .lineDropAtLanes => Sys2Proof.Machine.execLineDropAtLanes s
  | .collectionVoid => Sys2Proof.Machine.execCollectionVoid s
  | .requestFrame body => Sys2Proof.Machine.execRequestFrame body s
  | .broadcast body => Sys2Proof.Machine.execBroadcast body s
  | .abortFrame => Sys2Proof.Machine.execAbortFrame s
  | .frameDiscarded received => Sys2Proof.Machine.execFrameDiscarded received s
  | .frameSent => Sys2Proof.Machine.execFrameSent s
  | .broadcastAbort => Sys2Proof.Machine.execBroadcastAbort s

end Sys2Proof.Machine
end

