-- ==== Sys2Proof/Safety.lean ====
section
/-! DEFINITION. What the spec says always holds of the part, block by block, in the terms claims use. -/

namespace Sys2Proof.Machine

/-- The clock's ranges and what its states say of the day (R28, R29, R31, R33, R41). -/
def Clock.Ok (c : Clock) : Prop :=
  c.day ≤ 239 ∧ c.second ≤ 86399 ∧ c.phase ≤ 999 ∧ c.lastDay ≤ 238 ∧ c.timebase < 2 ^ 40
    ∧ (c.state = .unset → c.day = 0 ∧ c.second = 0 ∧ c.phase = 0)
    ∧ (c.state = .running → c.day ≤ c.lastDay)
    ∧ (c.state = .ended → c.lastDay < c.day)

/-- A record's fields in their ranges, and its unreported days among its used days (R1). -/
def PassRecord.Ok (r : PassRecord) : Prop :=
  r.first ≤ r.last ∧ r.last ≤ 239 ∧ r.ridesSeason ≤ 65535 ∧ r.ridesToday ≤ 65535
    ∧ (r.kind = .days → 1 ≤ r.entitled ∧ r.entitled ≤ 30) ∧ (r.kind = .season → r.entitled = 0)
    ∧ withoutDays r.unreported r.used = 0

/-- Every resident record is in its ranges (R1). -/
def State.RecordsOk (s : State) : Prop := ∀ r ∈ s.table.records, r.Ok

/-- The sorted index and the recency list: at most 8192 records, no pass twice, passes 1 to 4,294,967,294, ascending, and
the recency list names each resident pass once (R2, R8, R9). -/
def Table.IndexOk (t : Table) : Prop :=
  t.records.Pairwise (fun a b => a.pass < b.pass) ∧ t.records.length ≤ 8192
    ∧ (∀ r ∈ t.records, badPass r.pass = false)
    ∧ t.recency.Nodup ∧ (∀ p ∈ t.recency, (t.find p).isSome) ∧ (∀ r ∈ t.records, r.pass ∈ t.recency)

/-- The revocation list: strictly ascending, at most 2048 passes of 1 to 4,294,967,294; the generation in 16 bits (R96). -/
def Table.ListOk (t : Table) : Prop :=
  t.revoked.Pairwise (· < ·) ∧ t.revoked.length ≤ 2048 ∧ (∀ p ∈ t.revoked, badPass p = false) ∧ t.generation ≤ 65535

/-- A lane's items against its state (R47, R48, R55 to R57, R80, R82): an admission record exactly in RELEASED, PASSING and
CLOSING; a miss record exactly in WAITING; the gate released only before the ending claim; each timer only where it runs. -/
def Lane.Ok (ln : Lane) : Prop :=
  (ln.admission.isSome = true ↔ ln.state.holdsAdmission = true)
    ∧ (ln.miss.isSome = true ↔ ln.state = .waiting)
    ∧ (ln.gate = true → ln.state.holdsAdmission = true ∧ ln.ending = .none)
    ∧ (ln.ending ≠ .none → ln.state.holdsAdmission = true ∧ ln.window = none ∧ ln.limit = none)
    ∧ (∀ d ∈ ln.window, ln.admission.any (·.phase == .released) = true)
    ∧ (∀ d ∈ ln.limit, ln.admission.any (·.phase == .passing) = true)
    ∧ (∀ d ∈ ln.missWait, ln.state = .waiting)
    ∧ (ln.state = .deciding ∨ ln.state = .waiting → ln.current.isSome = true)
    ∧ (ln.next.isSome = true → ln.current.isSome = true)

/-- Every lane's items agree with its state. -/
def State.LanesOk (s : State) : Prop := ∀ l : LaneNo, (s.laneAt l).Ok

/-- Absent lanes hold no lane state (R43). -/
def State.AbsentOk (s : State) : Prop :=
  ∀ l : LaneNo, s.lanePresent l = false → { s.laneAt l with readerOut := [] } = Lane.absent

/-- While a TABLE CLEAR runs, no sweep runs, every present lane is CLOSED, and nothing is unreported or collected (R23, R27);
the hold list, empty as the clear began, is left out: a REFUND HOLD then in flight may place a hold (log entry 9). -/
def State.ClearOk (s : State) : Prop :=
  s.clearing = true → s.table.sweep.running = false
    ∧ (∀ l : LaneNo, s.lanePresent l = true → (s.laneAt l).state = .closed)
    ∧ s.settlement.queue = [] ∧ s.settlement.collection = none

/-- The in-flight marks and the admission records: a record names a lane exactly when that lane's admission names it, and
every admission's pass is resident (R79, R80). -/
def State.FlightOk (s : State) : Prop :=
  (∀ r ∈ s.table.records, ∀ l : LaneNo,
      r.inFlight = some l ↔ (s.laneAt l).admission.any (·.pass == r.pass) = true)
    ∧ ∀ l : LaneNo, ∀ a ∈ (s.laneAt l).admission, (s.record a.pass).isSome = true ∧ a.day ≤ 239

/-- The report queue: a pass is in it exactly when it is resident with unreported days, and once (R131). -/
def State.QueueOk (s : State) : Prop :=
  s.settlement.queue.Nodup
    ∧ (∀ p ∈ s.settlement.queue, (s.record p).any (fun r => r.unreported != 0) = true)
    ∧ ∀ r ∈ s.table.records, r.unreported ≠ 0 → r.pass ∈ s.settlement.queue

/-- Hold list entry x may stand before y: HELD entries by ascending deadline, then the PENDING ones (R109). -/
def holdBefore (x y : HoldEntry) : Prop :=
  (y.phase = .held → x.phase = .held) ∧ (x.phase = .held → y.phase = .held → x.deadline.getD 0 ≤ y.deadline.getD 0)

/-- The hold list: at most 16 entries in order, no pass twice; a record is HELD exactly when a HELD entry names it; a PENDING
entry names an ACTIVE record in flight; a REFUND HOLD that waits for a PENDING hold has its entry (R109, R110, R111). -/
def State.HoldsOk (s : State) : Prop :=
  s.settlement.holds.length ≤ 16
    ∧ s.settlement.holds.Pairwise holdBefore
    ∧ (s.settlement.holds.map (·.pass)).Nodup
    ∧ (∀ e ∈ s.settlement.holds, e.phase = .held → e.deadline.isSome = true
        ∧ (s.record e.pass).any (fun r => r.state == .held) = true)
    ∧ (∀ e ∈ s.settlement.holds, e.phase = .pending → e.deadline = none
        ∧ (s.record e.pass).any (fun r => r.state == .active && r.inFlight.isSome) = true)
    ∧ (∀ r ∈ s.table.records, r.state = .held → (s.settlement.hold r.pass).any (·.phase == .held) = true)
    ∧ ∀ o p, s.stage o = some (.pendingHold p) →
        (s.settlement.hold p).any (fun e => e.phase == .pending && e.owner == o) = true

/-- The open collection: 1 to 64 entries, no pass twice, a tag of 1 to 255; the carried days of an entry that is not void are
not empty and still unreported (R133, R136). -/
def State.CollectionOk (s : State) : Prop :=
  s.settlement.lastTag ≤ 255
    ∧ ∀ c ∈ s.settlement.collection, c.tag = s.settlement.lastTag ∧ 1 ≤ c.tag ∧ 1 ≤ c.entries.length
      ∧ c.entries.length ≤ 64 ∧ (c.entries.map (·.pass)).Nodup
      ∧ ∀ e ∈ c.entries, (s.record e.pass).isSome = true ∧ (e.void = false → e.carried ≠ 0
        ∧ (s.record e.pass).any (fun r => withoutDays e.carried r.unreported == 0) = true)

/-- A counter's items (R147, R148, R152): a disabled counter is zeroed; crossed exactly when crossed at is present; a counter
crossed has reached its threshold, one of threshold 0 never crosses. -/
def Counter.Ok (c : Counter) : Prop :=
  c.value ≤ 4294967295 ∧ (c.crossed = c.crossedAt.isSome)
    ∧ (c.enabled = false → c.value = 0 ∧ c.crossed = false ∧ c.armed = false)
    ∧ (c.crossed = true → c.program.threshold ≠ 0 ∧ c.program.threshold ≤ c.value)
    ∧ (c.program.armSource = none → c.armed = false)

/-- The tally unit: its counters, at most 96 interval records, each cursor in the ring or caught up (R147, R160, R161). -/
def Tally.Ok (t : Tally) : Prop :=
  (∀ c ∈ t.counters.toList, c.Ok) ∧ t.ring.length ≤ 96 ∧ t.stationCursor ≤ t.ring.length
    ∧ t.officeCursor ≤ t.ring.length ∧ t.lived ≤ 4294967295

/-- No two notices of one kind and subject in a queue (R184). -/
def QueueDistinct (q : List QueuedNotice) : Prop := q.Pairwise fun a b => a.notice.sameSubject b.notice = false

/-- Both notice queues hold at most one notice of a kind and subject (R184). -/
def State.NoticesOk (s : State) : Prop := QueueDistinct s.port.queue ∧ QueueDistinct s.link.queue

/-- How many answers wait at the station port, the one presented included. -/
def Port.answersWaiting (p : Port) : Nat :=
  p.answers.length + match p.window with
    | some { item := .answer _, .. } => 1
    | _ => 0

/-- The station port (R190, R192): the answers that wait, the block being filled and the request in flight are at most two
together; an empty window has nothing to present; the fill is short of its target; a grant is pending only while an answer
waits. -/
def State.PortOk (s : State) : Prop :=
  s.port.answersWaiting + flagCode s.port.filling + flagCode s.decoder.station.inFlight.isSome ≤ 2
    ∧ (s.port.window = none → s.port.answers = [] ∧ s.port.queue = [])
    ∧ (s.port.filling = true → s.port.fill.length < s.port.target ∧ s.port.grantPending = false)
    ∧ (s.port.grantPending = true → s.port.answerWaits = true)
    ∧ 16 ≤ s.port.target ∧ s.port.target ≤ 1040

/-- The office answer list: at most one answer of a request taken, none while a request is answerable in flight; at most one
BUSY answer (R172, R205). -/
def State.OfficeAnswersOk (s : State) : Prop :=
  s.link.answers.countP (·.taken) + flagCode (s.decoder.office.inFlight.any (·.answerable)) ≤ 1
    ∧ s.link.answers.countP (·.answer.status == .busy) ≤ 1
    ∧ (∀ a ∈ s.link.answers, a.answer.status ≠ .busy → a.taken = true)

/-- The line control machine: each timer runs exactly in its state; nothing waits to be sent where it must have been filled or
discarded (R197 to R199, R205). -/
def Link.Ok (k : Link) : Prop :=
  (k.startTimer.isSome = true ↔ k.state = .starting) ∧ (k.fadeTimer.isSome = true ↔ k.state = .fading)
    ∧ (k.dropLong.isSome = true ↔ k.state = .dropping)
    ∧ (k.dropShort.isSome = true ↔ k.state = .dropping ∧ k.shortPassed = false)
    ∧ (k.shortPassed = true → k.state = .dropping) ∧ (k.closePending = true → k.state = .dropping)
    ∧ (k.state = .armed → k.readyIn = false)
    ∧ k.slots.length ≤ 2 ∧ (k.sending = true → k.slots ≠ [])
    ∧ (k.state ≠ .up → k.state ≠ .fading → k.slots = [] ∧ k.sending = false)
    ∧ (k.state = .up → k.slots.length < 2 → k.answers = [] ∧ k.queue = [])

/-- Everything above at once: what the spec says holds of the part in every run. -/
structure State.Sound (s : State) : Prop where
  clock : s.clock.Ok
  records : s.RecordsOk
  index : s.table.IndexOk
  list : s.table.ListOk
  lanes : s.LanesOk
  absent : s.AbsentOk
  clear : s.ClearOk
  flight : s.FlightOk
  queue : s.QueueOk
  holds : s.HoldsOk
  collection : s.CollectionOk
  tally : s.tally.Ok
  notices : s.NoticesOk
  port : s.PortOk
  officeAnswers : s.OfficeAnswersOk
  link : s.link.Ok

/-- The step of a safe run goes on: it never faults and is never refused. -/
def State.goesOn (s : State) : Prop := ∃ s', step s = .next s'

end Sys2Proof.Machine
end

