-- ==== Sys2Proof/Certificates/Slice0/Obligations.lean ====
section
/-! DEFINITION. The statements about the model that are to be proved. -/

namespace Sys2Proof.Claims

open Sys2Proof.Machine

/-- A table request of this origin waits, and its claim has the turn (R11, R12). -/
abbrev HasClaim (o : Origin) (r : Request) (s : State) : Prop := s.waitingRequest o = some r ∧ s.hasTurn o = true

/-- A request of this origin waits for its owner to take it. -/
abbrev Waits (o : Origin) (r : Request) (s : State) : Prop := s.waitingRequest o = some r

/-- A settled beam of a present lane stands at this level (R43, R44). -/
abbrev BeamAt (l : LaneNo) (b : Beam) (v : Level) (s : State) : Prop :=
  s.lanePresent l = true ∧ s.lanes.settleAt = none ∧ (s.laneAt l).beam b = v

/-- A timer runs and its deadline is reached (R30). -/
def Expired (s : State) (timer : Option Nat) : Prop := ∃ d, timer = some d ∧ d ≤ s.now

/-- What an event at lane l leaves: the other lanes, and all of the part but that lane, the events handed and the messages
raised. -/
def OnlyLane (l : LaneNo) (s t : State) : Prop :=
  (∀ m, m ≠ l → t.laneAt m = s.laneAt m) ∧ t.lanes.settleAt = s.lanes.settleAt ∧ t.lanes.drops = s.lanes.drops
    ∧ t.clock = s.clock ∧ t.table = s.table ∧ t.settlement = s.settlement ∧ t.port = s.port ∧ t.link = s.link
    ∧ t.pending = s.pending ∧ { t.tally with inbox := s.tally.inbox } = s.tally
    ∧ { t.decoder with laneMsgs := s.decoder.laneMsgs } = s.decoder

/-- What a claim of lane l leaves: the clock, the other lanes, the revocation list, the sweep, the clear, the ports' settings. -/
def LaneClaimFrame (l : LaneNo) (s t : State) : Prop :=
  (∀ m, m ≠ l → t.laneAt m = s.laneAt m) ∧ t.clock = s.clock ∧ t.pending = s.pending
    ∧ t.table.revoked = s.table.revoked ∧ t.table.generation = s.table.generation ∧ t.table.sweep = s.table.sweep
    ∧ t.table.clear = s.table.clear ∧ t.table.lastOrigin = s.table.lastOrigin
    ∧ t.table.officeClaims = s.table.officeClaims ∧ t.table.lastLane = l
    ∧ { t.tally with inbox := s.tally.inbox } = s.tally ∧ t.decoder.profile = s.decoder.profile

/-- Every record but that of pass p is as before. -/
def OtherRecords (p : Nat) (s t : State) : Prop := ∀ q, q ≠ p → t.record q = s.record q

/-- The table as a claim of origin o leaves it served, all else of it kept: the origin is the last served, and the office's
claim leaves its place (R12). -/
def served (o : Origin) (t : Table) : Table :=
  { t with lastOrigin := o, officeClaims := if o = .office then t.officeClaims.tail else t.officeClaims }

/-! ### Requests -/

/-- A request of origin o, taken in s, has ended in t with this answer (R172, R176, R177): none is in flight, a FAILED answer has
written the condition record, an answer that will be sent is at its port, and nothing else has changed. -/
def EndsWith (o : Origin) (answerable : Bool) (a : Answer) (s t : State) : Prop :=
  t.context o = { s.context o with
      inFlight := none, condition := if a.status = .failed then a.condition else (s.context o).condition }
    ∧ t.context (otherOrigin o) = s.context (otherOrigin o)
    ∧ { t.decoder with station := s.decoder.station, office := s.decoder.office } = s.decoder
    ∧ t.port = (if answerable = true ∧ o = .station then s.port.takeAnswer a else s.port)
    ∧ t.link = (if answerable = true ∧ o = .office then s.link.takeAnswer { answer := a, taken := true } else s.link)
    ∧ { t with decoder := s.decoder, port := s.port, link := s.link } = s

/-- A pair of a PROFILE SET and the code of the first test of R180 that it fails. -/
def pairFault (o : Origin) (s : State) (p : ProfilePair) : Option ConditionCode :=
  if p.code < 1 ∨ 11 < p.code then some .badArgument
  else if (o = .station ∧ 9 < p.code) ∨ (o = .office ∧ p.code < 10) then some .notPermitted
  else if (p.code = 8 ∨ p.code = 9) ∧ (∀ l : LaneNo, l.val = p.lane → s.lanePresent l = false) then some .badArgument
  else if p.code ≠ 8 ∧ p.code ≠ 9 ∧ p.lane ≠ 0 then some .badArgument
  else if (p.code = 1 ∧ p.value ≤ 60) ∨ (p.code = 2 ∧ 3 ≤ p.value ∧ p.value ≤ 30)
      ∨ (p.code = 3 ∧ 5 ≤ p.value ∧ p.value ≤ 60) ∨ (p.code = 4 ∧ 500 ≤ p.value ∧ p.value ≤ 5000)
      ∨ ((p.code = 6 ∨ p.code = 7) ∧ 1 ≤ p.value ∧ p.value ≤ 60) ∨ (p.code = 8 ∧ p.value ≤ 2)
      ∨ (p.code = 9 ∧ 1 ≤ p.value ∧ p.value ≤ 15) ∨ ((p.code = 5 ∨ p.code = 10 ∨ p.code = 11) ∧ p.value ≤ 1) then none
  else some .badArgument

/-- A block's argument bytes up to offset n, from offset 4 on, hold only bits that the request's row names (R173). -/
def ArgsGood (row : CodeRow) (block : List Byte) (n : Nat) : Prop :=
  ∀ i, i < n → byteAt block (4 + i) &&& ~~~(row.args.getD i 0) = 0

/-- A block's data length is within its port's limit and is the list's for its count, where the count is in its own range (R173). -/
def LengthGood (row : CodeRow) (o : Origin) (block : List Byte) : Prop :=
  fieldAt block 2 2 ≤ (if o = .station then 1024 else 8192)
    ∧ (countArg (byteAt block 0).toNat = none → row.data = .fixed (fieldAt block 2 2) ∨ ∃ k, row.data = .each k ∧ fieldAt block 2 2 = 0)
    ∧ ∀ c n, countArg (byteAt block 0).toNat = some c → n = fieldAt block c.offset c.width → c.lo ≤ n → n ≤ c.hi →
      row.data = .fixed (fieldAt block 2 2) ∨ ∃ k, row.data = .each k ∧ fieldAt block 2 2 = k * n

/-- Whether an origin is permitted what the list's origin column says, by the profile's rights (R173). -/
def MayAsk (p : Profile) (o : Origin) (q : Permission) : Prop :=
  q = .both ∨ (o = .office ∧ q ≠ .station) ∨ (o = .station ∧ (q = .station ∨ (q = .insertRight ∧ p.insertRight = true)
    ∨ (q = .settleRight ∧ p.settleRight = true)))

/-! ### The revocation list -/

/-- Entry i of a carried list is bad: no pass number, or not greater than the entry before it (R98). -/
def BadAt (es : List Nat) (i : Nat) : Prop :=
  ∃ e, es[i]? = some e ∧ (e = 0 ∨ 4294967294 < e ∨ ∃ j d, i = j + 1 ∧ es[j]? = some d ∧ e ≤ d)

/-- A record's pass lies above the sweep's position (R102). -/
def AboveSweep (t : Table) (r : PassRecord) : Prop := ∀ q, t.sweep.position = some q → q < r.pass

/-! ### Lanes -/

/-- The LANE notice of an event at lane l, by the lane before and after it (R51; log entry 19 for an event that passes through
READY). -/
def laneNotice (l : LaneNo) (before after : Lane) : List LaneMsg :=
  if after.condition ≠ before.condition ∨ (after.state ≠ before.state
      ∧ (after.state ∈ [.closed, .closing, .paused, .fault] ∨ before.state ∈ [.closed, .paused])) then
    [.notice (.lane l after.state after.condition)]
  else []

/-- The part after an event at lane l that leaves the lane, the events and the messages of r: the events are one batch, and the
LANE notice follows the messages (R51, R149). -/
def laneAfter (l : LaneNo) (r : LaneRun) (s : State) : State :=
  ((s.setLane l r.lane).handEvents r.events).raiseLane (r.msgs ++ laneNotice l (s.laneAt l) r.lane)

/-- The verdicts that empty the slots, current slot first (R59, R64). -/
def closedVerdicts (ln : Lane) : List Verdict :=
  (ln.current.toList ++ ln.next.toList).map fun p => { pass := p.pass, kind := .closed }

/-- A lane in FAULT for this cause, its slots emptied (R59). -/
def faulted (env : LaneEnv) (cause : FaultMark) (ln : Lane) : Lane :=
  { ln with
    state := .fault, condition := cause.condition, lampLit := true, blinkAt := some (env.now + 500), toneAt := none,
    current := none, next := none, readerOut := ln.readerOut ++ closedVerdicts ln, window := none, limit := none,
    gate := false, faultMark := none }

/-- An event that brings a lane into FAULT for this cause, after these events (R59): from WAITING its miss ends too, the decoder
asked to remove the notice (R83). -/
def faultEntered (env : LaneEnv) (cause : FaultMark) (events : List Event) (ln : Lane) : LaneRun :=
  if ln.state = .waiting then
    { lane := faulted env cause { ln with missWait := none, miss := none }, events := events, msgs := [.removeMiss env.lane] }
  else { lane := faulted env cause ln, events := events, msgs := [] }

/-- A miss that ends in REFUSE NOT FOUND after these events, and the lane going on (R83, R85, R86); LaneRun.resume is stated in
PresentationsAreTakenByState. -/
def missRefused (env : LaneEnv) (m : Miss) (first : List Event) (ln : Lane) : LaneRun :=
  LaneRun.resume env
    { lane := { ln with
        missWait := none, miss := none, toneAt := some (env.now + 300), current := ln.next, next := none,
        readerOut := ln.readerOut ++ [{ pass := m.pass, kind := .refuse .notFound }] },
      events := first ++ [{ kind := .refused, lane := some env.lane, cls := none, reason := some .notFound }],
      msgs := [.removeMiss env.lane] }

/-- A lane as its ending claim is taken (R57): FAULT by its mark, else CLOSED from CLOSING, else PAUSED or READY and on. -/
def admissionEnded (env : LaneEnv) (ln : Lane) : LaneRun :=
  let ended := { ln with admission := none, ending := .none, exitSeen := false }
  match ln.faultMark with
  | some cause => { lane := faulted env cause ended, events := [], msgs := [] }
  | none =>
    if ln.state = .closing then
      { lane := { ended with state := .closed, lampLit := true, blinkAt := none, toneAt := none }, events := [], msgs := [] }
    else LaneRun.resume env { lane := ended, events := [], msgs := [] }

/-! ### Holds -/

/-- A pass's hold is not PENDING, or it has none. -/
def NotPending (p : Nat) (s : State) : Prop := ∀ e, s.settlement.hold p = some e → e.phase ≠ .pending

/-- The hold list with an entry that has reached HELD, after the HELD entries of no later deadline, and none other of its pass
(R109). -/
def PlacedHeld (e : HoldEntry) (old new : List HoldEntry) : Prop :=
  ∃ before after, new = before ++ e :: after ∧ old.filter (fun x => x.pass != e.pass) = before ++ after
    ∧ (∀ x ∈ before, x.phase = .held ∧ x.deadline.getD 0 ≤ e.deadline.getD 0)
    ∧ ∀ x ∈ after.head?, x.phase = .pending ∨ e.deadline.getD 0 < x.deadline.getD 0

/-- The lapse claim that waits once the timer is set anew: that of the first HELD entry, where its deadline is reached (R121). -/
def LapseSet (s : State) (claim : Option Nat) : Prop :=
  match s.settlement.holds.find? fun x => x.phase == .held with
  | some x => (Expired s x.deadline → claim = some x.pass) ∧ (¬ Expired s x.deadline → claim = none)
  | none => claim = none

/-! ### The tally interval -/

/-- A counter crosses at an event: it counts it, and its value reaches a threshold other than 0 (R152). -/
abbrev CrossesAt (present : List LaneNo) (e : Event) (c : Counter) : Prop :=
  c.counts present e = true ∧ c.value < 4294967295 ∧ c.program.threshold ≠ 0 ∧ c.value + 1 = c.program.threshold

/-- The next boundary from a reference second: the smallest multiple of the length above it, ROLLOVER only where that is 86400
or more (R156). -/
def BoundaryFrom (minutes ref : Nat) (v : Tally) : Prop :=
  v.length = minutes * 60 ∧ (1 ≤ minutes →
    (∀ n, v.boundary = .second n → ref < n ∧ n < 86400 ∧ (minutes * 60) ∣ n ∧ ∀ m, ref < m → (minutes * 60) ∣ m → n ≤ m)
    ∧ (v.boundary = .rollover → ∀ m, ref < m → (minutes * 60) ∣ m → 86400 ≤ m))

/-- The record of an interval close with this stamp and these seconds lived (R158, R160). -/
def madeRecord (at_ : Stamp) (lived : Nat) (u : Tally) : IntervalRecord :=
  { close := at_, lived := lived,
    values := (List.finRange 12).filterMap fun k =>
      if (u.counters[k]).enabled ∧ (u.counters[k]).program.history then some (k, (u.counters[k]).value) else none }

/-- An interval close, the next boundary aside (R158, R160, R162): its record joins the ring, which drops its oldest where it
holds 96, a cursor naming that one moving to the next; each enabled interval counter is zeroed; seconds lived is 0. -/
def IntervalClosed (at_ : Stamp) (lived : Nat) (u v : Tally) : Prop :=
  (u.ring.length < 96 → v.ring = u.ring ++ [madeRecord at_ lived u] ∧ v.stationCursor = u.stationCursor
      ∧ v.officeCursor = u.officeCursor)
    ∧ (96 ≤ u.ring.length → v.ring = u.ring.tail ++ [madeRecord at_ lived u]
      ∧ v.stationCursor = u.stationCursor - 1 ∧ v.officeCursor = u.officeCursor - 1)
    ∧ (∀ k : CounterNo, v.counters[k] =
        if (u.counters[k]).enabled ∧ (u.counters[k]).program.interval then
          { value := 0, crossed := false, crossedAt := none, armed := false, program := (u.counters[k]).program }
        else u.counters[k])
    ∧ v.lived = 0 ∧ v.phaseOpen = u.phaseOpen ∧ v.inbox = u.inbox

/-- Each present lane is told of a change of its pacing, and nothing else of any lane changes (R154, R158). -/
def PacingTold (s t : State) : Prop :=
  (∀ l, { t.laneAt l with pacing := (s.laneAt l).pacing } = s.laneAt l)
    ∧ (∀ l, s.lanePresent l = true → (t.laneAt l).pacing = (s.laneAt l).pacing ++
        (if t.tally.paces l = s.tally.paces l then [] else if t.tally.paces l then [.start] else [.stop]))
    ∧ (∀ l, s.lanePresent l = false → t.laneAt l = s.laneAt l)
    ∧ t.lanes.settleAt = s.lanes.settleAt ∧ t.lanes.drops = s.lanes.drops

/-- Today after a rollover (R32). -/
def dayAfter (c : Clock) : Nat := if c.state = .ended ∧ 239 ≤ c.day then c.day else c.day + 1

/-- One second more, up to 4,294,967,295 (R156, R157). -/
def livedOn (n : Nat) : Nat := if n < 4294967295 then n + 1 else 4294967295

/-- What the tally unit and the lanes make of an accepted CLOCK SET (R35, R159): a clock that starts opens the interval; a set
within today moves the boundary alone, from the later of the two seconds; a set to a later day closes the interval at one
rollover, and the boundary follows from the second given. -/
def TallyTold (a : ClockSetArgs) (s u : State) : Prop :=
  (s.clock.state = .unset → u.lanes = s.lanes ∧ BoundaryFrom s.decoder.profile.tallyInterval a.second u.tally
      ∧ { u.tally with length := s.tally.length, boundary := s.tally.boundary } =
          { s.tally with phaseOpen := true, lived := 0 })
    ∧ (s.clock.state ≠ .unset → a.day = s.clock.day → u.lanes = s.lanes
      ∧ BoundaryFrom s.decoder.profile.tallyInterval (max a.second s.clock.second) u.tally
      ∧ { u.tally with length := s.tally.length, boundary := s.tally.boundary } = s.tally)
    ∧ (s.clock.state ≠ .unset → a.day ≠ s.clock.day →
      BoundaryFrom s.decoder.profile.tallyInterval a.second u.tally
      ∧ (s.tally.phaseOpen = true → PacingTold s u
        ∧ IntervalClosed { day := dayAfter s.clock, second := 0 } (livedOn s.tally.lived) s.tally u.tally))

end Sys2Proof.Claims

section

open Sys2Proof Sys2Proof.Machine Sys2Proof.Claims

/-! ## Steps, the queue and the resets -/

/-- A step of a state with command c at the front of its queue is exec of c on the state with the queue's rest.
Model choices it rests on: log entry 2. -/
def Obligations.StepRunsFrontCommand : Prop :=
  ∀ (c : Instr) (rest : List Instr) (s : State), s.pending = c :: rest → step s = exec c { s with pending := rest }

/-- A step on an empty queue is one millisecond (R30, R31; the model's choice of log entry 2): the timebase advances by one
in every clock state; UNSET changes nothing else; else the second phase advances, and where it passes 999 it returns to 0 and
the operating second advances, or returns to 0 where it would pass 86399.
Model choices it rests on: log entry 2. -/
def Obligations.IdleStepPassesOneMillisecond : Prop :=
  ∀ s : State, s.pending = [] → s.clock.timebase + 1 < 2 ^ 40 → s.clock.phase ≤ 999 →
    ∃ t : State, step s = .next t ∧ t.clock.timebase = s.clock.timebase + 1
      ∧ (s.clock.state = .unset → t = { s with clock := { s.clock with timebase := s.clock.timebase + 1 } })
      ∧ (s.clock.state ≠ .unset → s.clock.phase < 999 →
          t = { s with clock := { s.clock with timebase := s.clock.timebase + 1, phase := s.clock.phase + 1 } })
      ∧ (s.clock.state ≠ .unset → s.clock.phase = 999 → t.clock.phase = 0
          ∧ t.clock.second = (if s.clock.second < 86399 then s.clock.second + 1 else 0))

/-- No command touches the queue: what waited behind it still waits, in its order. -/
def Obligations.ExecLeavesTheQueue : Prop :=
  ∀ (c : Instr) (s t : State), exec c s = .next t → t.pending = s.pending

/-- No command stops the part: every step answers a next state (R176: a request that cannot be carried out is answered).
Model choices it rests on: log entry 1. -/
def Obligations.EveryStepGoesOn : Prop := ∀ s : State, s.goesOn

/-- What a cold reset leaves of the table and the hold list, in any state and with any straps (R26, R127). -/
def Obligations.ColdResetEmptiesTableAndHolds : Prop :=
  ∀ (eight spi : Bool) (s : State), ∃ t : State, exec (.coldReset eight spi) s = .next t
    ∧ t.table.records = [] ∧ t.table.recency = [] ∧ t.table.revoked = [] ∧ t.table.sweep.running = false
    ∧ t.table.clear = none ∧ (∀ l, t.laneWaits l = false) ∧ (∀ o, t.originWaits o = false)
    ∧ t.table.lastLane = 7 ∧ t.table.lastOrigin = .office
    ∧ t.settlement.holds = [] ∧ t.settlement.firstHeld = none ∧ t.settlement.lapseClaim = none
    ∧ (∀ o, (t.countedPasses o).length = 0) ∧ (∀ r ∈ t.table.records, r.state ≠ .held)

/-- The other values of a cold reset, the red lamps of the present lanes, the beams unsettled until 50 ms, the next boundary 0 and
both cursors caught up among them (R41, R43, R44, R48, R67, R107, R146, R169, R179, R181, R186, R187, R196, R206), and State.reset is the
part after one, with the straps and pin levels of log entry 20.
Model choices it rests on: log entry 20. -/
def Obligations.ColdResetValues : Prop :=
  (∀ (eight spi : Bool) (s : State), ∃ t : State, exec (.coldReset eight spi) s = .next t
    ∧ t.clock.state = .unset ∧ t.clock.day = 0 ∧ t.clock.second = 0 ∧ t.clock.phase = 0 ∧ t.clock.lastDay = 238
    ∧ t.clock.timebase = 0
    ∧ (∀ l, t.lanePresent l = true → (t.laneAt l).state = .closed ∧ (t.laneAt l).condition = .none
        ∧ (t.laneAt l).faultMark = none ∧ (t.laneAt l).ending = .none ∧ (t.laneAt l).exitSeen = false
        ∧ (t.laneAt l).current = none ∧ (t.laneAt l).next = none ∧ (t.laneAt l).admission = none
        ∧ (t.laneAt l).miss = none ∧ (t.laneAt l).pause = false ∧ (t.laneAt l).readerPresent = false
        ∧ (t.laneAt l).silence = some 3000 ∧ (t.laneAt l).gate = false ∧ (t.laneAt l).toneAt = none
        ∧ (t.laneAt l).window = none ∧ (t.laneAt l).limit = none ∧ (t.laneAt l).missWait = none)
    ∧ (∀ l : LaneNo, t.lanePresent l = (decide (l.val < 4) || eight)) ∧ t.lanes.settleAt = some 50
    ∧ (∀ l, t.lampsAt l = { red := t.lanePresent l, amber := false, green := false })
    ∧ t.table.generation = 0 ∧ t.table.sweep = { running := false, position := none, revokedCount := 0, restoredCount := 0 }
    ∧ t.settlement.queue = [] ∧ t.settlement.collection = none ∧ t.settlement.lastTag = 0
    ∧ (∀ c ∈ t.tally.counters.toList, c = Counter.zeroed .disabled) ∧ t.tally.phaseOpen = false ∧ t.tally.length = 900
    ∧ t.tally.boundary = .second 0 ∧ t.tally.lived = 0 ∧ t.tally.ring = [] ∧ t.tally.stationCursor = 0
    ∧ t.tally.officeCursor = 0 ∧ (∀ l, t.tally.paces l = false)
    ∧ t.decoder.profile.passback = 5 ∧ t.decoder.profile.window = 8 ∧ t.decoder.profile.limit = 20
    ∧ t.decoder.profile.missWait = 1500 ∧ t.decoder.profile.missFetch = true ∧ t.decoder.profile.holdLapse = 15
    ∧ t.decoder.profile.tallyInterval = 15 ∧ (∀ l : LaneNo, t.decoder.profile.readPolicy[l] = .lenient)
    ∧ (∀ l : LaneNo, t.decoder.profile.laneClasses[l] = 0xF) ∧ t.decoder.profile.insertRight = true
    ∧ t.decoder.profile.settleRight = false ∧ t.decoder.warmMarker = false ∧ t.decoder.tableRetained = false
    ∧ (∀ o, (t.context o).inFlight = none ∧ (t.context o).condition = none
        ∧ (t.context o).watch = { lanes := 0, counters := 0, link := false })
    ∧ t.port.eightLanes = eight ∧ t.port.spi = spi ∧ t.port.filling = false ∧ t.port.grantPending = false
    ∧ t.port.fill = [] ∧ t.port.target = 16 ∧ t.port.answers = [] ∧ t.port.window = none
    ∧ t.port.protocolError = false ∧ t.port.queue = [] ∧ t.port.interruptHigh = true
    ∧ t.link.state = .down ∧ t.link.outputsHigh = false ∧ t.link.closePending = false ∧ t.link.lastReason = .none
    ∧ t.link.shortPassed = false ∧ t.link.address = 0 ∧ t.link.rate = 0 ∧ t.link.lineClock = false
    ∧ t.link.dataOnly = false ∧ t.link.runningTimer = none ∧ t.link.dropShort = none ∧ t.link.answers = []
    ∧ t.link.slots = [] ∧ t.link.queue = [])
  ∧ exec (.coldReset true false) State.reset = .next State.reset

/-- What a warm reset keeps and what it ends (R27, R42, R43, R44, R68, R108, R128, R146, R170, R181, R186, R187, R196, R206). A TABLE CLEAR that was
running runs on with no request behind it. No message, pacing report or drop on its way between two blocks is kept, but the events
at the tally unit and the broadcast CLOCK SETs at the clock are.
Model choices it rests on: log entries 12 and 26. -/
def Obligations.WarmResetKeepsAndEnds : Prop :=
  ∀ (eight spi : Bool) (s : State), ∃ t : State, exec (.warmReset eight spi) s = .next t
    ∧ t.clock = s.clock ∧ t.tally = s.tally
    ∧ t.table.records = s.table.records.map (fun r =>
        { r with
          inFlight := none, state := if r.state = .held then .active else r.state,
          holdLapsed := r.holdLapsed || r.state == .held || s.settlement.pending r.pass })
    ∧ t.table.recency = s.table.recency ∧ t.table.revoked = s.table.revoked ∧ t.table.generation = s.table.generation
    ∧ (s.table.sweep.running = false → t.table.sweep = s.table.sweep)
    ∧ (s.table.sweep.running = true →
        t.table.sweep = { running := true, position := none, revokedCount := 0, restoredCount := 0 })
    ∧ t.table.clear = s.table.clear.map (fun c => { c with orphan := true }) ∧ t.table.lastLane = 7 ∧ t.table.lastOrigin = .office ∧ t.table.officeClaims = []
    ∧ t.settlement.holds = [] ∧ t.settlement.lapseClaim = none ∧ t.settlement.collection = none
    ∧ t.settlement.queue = s.settlement.queue ∧ t.settlement.lastTag = s.settlement.lastTag
    ∧ t.port.eightLanes = eight ∧ t.port.spi = spi
    ∧ (∀ l, t.lanePresent l = true → (t.laneAt l).state = .closed ∧ (t.laneAt l).condition = .none
        ∧ (t.laneAt l).gate = false ∧ (t.laneAt l).toneAt = none ∧ (t.laneAt l).current = none
        ∧ (t.laneAt l).next = none ∧ (t.laneAt l).admission = none ∧ (t.laneAt l).miss = none
        ∧ (t.laneAt l).faultMark = none ∧ (t.laneAt l).ending = .none ∧ (t.laneAt l).exitSeen = false
        ∧ (t.laneAt l).window = none ∧ (t.laneAt l).limit = none ∧ (t.laneAt l).missWait = none
        ∧ (t.laneAt l).readerPresent = false ∧ (t.laneAt l).silence = some (s.now + 3000)
        ∧ (t.laneAt l).pause = s.tally.paces l ∧ (t.laneAt l).readerOut = (s.laneAt l).readerOut
        ∧ (t.laneAt l).pacing = [])
    ∧ (∀ l, t.lampsAt l = { red := t.lanePresent l, amber := false, green := false })
    ∧ t.lanes.settleAt = some (s.now + 50)
    ∧ t.decoder.profile = s.decoder.profile ∧ t.decoder.warmMarker = s.decoder.warmMarker
    ∧ t.decoder.tableRetained = true
    ∧ (∀ o, (t.context o).inFlight = none ∧ (t.context o).condition = none ∧ (t.context o).watch = (s.context o).watch)
    ∧ t.port.answers = [] ∧ t.port.window = none ∧ t.port.queue = [] ∧ t.port.filling = false
    ∧ t.port.protocolError = false ∧ t.port.grantPending = false ∧ t.port.fill = [] ∧ t.port.target = 16
    ∧ t.port.interruptHigh = true ∧ t.port.readData = 0
    ∧ t.lanes.drops = 0 ∧ t.settlement.drops = 0 ∧ t.decoder.laneMsgs = [] ∧ t.decoder.tallyMsgs = []
    ∧ t.decoder.settlementMsgs = [] ∧ t.decoder.linkMsgs = [] ∧ t.decoder.tableMsgs = []
    ∧ t.tally.inbox = s.tally.inbox ∧ t.clock.broadcasts = s.clock.broadcasts
    ∧ t.link.startTimer = none ∧ t.link.fadeTimer = none ∧ t.link.dropShort = none ∧ t.link.dropLong = none
    ∧ t.link.shortPassed = false ∧ t.link.sending = false ∧ t.link.lineOut = s.link.lineOut
    ∧ t.link.lineReady = s.link.lineReady ∧ t.link.carrier = s.link.carrier ∧ t.link.clearToSend = s.link.clearToSend
    ∧ t.link.state = .down ∧ t.link.answers = [] ∧ t.link.slots = [] ∧ t.link.queue = []
    ∧ t.link.closePending = false ∧ t.link.lastReason = s.link.lastReason ∧ t.link.address = s.link.address
    ∧ t.link.rate = s.link.rate ∧ t.link.lineClock = s.link.lineClock ∧ t.link.dataOnly = s.link.dataOnly

/-! ## The clock -/

/-- OPERATING SECOND ADVANCE (R31, R157): the second advances, the phase is 0, seconds lived advances while the interval is
OPEN. Nothing else changes where no interval close was due, also where the new second is the next boundary, whose close is then
due; a close still due is made before the advance.
Model choices it rests on: log entries 3 and 11. -/
def Obligations.OperatingSecondAdvances : Prop :=
  ∀ s : State, s.clock.state ≠ .unset → s.clock.second < 86399 →
    (s.clock.phase ≤ 999 → s.clock.timebase + 1000 < 2 ^ 40 → s.closeDue = false →
    exec .operatingSecondAdvance s = .next { s with
      clock := { s.clock with
        second := s.clock.second + 1, phase := 0, timebase := s.clock.timebase + (1000 - s.clock.phase) },
      tally := { s.tally with
        lived := if s.tally.phaseOpen then livedOn s.tally.lived else s.tally.lived } })
    ∧ (s.closeDue = true → 1 ≤ s.decoder.profile.tallyInterval → ∃ t : State, exec .intervalClose s = .next t
      ∧ t.closeDue = false ∧ exec .operatingSecondAdvance s = exec .operatingSecondAdvance t)
    ∧ (s.closeDue = true ↔ s.tally.phaseOpen = true ∧ s.tally.boundary = .second s.clock.second)

/-- ROLLOVER (R32): second and phase 0; RUNNING before the season last day advances today, on it also ends the season; ENDED
advances today up to 239. The table, the settlement unit, the ports and the lanes but for the pacing reports stay. An OPEN
interval closes with one more second lived, stamped (today, 0) as the rollover leaves the clock, and its next boundary is the
smallest multiple of the length above 0 (R156, R157, R158, R160, R162).
Model choices it rests on: log entries 3, 8 and 11. -/
def Obligations.RolloverEndsTheDay : Prop :=
  ∀ s : State, s.clock.state ≠ .unset → 86399 ≤ s.clock.second →
    ∃ t : State, exec .rollover s = .next t ∧ t.clock.second = 0 ∧ t.clock.phase = 0 ∧ t.clock.lastDay = s.clock.lastDay
      ∧ (s.clock.state = .running → s.clock.day < s.clock.lastDay → t.clock.day = s.clock.day + 1 ∧ t.clock.state = .running)
      ∧ (s.clock.state = .running → s.clock.day = s.clock.lastDay → t.clock.day = s.clock.day + 1 ∧ t.clock.state = .ended)
      ∧ (s.clock.state = .ended → s.clock.day < 239 → t.clock.day = s.clock.day + 1 ∧ t.clock.state = .ended)
      ∧ (s.clock.state = .ended → s.clock.day = 239 → t.clock.day = 239 ∧ t.clock.state = .ended)
      ∧ t.table = s.table ∧ t.settlement = s.settlement ∧ t.port = s.port ∧ t.link = s.link ∧ t.decoder = s.decoder
      ∧ (∀ l, { t.laneAt l with pacing := (s.laneAt l).pacing } = s.laneAt l)
      ∧ (s.tally.phaseOpen = false → s.closeDue = false → t.tally = s.tally ∧ t.lanes = s.lanes)
      ∧ (s.tally.phaseOpen = true → s.closeDue = false → PacingTold s t
          ∧ IntervalClosed { day := t.clock.day, second := 0 } (livedOn s.tally.lived) s.tally t.tally
          ∧ BoundaryFrom s.decoder.profile.tallyInterval 0 t.tally)
      ∧ (s.closeDue = true → 1 ≤ s.decoder.profile.tallyInterval →
          ∃ u : State, exec .intervalClose s = .next u ∧ u.closeDue = false ∧ exec .rollover u = .next t)

/-- INTERVAL CLOSE at a boundary that is reached (R156, R158, R160, R162): the record with the stamp, the seconds lived and the
values as they stood joins the ring, which drops its oldest where it holds 96; each enabled interval counter is zeroed, the others
kept; each end of pacing is reported; seconds lived is 0; the next boundary is the smallest multiple of the interval length above
the second closed at, ROLLOVER only from 86400 on. With no close due nothing changes.
Model choices it rests on: log entries 8 and 11. -/
def Obligations.IntervalCloseMakesItsRecord : Prop :=
  ∀ s : State,
    (s.closeDue = false → exec .intervalClose s = .next s)
    ∧ (s.closeDue = true →
      ∃ t : State, exec .intervalClose s = .next t ∧ IntervalClosed s.stamp s.tally.lived s.tally t.tally
        ∧ BoundaryFrom s.decoder.profile.tallyInterval s.clock.second t.tally ∧ PacingTold s t
        ∧ (∀ l, t.tally.paces l = true → s.tally.paces l = true)
        ∧ t.clock = s.clock ∧ t.table = s.table ∧ t.settlement = s.settlement ∧ t.decoder = s.decoder ∧ t.port = s.port
        ∧ t.link = s.link)

/-- CLOCK SET (R34, R35, R159), from an origin or by broadcast. One that passes its tests gives the clock its values and sets it
RUNNING; the timebase and the table are not touched; the tally unit starts its interval, moves its boundary, or closes the
interval at one rollover; the origin's request ends COMPLETE with the clock's image. The station's while the line is UP fails NOT
PERMITTED; the first test that fails gives BAD ARGUMENT with its field; a failing broadcast changes nothing but its own place.
Model choices it rests on: log entries 5, 8 and 11. -/
def Obligations.ClockSetTakesTheGivenValues : Prop :=
  (∀ (o : Origin) (a : ClockSetArgs) (s : State), Waits o (.clockSet a) s →
    (o = .station → s.link.state = .up →
      exec (.clockSet (.own o)) s = .next (s.fail o .notPermitted none none))
    ∧ ((o = .station → s.link.state ≠ .up) →
      (∀ off, checkClockSet s.clock a = some off →
        exec (.clockSet (.own o)) s = .next (s.fail o .badArgument none (blockField off)))
      ∧ (checkClockSet s.clock a = none →
        ∃ u : State, exec (.clockSet (.own o)) s = .next (u.complete o u.clock.image)
          ∧ u.clock = { s.clock with state := .running, day := a.day, second := a.second, phase := 0, lastDay := a.lastDay }
          ∧ u.decoder = s.decoder ∧ u.table = s.table ∧ u.settlement = s.settlement ∧ u.port = s.port ∧ u.link = s.link
          ∧ TallyTold a s u)))
  ∧ (∀ (a : ClockSetArgs) (rest : List ClockSetArgs) (s : State), s.clock.broadcasts = a :: rest →
    (∀ off, checkClockSet s.clock a = some off →
      exec (.clockSet .broadcast) s = .next { s with clock := { s.clock with broadcasts := rest } })
    ∧ (checkClockSet s.clock a = none →
      ∃ u : State, exec (.clockSet .broadcast) s = .next u ∧ u.decoder = s.decoder ∧ u.port = s.port ∧ u.link = s.link
        ∧ u.table = s.table ∧ u.settlement = s.settlement ∧ TallyTold a s u ∧ u.clock = { s.clock with
            state := .running, day := a.day, second := a.second, phase := 0, lastDay := a.lastDay, broadcasts := rest }))
  ∧ (∀ (c : Clock) (a : ClockSetArgs), checkClockSet c a =
      if 239 < a.day then some 4
      else if 86399 < a.second then some 8
      else if 238 < a.lastDay then some 5
      else if c.state ≠ .unset ∧ a.day < c.day then some 4
      else if a.lastDay < a.day then some 5
      else none)

/-! ## Requests that only read -/

/-- Each request that only reads answers COMPLETE with what it reads, and its request ends; the table requests among them are
served at their turn. TALLY READ of no counter, and REVOKE READ with a start above 2048 or a count above 256, fail BAD ARGUMENT (R19, R22, R37, R66, R106, R125, R166, R181, R185, R202).
Model choices it rests on: log entries 5, 10, 14, 15, 17 and 33. -/
def Obligations.ReadRequestsAnswer : Prop :=
  ∀ (o : Origin) (s : State),
    (Waits o .clockRead s → exec (.clockRead o) s = .next (s.complete o s.clock.image))
    ∧ (∀ mask, Waits o (.laneStatus mask) s → s.badLaneMask mask = false → exec (.laneStatus o) s = .next (s.complete o
        (imgList ((lanesOf mask).map fun l => laneImage s.lanes.settleAt.isNone (s.laneAt l)))))
    ∧ (∀ mask, Waits o (.tallyRead mask) s → mask ≠ 0 → exec (.tallyRead o) s = .next (s.complete o
        (imgList ((countersOf mask).map fun k => (s.tally.counters[k]).image) ++ imgFlag s.tally.phaseOpen
          ++ img2 s.tally.length ++ imgBoundary s.tally.boundary ++ img4 s.tally.lived ++ img1 s.pacedMask)))
    ∧ (Waits o .holdListRead s → exec (.holdListRead o) s = .next (s.complete o (img2 s.settlement.holds.length
        ++ imgTimebase (some s.now) ++ (s.settlement.holds.map HoldEntry.image).flatten)))
    ∧ (Waits o .linkStatus s → exec (.linkStatus o) s = .next (s.complete o s.link.image))
    ∧ (Waits o .readyCheck s → exec (.readyCheck o) s = .next (s.complete o s.readyImage))
    ∧ (Waits o .profileRead s → exec (.profileRead o) s = .next (s.complete o s.profileImage))
    ∧ (∀ p r, HasClaim o (.passRead p) s → badPass p = false → s.record p = some r →
        exec (.passRead o) s = .next ((s.serve o).complete o (r.image s.clock.day)))
    ∧ (HasClaim o .tableSize s → exec (.tableSize o) s = .next ((s.serve o).complete o
        (img2 8192 ++ img2 s.table.records.length ++ img2 (s.table.records.countP s.evictable)
          ++ img2 s.settlement.queue.length ++ img2 s.settlement.holds.length ++ img2 s.table.revoked.length
          ++ imgFlag s.table.sweep.running ++ img2 s.table.sweep.revokedCount ++ img2 s.table.sweep.restoredCount)))
    ∧ (Waits o (.tallyRead 0) s → exec (.tallyRead o) s = .next (s.fail o .badArgument none none))
    ∧ (∀ start count, HasClaim o (.revokeRead start count) s →
      (2048 < start → exec (.revokeRead o) s = .next ((s.serve o).fail o .badArgument none (blockField 4)))
      ∧ (start ≤ 2048 → 256 < count →
        exec (.revokeRead o) s = .next ((s.serve o).fail o .badArgument none (blockField 6))))
    ∧ (∀ start count, HasClaim o (.revokeRead start count) s → start ≤ 2048 → count ≤ 256 →
        exec (.revokeRead o) s = .next ((s.serve o).complete o (img2 s.table.revoked.length ++ img2 s.table.generation
          ++ imgList (((s.table.revoked.drop start).take (if count = 0 then 256 else count)).map img4))))

/-- The end of a request (R172, R176, R177): whatever its status, it is no longer in flight; a FAILED answer writes the condition
record with its code, the request's code and the fields named, and the others keep it; an answer that will be sent reaches its
origin's port alone, one that will not reaches none; the other origin's context, the profile, the clock, the table, the
settlement unit, the lanes and the tally unit stay.
At the station port an answer joins the tail of the answer list, the oldest being presented while the window is empty (R193). On the
office link it joins the tail of the office answer list, but for a BUSY answer while one waits, which takes its place (R205).
Model choices it rests on: log entries 5, 18 and 37. -/
def Obligations.EndOfARequest : Prop :=
  (∀ (o : Origin) (f : InFlight) (s : State), (s.context o).inFlight = some f →
    (∀ d, EndsWith o f.answerable { requestCode := f.request.code, status := .complete, condition := none, data := d } s (s.complete o d))
    ∧ (∀ d, EndsWith o f.answerable { requestCode := f.request.code, status := .found, condition := none, data := d } s (s.found o d))
    ∧ EndsWith o f.answerable { requestCode := f.request.code, status := .busy, condition := none, data := [] } s (s.busy o)
    ∧ ∀ c p fd, EndsWith o f.answerable
        { requestCode := f.request.code, status := .failed,
          condition := some { code := c, requestCode := f.request.code, pass := p, field := fd }, data := [] }
        s (s.fail o c p fd))
  ∧ (∀ (a : Answer) (p : Port),
    (∀ x, p.window = some x → p.takeAnswer a = { p with answers := p.answers ++ [a] })
    ∧ (p.window = none → p.answers = [] →
        p.takeAnswer a = { p with window := some { item := .answer a, position := 0 } })
    ∧ ∀ x rest, p.window = none → p.answers = x :: rest →
        p.takeAnswer a = { p with answers := rest ++ [a], window := some { item := .answer x, position := 0 } })
  ∧ (∀ (a : OfficeAnswer) (k : Link),
    (a.answer.status ≠ .busy ∨ (∀ x ∈ k.answers, x.answer.status ≠ .busy) →
      k.takeAnswer a = Link.pump { k with answers := k.answers ++ [a] })
    ∧ ∀ before x after, a.answer.status = .busy → k.answers = before ++ x :: after →
        (∀ y ∈ before, y.answer.status ≠ .busy) → x.answer.status = .busy →
        k.takeAnswer a = Link.pump { k with
          answers := before ++ { answer := a.answer, taken := x.taken || a.taken } :: after })

/-! ## Lanes: readers, beams, timers -/

/-- Reader messages (R45, R46): PRESENCE restarts the lane's silence timer and sets reader-present, and nothing else; a burst
that fails its check or is of no defined kind changes nothing; an absent lane takes neither.
READER SILENCE (R46): with the timer expired, reader-present becomes no; CLOSED does no more; FAULT takes the condition;
a lane with an admission keeps it and is marked; READY, PAUSED, DECIDING and WAITING enter FAULT with the gate held, both slots
emptied and answered CLOSED, and the condition READER SILENT (R59); from WAITING the miss ends too. An entry into FAULT, and a
condition that changes in FAULT, raises a LANE notice (R51).
Model choices it rests on: log entries 1, 6, 19 and 22. -/
def Obligations.ReaderPresenceNoiseAndSilence : Prop :=
  ((∀ (l : LaneNo) (s : State), s.lanePresent l = true →
    exec (.presence l) s =
      .next (s.setLane l { s.laneAt l with silence := some (s.now + 3000), readerPresent := true }))
  ∧ (∀ (l : LaneNo) (s : State), s.lanePresent l = false → exec (.presence l) s = .next s)
  ∧ (∀ (l : LaneNo) (burst : List Byte) (s : State), judgeBurst burst = .discarded →
    exec (.discardedReaderMessage l burst) s = .next s))
  ∧ (∀ (l : LaneNo) (s : State), s.lanePresent l = true → Expired s (s.laneAt l).silence →
    ∃ t : State, exec (.readerSilence l) s = .next t ∧ OnlyLane l s t ∧ t.tally = s.tally
      ∧ (t.laneAt l).readerPresent = false ∧ (t.laneAt l).silence = none
      ∧ ((s.laneAt l).state = .closed →
          t = s.setLane l { s.laneAt l with silence := none, readerPresent := false })
      ∧ ((s.laneAt l).state.holdsAdmission = true →
          t = s.setLane l { s.laneAt l with silence := none, readerPresent := false, faultMark := some .readerSilent })
      ∧ ((s.laneAt l).state = .fault →
          t = laneAfter l { lane := { s.laneAt l with silence := none, readerPresent := false, condition := .readerSilent },
                            events := [], msgs := [] } s)
      ∧ ((s.laneAt l).state = .ready ∨ (s.laneAt l).state = .paused ∨ (s.laneAt l).state = .deciding
            ∨ (s.laneAt l).state = .waiting →
          t = laneAfter l (faultEntered (s.laneEnv l) .readerSilent []
            { s.laneAt l with silence := none, readerPresent := false }) s))

/-- A well-formed PRESENTATION (R52, R53, R54): in a READY lane with empty slots it is taken up at once by its read check: it
passes and is decided, or is given REREAD, or REFUSE READ FAULT; NOTIFY adds the READ FAULT event and the lane's condition. In PAUSED
it is placed and answered WAIT; in the other states that serve it is placed without a verdict. It is answered CLOSED in CLOSED,
CLOSING and FAULT; a double tap is not answered; with both slots full it is answered WAIT and discarded. A malformed one is
answered REFUSE READ FAULT and raises REFUSED (R45). A lane that goes on (R53, R57, R60, R61) is PAUSED under its mark, sending WAIT
for its current slot, and else READY, taking up what waits, each finished slot bringing up the next.
Model choices it rests on: log entries 6, 8, 19, 21, 22 and 24. -/
def Obligations.PresentationsAreTakenByState : Prop :=
  (∀ (l : LaneNo) (pass : BitVec 32) (media status attempt : Byte) (s : State), s.lanePresent l = true →
    ∃ t : State, exec (.presentation l pass media status attempt) s = .next t ∧ OnlyLane l s t
      ∧ (t.laneAt l).silence = some (s.now + 3000) ∧ (t.laneAt l).readerPresent = true
      ∧ (∀ (p : Presentation) (policy : ReadPolicy) (heard : Lane) (noticed : List Event),
          presentationOf pass media status attempt = some p →
          (s.laneAt l).state = .ready → (s.laneAt l).current = none → (s.laneAt l).next = none →
          (s.laneAt l).admission = none → policy = s.decoder.profile.readPolicy[l] →
          heard = { s.laneAt l with
            silence := some (s.now + 3000), readerPresent := true,
            condition :=
              if policy = .notify then
                if p.status = .good then
                  if (s.laneAt l).condition = .readFault then .none else (s.laneAt l).condition
                else .readFault
              else (s.laneAt l).condition } →
          noticed = (if policy = .notify ∧ p.status ≠ .good then
            [{ kind := .readFault, lane := some l, cls := none, reason := none }] else []) →
          (p.status = .good ∨ (policy ≠ .strict ∧ p.status = .corrected) →
            t = laneAfter l { lane := { heard with
              state := .deciding, lampLit := true, blinkAt := none, current := some p }, events := noticed, msgs := [] } s)
          ∧ (policy ≠ .strict → p.status = .fault → p.attempt ≤ 3 →
            t = laneAfter l { lane := { heard with
              readerOut := heard.readerOut ++ [{ pass := p.pass, kind := .reread }] }, events := noticed, msgs := [] } s)
          ∧ ((policy = .strict ∧ p.status ≠ .good) ∨ (policy ≠ .strict ∧ p.status = .fault ∧ 3 < p.attempt) →
            t = laneAfter l
              { lane := { heard with
                  toneAt := some (s.now + 300),
                  readerOut := heard.readerOut ++ [{ pass := p.pass, kind := .refuse .readFault }] },
                events := noticed ++ [{ kind := .refused, lane := some l, cls := none, reason := some .readFault }],
                msgs := [] } s))
      ∧ (∀ p, presentationOf pass media status attempt = some p → (s.laneAt l).state.answersClosed = false →
          (s.laneAt l).state ≠ .ready → (s.laneAt l).doubleTap p.pass = false → t.tally = s.tally
          ∧ ((s.laneAt l).current = none → t.laneAt l = { s.laneAt l with
            silence := some (s.now + 3000), readerPresent := true, current := some p,
            readerOut := (s.laneAt l).readerOut ++
              (if (s.laneAt l).state = .paused then [{ pass := p.pass, kind := .wait }] else []) })
          ∧ ((s.laneAt l).current.isSome = true → (s.laneAt l).next = none → t.laneAt l = { s.laneAt l with
            silence := some (s.now + 3000), readerPresent := true, next := some p,
            readerOut := (s.laneAt l).readerOut ++
              (if (s.laneAt l).state = .paused then [{ pass := p.pass, kind := .wait }] else []) }))
      ∧ ((s.laneAt l).state = .closed ∨ (s.laneAt l).state = .closing ∨ (s.laneAt l).state = .fault →
          t.laneAt l = { s.laneAt l with
            silence := some (s.now + 3000), readerPresent := true,
            readerOut := (s.laneAt l).readerOut ++ [{ pass := pass.toNat, kind := .closed }] } ∧ t.tally = s.tally)
      ∧ (∀ p, presentationOf pass media status attempt = some p → (s.laneAt l).state.answersClosed = false →
          (s.laneAt l).doubleTap p.pass = true →
          t.laneAt l = { s.laneAt l with silence := some (s.now + 3000), readerPresent := true } ∧ t.tally = s.tally)
      ∧ (∀ p, presentationOf pass media status attempt = some p → (s.laneAt l).state.answersClosed = false →
          (s.laneAt l).doubleTap p.pass = false → (s.laneAt l).current.isSome = true →
          (s.laneAt l).next.isSome = true →
          t.laneAt l = { s.laneAt l with
            silence := some (s.now + 3000), readerPresent := true,
            readerOut := (s.laneAt l).readerOut ++ [{ pass := pass.toNat, kind := .wait }] } ∧ t.tally = s.tally)
      ∧ (presentationOf pass media status attempt = none → (s.laneAt l).state.answersClosed = false →
          t.laneAt l = { s.laneAt l with
            silence := some (s.now + 3000), readerPresent := true, toneAt := some (s.now + 300),
            readerOut := (s.laneAt l).readerOut ++ [{ pass := pass.toNat, kind := .refuse .readFault }] }
          ∧ t.tally.inbox = s.tally.inbox ++
              [[{ kind := .refused, lane := some l, cls := none, reason := some .readFault }]]))
  ∧ (∀ (env : LaneEnv) (r : LaneRun),
    (r.lane.pause = true → r.resume env = { r with lane := { r.lane with
        state := .paused, lampLit := true, blinkAt := none,
        readerOut := r.lane.readerOut ++ (r.lane.current.toList.map fun p => { pass := p.pass, kind := .wait }) } })
    ∧ (r.lane.pause = false →
        r.resume env = LaneRun.takeUp env 2 { r with lane := { r.lane with
          state := .ready, lampLit := true, blinkAt := none } })
    ∧ ∀ n, (r.lane.state ≠ .ready ∨ r.lane.current = none → r.takeUp env n = r)
      ∧ ∀ (p : Presentation) (u : LaneRun), r.lane.state = .ready → r.lane.current = some p →
        u = (if env.policy = .notify then
              if p.status = .good then
                { r with lane := { r.lane with
                  condition := if r.lane.condition = .readFault then .none else r.lane.condition } }
              else
                { r with
                  lane := { r.lane with condition := .readFault },
                  events := r.events ++ [{ kind := .readFault, lane := some env.lane, cls := none, reason := none }] }
            else r) →
        (p.status = .good ∨ (env.policy ≠ .strict ∧ p.status = .corrected) →
          r.takeUp env (n + 1) = { u with lane := { u.lane with state := .deciding, lampLit := true, blinkAt := none } })
        ∧ (env.policy ≠ .strict → p.status = .fault → p.attempt ≤ 3 →
          r.takeUp env (n + 1) = LaneRun.takeUp env n { u with lane := { u.lane with
            current := r.lane.next, next := none,
            readerOut := r.lane.readerOut ++ [{ pass := p.pass, kind := .reread }] } })
        ∧ ((env.policy = .strict ∧ p.status ≠ .good) ∨ (env.policy ≠ .strict ∧ p.status = .fault ∧ 3 < p.attempt) →
          r.takeUp env (n + 1) = LaneRun.takeUp env n { u with
            lane := { u.lane with
              current := r.lane.next, next := none, toneAt := some (env.now + 300),
              readerOut := r.lane.readerOut ++ [{ pass := p.pass, kind := .refuse .readFault }] },
            events := u.events ++ [{ kind := .refused, lane := some env.lane, cls := none, reason := some .readFault }] }))

/-- BEAM SETTLE (R44): once the filters settle, each present lane holds the levels sampled; no event is handed, no notice raised,
nothing else of a lane changes.
Model choices it rests on: log entries 1 and 22. -/
def Obligations.BeamsSettleWithoutEvents : Prop :=
  ∀ (entry exit : LaneMask) (s : State), Expired s s.lanes.settleAt →
    ∃ t : State, exec (.beamSettle entry exit) s = .next t ∧ t.lanes.settleAt = none ∧ t.lanes.drops = s.lanes.drops
      ∧ (∀ l, s.lanePresent l = true → t.laneAt l = { s.laneAt l with
            entryBeam := if entry.getLsbD l then .broken else .clear,
            exitBeam := if exit.getLsbD l then .broken else .clear })
      ∧ (∀ l, s.lanePresent l = false → t.laneAt l = s.laneAt l)
      ∧ t.clock = s.clock ∧ t.table = s.table ∧ t.settlement = s.settlement ∧ t.tally = s.tally
      ∧ t.decoder = s.decoder ∧ t.port = s.port ∧ t.link = s.link

/-- A passage from the gate to the exit, in RELEASED, PASSING and CLOSING (R55, R56, R57): an entry break while the phase is RELEASED
starts it, an exit break while it is PASSING marks exit seen, and the exit restore then lowers the gate and submits the commit
claim; none of the three hands an event. Any other restore changes the level alone, at every lane and while an ending claim waits.
Breaks that are faults (R55 to R59): with no admission, TAILGATE or REVERSE is handed and the lane enters FAULT, both slots emptied
and answered CLOSED, a miss ended, the LANE notice raised (R51); in CLOSED and FAULT only the level changes; a second entry break in a passage marks TAILGATE and the passage goes on; an exit break before it
marks REVERSE, lowers the gate and submits the withdraw claim; a break while an ending claim waits hands its event and sets the
fault mark, the ending standing.
Model choices it rests on: log entries 1 and 8. -/
def Obligations.BeamsMoveTheAdmissionOrFault : Prop :=
  (∀ (l : LaneNo) (a : Admission) (s : State), (s.laneAt l).admission = some a → (s.laneAt l).ending = .none →
    (BeamAt l .entry .clear s → (s.laneAt l).state.holdsAdmission = true → a.phase = .released →
      exec (.beamBreak l .entry) s = .next (s.setLane l { s.laneAt l with
        entryBeam := .broken, window := none, admission := some { a with phase := .passing }, exitSeen := false,
        limit := some (s.now + s.decoder.profile.limit * 1000),
        state := if (s.laneAt l).state = .closing then .closing else .passing }))
    ∧ (BeamAt l .exit .clear s → (s.laneAt l).state.holdsAdmission = true → a.phase = .passing →
      exec (.beamBreak l .exit) s = .next (s.setLane l { s.laneAt l with exitBeam := .broken, exitSeen := true }))
    ∧ (BeamAt l .exit .broken s → a.phase = .passing → (s.laneAt l).exitSeen = true →
      exec (.beamRestore l .exit) s = .next (s.setLane l { s.laneAt l with
        exitBeam := .clear, limit := none, gate := false, ending := .commit })))
  ∧ (∀ (l : LaneNo) (s : State),
    (BeamAt l .entry .broken s →
      exec (.beamRestore l .entry) s = .next (s.setLane l { s.laneAt l with entryBeam := .clear }))
    ∧ (BeamAt l .exit .broken s →
      (s.laneAt l).ending ≠ .none ∨ (s.laneAt l).exitSeen = false
        ∨ (∀ a, (s.laneAt l).admission = some a → a.phase = .released) →
      exec (.beamRestore l .exit) s = .next (s.setLane l { s.laneAt l with exitBeam := .clear })))
  ∧ (∀ (l : LaneNo) (b : Beam) (s : State), BeamAt l b .clear s →
    ((s.laneAt l).state = .closed ∨ (s.laneAt l).state = .fault →
      exec (.beamBreak l b) s = .next (s.setLane l ((s.laneAt l).setBeam b .broken)))
    ∧ ((s.laneAt l).state = .ready ∨ (s.laneAt l).state = .deciding ∨ (s.laneAt l).state = .waiting
          ∨ (s.laneAt l).state = .paused →
      ∃ t : State, exec (.beamBreak l b) s = .next t ∧ OnlyLane l s t ∧ (t.laneAt l).state = .fault
        ∧ (t.laneAt l).condition = (match b with | .entry => .tailgate | .exit => .reverse)
        ∧ (t.laneAt l).beam b = .broken
        ∧ t.tally.inbox = s.tally.inbox ++
            [[laneEvent (match b with | .entry => .tailgate | .exit => .reverse) l]]
        ∧ t = laneAfter l (faultEntered (s.laneEnv l) (match b with | .entry => .tailgate | .exit => .reverse)
            [laneEvent (match b with | .entry => .tailgate | .exit => .reverse) l] ((s.laneAt l).setBeam b .broken)) s)
    ∧ ((s.laneAt l).state.holdsAdmission = true → (s.laneAt l).ending ≠ .none →
      exec (.beamBreak l b) s = .next ((s.setLane l { (s.laneAt l).setBeam b .broken with
        faultMark := some (match b with | .entry => .tailgate | .exit => .reverse) }).handEvents
          [laneEvent (match b with | .entry => .tailgate | .exit => .reverse) l]))
    ∧ (∀ a, b = .entry → (s.laneAt l).state.holdsAdmission = true → (s.laneAt l).admission = some a →
      a.phase = .passing →
      exec (.beamBreak l b) s = .next ((s.setLane l { s.laneAt l with
        entryBeam := .broken, faultMark := some .tailgate }).handEvents [laneEvent .tailgate l]))
    ∧ (∀ a, b = .exit → (s.laneAt l).state.holdsAdmission = true → (s.laneAt l).admission = some a →
      a.phase = .released →
      (s.laneAt l).ending = .none →
      exec (.beamBreak l b) s = .next ((s.setLane l { s.laneAt l with
        exitBeam := .broken, faultMark := some .reverse, window := none, gate := false,
        ending := .withdraw }).handEvents [laneEvent .reverse l])))

/-- The two timers of an admission (R55, R56): the passage window's expiry submits the withdraw claim; the passing limit's hands
STUCK, marks the fault and submits the commit claim; both lower the gate.
The tone and the blinking lamp (R48, R49): the tone falls silent; the lamp toggles and is due again 500 ms after its deadline.
The lamps of a lane by its state, a blinking one lit while its half second is; an absent lane's are dark (R43, R48).
Model choices it rests on: log entries 1 and 8. -/
def Obligations.LaneTimersActAtTheirDeadlines : Prop :=
  (∀ (l : LaneNo) (s : State), s.lanePresent l = true →
    (Expired s (s.laneAt l).window →
      exec (.passageWindowExpiry l) s = .next (s.setLane l { s.laneAt l with
        window := none, gate := false, ending := .withdraw }))
    ∧ (Expired s (s.laneAt l).limit →
      exec (.passingLimitExpiry l) s = .next ((s.setLane l { s.laneAt l with
        limit := none, faultMark := some .stuck, gate := false, ending := .commit }).handEvents [laneEvent .stuck l])))
  ∧ (∀ (l : LaneNo) (d : Nat) (s : State), s.lanePresent l = true → d ≤ s.now →
    ((s.laneAt l).toneAt = some d →
      exec (.toneEnd l) s = .next (s.setLane l { s.laneAt l with toneAt := none }))
    ∧ ((s.laneAt l).blinkAt = some d →
      exec (.lampBlink l) s = .next (s.setLane l { s.laneAt l with
        lampLit := !(s.laneAt l).lampLit, blinkAt := some (d + 500) })))
  ∧ (∀ (l : LaneNo) (s : State),
    (s.lanePresent l = false → s.lampsAt l = { red := false, amber := false, green := false })
    ∧ (s.lanePresent l = true → s.lampsAt l = match (s.laneAt l).state with
      | .closed | .closing => { red := true, amber := false, green := false }
      | .ready | .deciding => { red := false, amber := true, green := false }
      | .waiting => { red := false, amber := (s.laneAt l).lampLit, green := false }
      | .released | .passing => { red := false, amber := false, green := true }
      | .paused => { red := true, amber := true, green := false }
      | .fault => { red := (s.laneAt l).lampLit, amber := false, green := false }))

/-- What ends a miss with REFUSE NOT FOUND (R83, R85, R86): the miss record and its timer go, the decoder is asked to remove the
notice, the reader is sent the refusal, the tone sounds, the slot is finished and the lane goes on, taking up its next presentation.
MISS WAIT EXPIRY hands MISS EXPIRED and then REFUSED; the line's entry into DROPPING does so at every waiting lane with REFUSED alone,
each lane one event, in ascending order; the other lanes stay.
Model choices it rests on: log entries 1, 8, 19, 21 and 30. -/
def Obligations.MissesEndInNotFound : Prop :=
  (∀ (l : LaneNo) (m : Miss) (s : State), s.lanePresent l = true → Expired s (s.laneAt l).missWait →
    (s.laneAt l).miss = some m →
    ∃ t : State, exec (.missWaitExpiry l) s = .next t ∧ OnlyLane l s t
      ∧ t = laneAfter l (missRefused (s.laneEnv l) m [laneEvent .missExpired l] (s.laneAt l)) s
      ∧ ((s.laneAt l).next = none → t.laneAt l = { s.laneAt l with
            miss := none, missWait := none, current := none, toneAt := some (s.now + 300), lampLit := true,
            blinkAt := none, state := if (s.laneAt l).pause then .paused else .ready,
            readerOut := (s.laneAt l).readerOut ++ [{ pass := m.pass, kind := .refuse .notFound }] }
        ∧ t.tally.inbox = s.tally.inbox ++ [[laneEvent .missExpired l, refusedEvent l none .notFound]])
      ∧ t.decoder.laneMsgs.take (s.decoder.laneMsgs.length + 1) = s.decoder.laneMsgs ++ [.removeMiss l])
  ∧ (∀ s : State, 0 < s.lanes.drops →
    ∃ t : State, exec .lineDropAtLanes s = .next t ∧ t.lanes.drops = s.lanes.drops - 1
      ∧ (∀ l, s.lanePresent l = false ∨ (s.laneAt l).miss = none → t.laneAt l = s.laneAt l)
      ∧ (∀ l m, s.lanePresent l = true → (s.laneAt l).miss = some m →
          t.laneAt l = (missRefused (s.laneEnv l) m [] (s.laneAt l)).lane
          ∧ (t.laneAt l).miss = none ∧ (t.laneAt l).missWait = none ∧ (t.laneAt l).toneAt = some (s.now + 300)
          ∧ (s.laneAt l).readerOut ++ [{ pass := m.pass, kind := .refuse .notFound }] <+: (t.laneAt l).readerOut
          ∧ [refusedEvent l none .notFound] <+: (missRefused (s.laneEnv l) m [] (s.laneAt l)).events)
      ∧ t.tally.inbox = s.tally.inbox ++ (s.presentLanes.filterMap fun l => (s.laneAt l).miss.map fun m =>
          (missRefused (s.laneEnv l) m [] (s.laneAt l)).events)
      ∧ t.decoder.laneMsgs = s.decoder.laneMsgs ++ s.presentLanes.flatMap (fun l =>
          if (s.laneAt l).miss.isSome then .removeMiss l :: laneNotice l (s.laneAt l) (t.laneAt l) else [])
      ∧ { t.tally with inbox := s.tally.inbox } = s.tally ∧ { t.decoder with laneMsgs := s.decoder.laneMsgs } = s.decoder
      ∧ t.lanes.settleAt = s.lanes.settleAt
      ∧ t.clock = s.clock ∧ t.table = s.table ∧ t.settlement = s.settlement ∧ t.port = s.port ∧ t.link = s.link)
  ∧ (∀ s : State, s.lanes.drops = 0 → exec .lineDropAtLanes s = .next s)
  ∧ (∀ (l : LaneNo) (s : State), ¬ Expired s (s.laneAt l).missWait → exec (.missWaitExpiry l) s = .next s)

/-- Pacing reports (R60, R61), taken in the order made: a start sets the pause mark and brings READY and DECIDING to PAUSED with
the presentation kept; an admission, a miss, a closed or faulty lane keep their state; an end clears the mark and brings PAUSED
back to READY, or further where a presentation is taken up.
Model choices it rests on: log entry 8. -/
def Obligations.PacingPausesAndResumes : Prop :=
  ∀ (l : LaneNo) (rest : List PacingReport) (s : State), s.lanePresent l = true →
    ((s.laneAt l).pacing = .start :: rest →
      ∃ t : State, exec (.pacingStart l) s = .next t ∧ OnlyLane l s t ∧ (t.laneAt l).pause = true
        ∧ (t.laneAt l).pacing = rest ∧ (t.laneAt l).current = (s.laneAt l).current
        ∧ (t.laneAt l).next = (s.laneAt l).next ∧ t.tally = s.tally
        ∧ ((s.laneAt l).state = .ready ∨ (s.laneAt l).state = .deciding → (t.laneAt l).state = .paused)
        ∧ ((s.laneAt l).state ≠ .ready → (s.laneAt l).state ≠ .deciding →
            t.laneAt l = { s.laneAt l with pause := true, pacing := rest }))
    ∧ ((s.laneAt l).pacing = .stop :: rest →
      ∃ t : State, exec (.pacingEnd l) s = .next t ∧ OnlyLane l s t ∧ (t.laneAt l).pause = false
        ∧ (t.laneAt l).pacing = rest
        ∧ ((s.laneAt l).state = .paused → (s.laneAt l).current = none → (t.laneAt l).state = .ready)
        ∧ ((s.laneAt l).state = .paused → ∀ p, (s.laneAt l).current = some p → p.status = .good →
            (t.laneAt l).state = .deciding ∧ (t.laneAt l).current = some p)
        ∧ ((s.laneAt l).state ≠ .paused → t.laneAt l = { s.laneAt l with pause := false, pacing := rest }))

/-- LANE OPEN, LANE CLOSE and LANE RESET (R62 to R65): a mask of no lane or of an absent one fails BAD ARGUMENT, a LANE STATUS too;
LANE OPEN fails NOT READY while the clock does not run, a TABLE CLEAR runs or the beams are unsettled. Otherwise each lane of the mask
takes its own effect as one event, every other lane stays, and the request ends COMPLETE. An open meets a broken entry beam as
TAILGATE and else a broken exit beam as REVERSE (R58, R59). A close empties the slots, each answered CLOSED; a waiting lane's
current presentation is answered REFUSE LANE CLOSING, its miss ends, and REFUSED is handed.
Model choices it rests on: log entries 5, 8, 14, 19, 25, 29 and 30. -/
def Obligations.LaneRequestsActOnTheirMask : Prop :=
  (∀ (o : Origin) (mask : LaneMask) (s : State),
    (s.badLaneMask mask = true ↔ mask = 0 ∨ ∃ l : LaneNo, mask.getLsbD l = true ∧ s.lanePresent l = false)
    ∧ (s.badLaneMask mask = true →
      (Waits o (.laneOpen mask) s → exec (.laneOpen o) s = .next (s.fail o .badArgument none (blockField 4)))
      ∧ (Waits o (.laneClose mask) s → exec (.laneClose o) s = .next (s.fail o .badArgument none (blockField 4)))
      ∧ (Waits o (.laneReset mask) s → exec (.laneReset o) s = .next (s.fail o .badArgument none (blockField 4)))
      ∧ (Waits o (.laneStatus mask) s → exec (.laneStatus o) s = .next (s.fail o .badArgument none (blockField 4))))
    ∧ (s.badLaneMask mask = false → Waits o (.laneOpen mask) s →
      s.clock.state ≠ .running ∨ s.clearing = true ∨ s.lanes.settleAt ≠ none →
      exec (.laneOpen o) s = .next (s.fail o .notReady none none)))
  ∧ (∀ (o : Origin) (mask : LaneMask) (s : State), s.badLaneMask mask = false →
    (Waits o (.laneOpen mask) s → s.clock.state = .running → s.clearing = false → s.lanes.settleAt = none →
      (∀ l : LaneNo, mask.getLsbD l = true → (s.laneAt l).state = .closed → (s.laneAt l).current = none) →
      ∃ u : State, exec (.laneOpen o) s = .next (u.complete o (u.laneListImage mask)) ∧ u.context o = s.context o
        ∧ (∀ l : LaneNo, mask.getLsbD l = false ∨ (s.laneAt l).state ≠ .closed → u.laneAt l = s.laneAt l)
        ∧ (∀ (l : LaneNo) (opened : Lane), mask.getLsbD l = true → (s.laneAt l).state = .closed →
            opened = { s.laneAt l with condition := .none, silence := some (s.now + 3000) } →
            ((s.laneAt l).entryBeam = .clear → (s.laneAt l).exitBeam = .clear →
              u.laneAt l = { opened with
                state := if (s.laneAt l).pause then .paused else .ready, lampLit := true, blinkAt := none })
            ∧ ((s.laneAt l).entryBeam = .broken → u.laneAt l = faulted (s.laneEnv l) .tailgate opened)
            ∧ ((s.laneAt l).entryBeam = .clear → (s.laneAt l).exitBeam = .broken →
                u.laneAt l = faulted (s.laneEnv l) .reverse opened))
        ∧ u.tally.inbox = s.tally.inbox ++ (lanesOf mask).flatMap (fun l =>
            if (s.laneAt l).state ≠ .closed then []
            else if (s.laneAt l).entryBeam = .broken then [[laneEvent .tailgate l]]
            else if (s.laneAt l).exitBeam = .broken then [[laneEvent .reverse l]] else [])
        ∧ u.decoder.laneMsgs = s.decoder.laneMsgs ++
            (lanesOf mask).flatMap (fun l => laneNotice l (s.laneAt l) (u.laneAt l))
        ∧ u.table = s.table ∧ u.settlement = s.settlement ∧ u.clock = s.clock)
    ∧ (Waits o (.laneClose mask) s →
      ∃ u : State, exec (.laneClose o) s = .next (u.complete o (u.laneListImage mask)) ∧ u.context o = s.context o
        ∧ (∀ l : LaneNo, mask.getLsbD l = false → u.laneAt l = s.laneAt l)
        ∧ (∀ l : LaneNo, mask.getLsbD l = true →
            (u.laneAt l).admission = (s.laneAt l).admission ∧ (u.laneAt l).gate = (s.laneAt l).gate
            ∧ (u.laneAt l).window = (s.laneAt l).window ∧ (u.laneAt l).limit = (s.laneAt l).limit
            ∧ match (s.laneAt l).state with
              | .ready | .paused | .deciding => u.laneAt l = { s.laneAt l with
                  state := .closed, lampLit := true, blinkAt := none, toneAt := none, current := none, next := none,
                  readerOut := (s.laneAt l).readerOut ++ closedVerdicts (s.laneAt l) }
              | .waiting => ∀ p, (s.laneAt l).current = some p → u.laneAt l = { s.laneAt l with
                  state := .closed, lampLit := true, blinkAt := none, toneAt := none, current := none, next := none,
                  miss := none, missWait := none,
                  readerOut := (s.laneAt l).readerOut ++ [{ pass := p.pass, kind := .refuse .laneClosing }]
                    ++ closedVerdicts { s.laneAt l with current := none } }
              | .released | .passing => u.laneAt l = { s.laneAt l with
                  state := .closing, lampLit := true, blinkAt := none, current := none, next := none,
                  readerOut := (s.laneAt l).readerOut ++ closedVerdicts (s.laneAt l) }
              | .closed | .closing | .fault => u.laneAt l = s.laneAt l)
        ∧ u.tally.inbox = s.tally.inbox ++ (lanesOf mask).flatMap (fun l =>
            if (s.laneAt l).state = .waiting ∧ (s.laneAt l).current.isSome then
              [[refusedEvent l none .laneClosing]] else [])
        ∧ u.decoder.laneMsgs = s.decoder.laneMsgs ++ (lanesOf mask).flatMap (fun l =>
            (if (s.laneAt l).state = .waiting then [.removeMiss l] else [])
              ++ laneNotice l (s.laneAt l) (u.laneAt l))
        ∧ u.table = s.table ∧ u.settlement = s.settlement ∧ u.clock = s.clock)
    ∧ (Waits o (.laneReset mask) s →
      ∃ u : State, exec (.laneReset o) s = .next (u.complete o (u.laneListImage mask)) ∧ u.context o = s.context o
        ∧ (∀ l : LaneNo, mask.getLsbD l = false ∨ (s.laneAt l).state ≠ .fault → u.laneAt l = s.laneAt l)
        ∧ (∀ l : LaneNo, mask.getLsbD l = true → (s.laneAt l).state = .fault →
            u.laneAt l = { s.laneAt l with
              state := .closed, condition := .none, faultMark := none, toneAt := none, lampLit := true,
              blinkAt := none })
        ∧ u.tally = s.tally ∧ u.decoder.laneMsgs = s.decoder.laneMsgs ++
            (lanesOf mask).flatMap (fun l => laneNotice l (s.laneAt l) (u.laneAt l))
        ∧ u.table = s.table ∧ u.settlement = s.settlement ∧ u.clock = s.clock))

/-! ## Admission -/

/-- A decision claim that admits (R78): the record is in flight at the lane and at the head of the recency list, no other field of
it changes; the lane sends ADMIT with its two figures, releases the gate, holds the admission record and its window timer, and
moves its next presentation up; no event is handed.
Model choices it rests on: log entry 21. -/
def Obligations.DecisionAdmits : Prop :=
  ∀ (l : LaneNo) (p : Presentation) (r : PassRecord) (consume : Bool) (s : State), s.laneHasTurn l = true →
    (s.laneAt l).state = .deciding → (s.laneAt l).current = some p → s.record p.pass = some r →
    s.decision l p.pass = .admitted consume →
    ∃ t : State, exec (.decisionClaim l) s = .next t ∧ LaneClaimFrame l s t ∧ t.tally = s.tally
      ∧ t.settlement = s.settlement ∧ t.decoder = s.decoder ∧ t.port = s.port ∧ t.link = s.link
      ∧ t.record p.pass = some { r with inFlight := some l } ∧ OtherRecords p.pass s t
      ∧ t.table.recency = p.pass :: s.table.recency.filter (· != p.pass)
      ∧ t.laneAt l = { s.laneAt l with
          state := .released, gate := true, lampLit := true, blinkAt := none,
          admission := some { pass := p.pass, day := s.clock.day, consume := consume, release := s.now, phase := .released },
          window := some (s.now + s.decoder.profile.window * 1000), current := (s.laneAt l).next, next := none,
          readerOut := (s.laneAt l).readerOut ++ [{
            pass := p.pass,
            kind := .admitted
              (if r.kind = .season then none else
                some (r.entitled - sizeDays (if consume then joinDays r.used (oneDay s.clock.day) else r.used)))
              (nextRide (r.shownRides s.clock.day)) }] }

/-- A decision claim that refuses (R77): no field of any record changes; a resident pass goes to the head of the recency list; the
lane sends REFUSE with the reason, sounds the tone and finishes the slot; one REFUSED event is handed with the reason, the lane,
and the record's class if the pass is resident.
A decision claim that ends in miss (R81): no record changes and the recency list stays; the presentation stays in its slot, WAIT
is sent, the miss record and its timer start, the lane is WAITING with its lamp blinking; a MISS notice is raised and MISS SENT
handed.
Model choices it rests on: log entries 8 and 21. -/
def Obligations.DecisionsRefuseOrBeginAMiss : Prop :=
  (∀ (l : LaneNo) (p : Presentation) (reason : Reason) (s : State), s.laneHasTurn l = true →
    (s.laneAt l).state = .deciding → (s.laneAt l).current = some p → (s.laneAt l).next = none →
    (s.laneAt l).pause = false → s.decision l p.pass = .refuse reason →
    ∃ t : State, exec (.decisionClaim l) s = .next t ∧ LaneClaimFrame l s t ∧ t.settlement = s.settlement
      ∧ t.table.records = s.table.records
      ∧ t.table.recency = (if (s.record p.pass).isSome then p.pass :: s.table.recency.filter (· != p.pass)
          else s.table.recency)
      ∧ t.tally.inbox = s.tally.inbox ++
          [[{ kind := .refused, lane := some l, cls := (s.record p.pass).map (·.cls), reason := some reason }]]
      ∧ t.laneAt l = { s.laneAt l with
          state := .ready, lampLit := true, blinkAt := none, current := none, next := none,
          toneAt := some (s.now + 300),
          readerOut := (s.laneAt l).readerOut ++ [{ pass := p.pass, kind := .refuse reason }] })
  ∧ (∀ (l : LaneNo) (p : Presentation) (s : State), s.laneHasTurn l = true →
    (s.laneAt l).state = .deciding → (s.laneAt l).current = some p → s.decision l p.pass = .miss →
    ∃ t : State, exec (.decisionClaim l) s = .next t ∧ LaneClaimFrame l s t ∧ t.settlement = s.settlement
      ∧ t.table.records = s.table.records ∧ t.table.recency = s.table.recency
      ∧ t.tally.inbox = s.tally.inbox ++ [[laneEvent .missSent l]]
      ∧ t.decoder.laneMsgs = s.decoder.laneMsgs ++ [.notice (.miss l p.pass)]
      ∧ t.laneAt l = { s.laneAt l with
          state := .waiting, lampLit := true, blinkAt := some (s.now + 500),
          miss := some { pass := p.pass, start := s.now },
          missWait := some (s.now + s.decoder.profile.missWait),
          readerOut := (s.laneAt l).readerOut ++ [{ pass := p.pass, kind := .wait }] })

/-- The nine checks of a decision claim in their order, each with the outcome of its failing, and admission where none fails (R70 to
R76): for a resident pass the class, the revocation list, the record's state, the in-flight mark, the season's end, the window, the
passback interval, and the day with its consume flag; a pass with no record is refused, or begins a miss. So no admission is decided
for a pass on the list, or whose record is HELD, SETTLED or REVOKED, or in flight, and a DAYS pass with no day left is admitted only
on a day already used. -/
def Obligations.AdmissionsPassEveryCheck : Prop :=
  (∀ (l : LaneNo) (p : Nat) (r : PassRecord) (s : State), s.record p = some r → s.decision l p =
    if (s.decoder.profile.laneClasses[l]).getLsbD r.cls.code = false then .refuse .cls
    else if s.table.revoked.contains p then .refuse .revoked
    else if r.state = .revoked then .refuse .revoked
    else if r.state = .held then .refuse .held
    else if r.state = .settled then .refuse .settled
    else if r.inFlight.isSome then .refuse .inFlight
    else if s.clock.state = .ended then .refuse .seasonEnded
    else if s.clock.day < r.first then .refuse .notYetValid
    else if r.last < s.clock.day then .refuse .expired
    else if r.cls ≠ .staff ∧ withinPassback s.decoder.profile.passback s.stamp r = true then .refuse .passback
    else if hasDay r.used s.clock.day then .admitted false
    else if r.kind = .days ∧ r.entitled ≤ sizeDays r.used then .refuse .noDays
    else .admitted true)
  ∧ (∀ (l : LaneNo) (p : Nat) (s : State), s.record p = none →
    (p ∈ s.table.revoked → s.decision l p = .refuse .revoked)
    ∧ (p ∉ s.table.revoked →
      ((∃ m x, m ≠ l ∧ s.lanePresent m = true ∧ (s.laneAt m).miss = some x ∧ x.pass = p) →
        s.decision l p = .refuse .inFlight)
      ∧ ((∀ m x, m ≠ l → s.lanePresent m = true → (s.laneAt m).miss = some x → x.pass ≠ p) → s.decision l p =
        if s.decoder.profile.missFetch = true ∧ s.link.state = .up then .miss else .refuse .notFound)))
  ∧ (∀ (minutes : Nat) (at_ : Stamp) (r : PassRecord), withinPassback minutes at_ r = true ↔
    minutes ≠ 0 ∧ ∃ q, r.lastPassage = some q
      ∧ at_.day * 86400 + at_.second - (q.at_.day * 86400 + q.at_.second) < minutes * 60)
  ∧ (∀ (l : LaneNo) (p : Nat) (consume : Bool) (s : State), s.decision l p = .admitted consume →
    s.table.listed p = false ∧ ∃ r, s.record p = some r ∧ r.state = .active ∧ r.inFlight = none
      ∧ (s.decoder.profile.laneClasses[l]).getLsbD r.cls.code = true ∧ s.clock.state ≠ .ended
      ∧ r.first ≤ s.clock.day ∧ s.clock.day ≤ r.last
      ∧ (r.cls = .staff ∨ withinPassback s.decoder.profile.passback s.stamp r = false)
      ∧ consume = !hasDay r.used s.clock.day
      ∧ (consume = true → r.kind = .days → sizeDays r.used < r.entitled))

/-- COMMIT CLAIM (R87, R88): the decision day joins used days, and unreported days if it was not used and the consume flag is on;
last passage is now; rides season advances by one up to 65535; rides today by R39; the mark is cleared; the record goes to the
recency head; the pass joins the report queue's tail where its unreported days were empty; PASSAGE and then DAY CONSUMED are handed;
the lane's admission ends. Here with no hold on the pass or awaited, no fault mark and nobody waiting at the lane.
Model choices it rests on: log entry 8. -/
def Obligations.CommitCountsTheRider : Prop :=
  ∀ (l : LaneNo) (a : Admission) (r : PassRecord) (s : State), s.laneHasTurn l = true →
    (s.laneAt l).ending = .commit → (s.laneAt l).admission = some a → s.record a.pass = some r →
    s.settlement.hold a.pass = none → (∀ o, s.stage o ≠ some (.pendingHold a.pass)) →
    (s.laneAt l).faultMark = none → (s.laneAt l).current = none →
    (s.laneAt l).pause = false → (s.laneAt l).state ≠ .closing → (s.laneAt l).next = none →
    ∃ t : State, exec (.commitClaim l) s = .next t ∧ LaneClaimFrame l s t ∧ t.port = s.port ∧ t.link = s.link
      ∧ t.record a.pass = some { r with
          used := joinDays r.used (oneDay a.day),
          unreported := if a.consume && !hasDay r.used a.day then joinDays r.unreported (oneDay a.day) else r.unreported,
          lastPassage := some { at_ := s.stamp, lane := l },
          ridesSeason := if r.ridesSeason < 65535 then r.ridesSeason + 1 else 65535,
          ridesToday := match r.lastPassage with
            | none => 1
            | some q => if q.at_.day = s.clock.day then (if r.ridesToday < 65535 then r.ridesToday + 1 else 65535) else 1,
          inFlight := none }
      ∧ OtherRecords a.pass s t ∧ t.table.recency = a.pass :: s.table.recency.filter (· != a.pass)
      ∧ t.settlement = { s.settlement with
          queue := if (a.consume && !hasDay r.used a.day) = true ∧ r.unreported = 0 then s.settlement.queue ++ [a.pass]
            else s.settlement.queue }
      ∧ t.tally.inbox = s.tally.inbox ++
          [{ kind := .passage, lane := some l, cls := some r.cls, reason := none } ::
            (if a.consume && !hasDay r.used a.day then
              [{ kind := .dayConsumed, lane := some l, cls := some r.cls, reason := none }] else [])]
      ∧ t.laneAt l = { s.laneAt l with
          admission := none, ending := .none, exitSeen := false, state := .ready, lampLit := true, blinkAt := none }

/-- The two claims that end an admission, in RELEASED, PASSING and CLOSING (R57, R87 to R89, R114). A withdraw clears the mark and
changes nothing else of any record nor the recency list, and hands WITHDRAWN; a commit counts the rider. A PENDING hold of the pass
reaches HELD in the claim, at its place in the list, its deadline set then, the record HELD with hold lapsed clear, HOLD PLACED
handed before the claim's other events; its owner's REFUND HOLD, where still awaited, is answered COMPLETE with the waited flag and
the record as the claim leaves it. Then the lane ends the admission: FAULT by its mark, else CLOSED from CLOSING, else PAUSED or
READY, taking up a presentation that waits.
Model choices it rests on: log entries 5, 8, 14 and 19. -/
def Obligations.WithdrawalsAndPendingHoldsAtTheEnd : Prop :=
  ∀ (l : LaneNo) (a : Admission) (r : PassRecord) (s : State), s.laneHasTurn l = true →
    (s.laneAt l).admission = some a → s.record a.pass = some r → (s.laneAt l).state.holdsAdmission = true →
    ∀ (claim : Instr) (base : PassRecord) (events : List Event) (recency queue : List Nat),
    (((s.laneAt l).ending = .withdraw ∧ claim = .withdrawClaim l ∧ base = { r with inFlight := none }
        ∧ recency = s.table.recency ∧ queue = s.settlement.queue
        ∧ events = [{ kind := .withdrawn, lane := some l, cls := some r.cls, reason := none }])
      ∨ ((s.laneAt l).ending = .commit ∧ claim = .commitClaim l ∧ base = { r with
          used := joinDays r.used (oneDay a.day),
          unreported := if a.consume && !hasDay r.used a.day then joinDays r.unreported (oneDay a.day) else r.unreported,
          lastPassage := some { at_ := s.stamp, lane := l },
          ridesSeason := if r.ridesSeason < 65535 then r.ridesSeason + 1 else 65535,
          ridesToday := match r.lastPassage with
            | none => 1
            | some q => if q.at_.day = s.clock.day then (if r.ridesToday < 65535 then r.ridesToday + 1 else 65535) else 1,
          inFlight := none }
        ∧ recency = a.pass :: s.table.recency.filter (· != a.pass)
        ∧ queue = (if (a.consume && !hasDay r.used a.day) = true ∧ r.unreported = 0 then s.settlement.queue ++ [a.pass]
            else s.settlement.queue)
        ∧ events = { kind := .passage, lane := some l, cls := some r.cls, reason := none } ::
            (if a.consume && !hasDay r.used a.day then
              [{ kind := .dayConsumed, lane := some l, cls := some r.cls, reason := none }] else []))) →
    ∃ u v : State, exec claim s = .next (laneAfter l (admissionEnded (s.laneEnv l) (s.laneAt l)) v)
      ∧ v.lanes = s.lanes ∧ OtherRecords a.pass s u
      ∧ { u.table with records := s.table.records } = { s.table with lastLane := l, recency := recency }
      ∧ u.clock = s.clock ∧ u.lanes = s.lanes ∧ u.decoder = s.decoder ∧ u.port = s.port ∧ u.link = s.link
      ∧ u.pending = s.pending
      ∧ ((∀ o, s.stage o ≠ some (.pendingHold a.pass)) → v = u)
      ∧ (NotPending a.pass s → u.record a.pass = some base
        ∧ u.settlement = { s.settlement with queue := queue }
        ∧ u.tally = { s.tally with inbox := s.tally.inbox ++ [events] })
      ∧ ∀ (e : HoldEntry) (deadline : Nat) (r' : PassRecord), s.settlement.hold a.pass = some e → e.phase = .pending →
        deadline = s.now + s.decoder.profile.holdLapse * 60000 →
        r' = { base with state := .held, holdLapsed := false } →
        u.record a.pass = some r'
        ∧ { u.settlement with holds := s.settlement.holds } = { s.settlement with queue := queue }
        ∧ PlacedHeld { e with phase := .held, deadline := some deadline } s.settlement.holds u.settlement.holds
        ∧ u.settlement.hold a.pass = some { e with phase := .held, deadline := some deadline }
        ∧ u.tally = { s.tally with inbox := s.tally.inbox ++
            [{ kind := .holdPlaced, lane := none, cls := some r.cls, reason := none } :: events] }
        ∧ ∀ o, s.stage o = some (.pendingHold a.pass) → s.stage (otherOrigin o) ≠ some (.pendingHold a.pass) →
          v = u.complete o (holdImage s.clock.day r' e.owner (some deadline) true)

/-! ## The pass table's requests -/

/-- PASS INSERT of a pass that has no record (R15, R16), with room or by evicting: the record is created with the fields given,
REVOKED if the pass is listed and ACTIVE if not, at the head of the recency list; the evictee is the evictable record nearest
the tail; a lane waiting for the pass decides again, or pauses; the answer is COMPLETE. With nothing evictable the request
fails TABLE FULL and no record changes, and a lane waiting for the pass ends its miss with REFUSE NOT FOUND and goes on (R84).
Model choices it rests on: log entries 5, 8, 14, 19 and 21. -/
def Obligations.InsertCreatesARecord : Prop :=
  ∀ (o : Origin) (a : InsertArgs) (s : State), HasClaim o (.passInsert a) s → checkInsert a = none →
    s.record a.pass = none →
    (∀ ev : Option Nat, (s.table.records.length < 8192 ∧ ev = none)
        ∨ (8192 ≤ s.table.records.length ∧ ev.isSome = true ∧ s.evictee = ev) →
      ∃ u : State, exec (.passInsert o) s =
          .next (u.complete o (img1 0 ++ img1 (if s.table.listed a.pass then 3 else 0) ++ imgPass ev))
        ∧ u.context o = s.context o
        ∧ (∃ r, u.record a.pass = some r ∧ r.pass = a.pass ∧ classOfCode a.cls = some r.cls
            ∧ kindOfCode a.kind = some r.kind ∧ r.entitled = (if r.kind = .season then 0 else a.entitled)
            ∧ r.first = a.first ∧ r.last = a.last ∧ r.used = a.used ∧ r.unreported = 0 ∧ r.inFlight = none
            ∧ r.lastPassage = none ∧ r.ridesSeason = 0 ∧ r.ridesToday = 0 ∧ r.holdLapsed = false
            ∧ r.state = (if s.table.listed a.pass then .revoked else .active))
        ∧ (∀ q, q ≠ a.pass → ev ≠ some q → u.record q = s.record q) ∧ (∀ q, ev = some q → u.record q = none)
        ∧ u.table.recency = a.pass :: s.table.recency.filter (fun q => q != a.pass && some q != ev)
        ∧ (∀ l, s.missLane a.pass ≠ some l → u.laneAt l = s.laneAt l)
        ∧ (∀ l, s.missLane a.pass = some l → (u.laneAt l).miss = none ∧ (u.laneAt l).missWait = none
            ∧ (u.laneAt l).current = (s.laneAt l).current
            ∧ (u.laneAt l).state = (if (s.laneAt l).pause then .paused else .deciding))
        ∧ u.clock = s.clock ∧ u.settlement = s.settlement ∧ u.tally = s.tally ∧ u.port = s.port ∧ u.link = s.link
        ∧ u.table.revoked = s.table.revoked ∧ u.table.sweep = s.table.sweep)
    ∧ (8192 ≤ s.table.records.length → s.evictee = none →
      ∃ u : State, exec (.passInsert o) s = .next (u.fail o .tableFull (some a.pass) none)
        ∧ (s.missLane a.pass = none → u = { s with table := served o s.table })
        ∧ ∀ l m, s.missLane a.pass = some l → (s.laneAt l).miss = some m →
          u = laneAfter l (missRefused (s.laneEnv l) m [] (s.laneAt l)) { s with table := served o s.table })
    ∧ (∀ p l, s.missLane p = some l → s.lanePresent l = true ∧ ∃ m, (s.laneAt l).miss = some m ∧ m.pass = p)
    ∧ (∀ p, s.missLane p = none → ∀ l m, s.lanePresent l = true → (s.laneAt l).miss = some m → m.pass ≠ p)
    ∧ ∀ p, s.evictee = some p → (∃ r, s.record p = some r ∧ s.evictable r = true)
        ∧ ∃ l₁ l₂, s.table.recency = l₁ ++ p :: l₂ ∧ ∀ q ∈ l₂, ∀ r, s.record q = some r → s.evictable r = false

/-- PASS INSERT of a pass that has a record (R17) and PASS DROP (R18), by the condition of the record: in flight BUSY; HELD
DOUBLE or HELD BY OTHER; SETTLED refuses a replacement; unreported or collected days refuse a drop; else the product fields are
replaced and the record moves to the recency head, or the record is removed. Nothing else of the table changes.
Model choices it rests on: log entries 5 and 14. -/
def Obligations.ReplaceAndDropByTheRecordsCondition : Prop :=
  (∀ (o : Origin) (a : InsertArgs) (r : PassRecord) (s : State), HasClaim o (.passInsert a) s → checkInsert a = none →
    s.record a.pass = some r →
    (r.inFlight.isSome = true → exec (.passInsert o) s = .next ((s.serve o).busy o))
    ∧ (r.inFlight = none → r.state = .held → exec (.passInsert o) s = .next ((s.serve o).fail o
        (if s.holder a.pass = some o then .double else .heldByOther) (some a.pass) none))
    ∧ (r.inFlight = none → r.state = .settled →
        exec (.passInsert o) s = .next ((s.serve o).fail o .settled (some a.pass) none))
    ∧ (r.inFlight = none → r.state = .active ∨ r.state = .revoked → ∀ cls kind, classOfCode a.cls = some cls →
        kindOfCode a.kind = some kind →
        ∃ u : State, exec (.passInsert o) s = .next (u.complete o (img1 1 ++ img1 r.state.code))
          ∧ u.record a.pass = some { r with
              cls := cls, kind := kind, entitled := if kind = .season then 0 else a.entitled, first := a.first,
              last := a.last, used := joinDays r.used a.used }
          ∧ OtherRecords a.pass s u ∧ u.table.recency = a.pass :: s.table.recency.filter (· != a.pass)
          ∧ { u.table with records := s.table.records, recency := s.table.recency } = served o s.table
          ∧ { u with table := (s.serve o).table } = s.serve o))
  ∧ (∀ (o : Origin) (p : Nat) (r : PassRecord) (s : State), HasClaim o (.passDrop p) s → badPass p = false →
    s.record p = some r →
    (r.inFlight.isSome = true → exec (.passDrop o) s = .next ((s.serve o).busy o))
    ∧ (r.inFlight = none → r.state = .held → exec (.passDrop o) s = .next ((s.serve o).fail o
        (if s.holder p = some o then .double else .heldByOther) (some p) none))
    ∧ (r.inFlight = none → r.state ≠ .held → r.unreported ≠ 0 →
        exec (.passDrop o) s = .next ((s.serve o).fail o .unreported (some p) none))
    ∧ (r.inFlight = none → r.state ≠ .held → r.unreported = 0 → s.settlement.collected p = true →
        exec (.passDrop o) s = .next ((s.serve o).fail o .collectionOpen (some p) none))
    ∧ (r.inFlight = none → r.state ≠ .held → r.unreported = 0 → s.settlement.collected p = false →
        ∃ u : State, exec (.passDrop o) s = .next (u.complete o []) ∧ u.record p = none ∧ OtherRecords p s u
          ∧ u.table.recency = s.table.recency.filter (· != p)
          ∧ { u with table := (s.serve o).table } = s.serve o
          ∧ { u.table with records := s.table.records, recency := s.table.recency } = served o s.table))
  ∧ (∀ (o : Origin) (s : State), s.serve o = { s with table := served o s.table })

/-- PASS FIND (R20, R21): the request begins its walk at the start number; each step examines the next 64 records upward, or
fewer where the count or the table leaves fewer; the first that matches, or with invert the first that does not, answers FOUND; with none ahead the
answer is COMPLETE with no pass; at the count's end it names the record the walk would examine next; otherwise the walk goes
on above the last record examined. No step changes a record. A record matches when it meets all six criteria.
Model choices it rests on: log entries 10, 14, 16, 28 and 36. -/
def Obligations.SearchExaminesInSteps : Prop :=
  (∀ (o : Origin) (a : FindArgs) (s : State), HasClaim o (.passFind a) s → checkFind a = none →
    exec (.passFind o) s = .next (s.setStage o (.finding a.start (if a.count = 0 then none else some a.count))))
  ∧ (∀ (o : Origin) (a : FindArgs) (above : Nat) (left : Option Nat) (answerable : Bool) (ahead : List PassRecord)
      (n : Nat) (s : State),
    (s.context o).inFlight = some { request := .passFind a, answerable := answerable, stage := .finding above left } →
    s.hasTurn o = true → ahead = s.table.records.filter (fun r => decide (above ≤ r.pass)) →
    n = min 64 (left.getD 64) →
    (∀ r, (ahead.take n).find? (fun r => a.matches s.clock.day r != a.invert) = some r →
      exec (.passFindStep o) s = .next ((s.serve o).found o (imgPass (some r.pass))))
    ∧ ((∀ r ∈ ahead.take n, a.matches s.clock.day r = a.invert) →
      (ahead.drop n = [] → exec (.passFindStep o) s = .next ((s.serve o).complete o (imgPass none ++ imgPass none)))
      ∧ ∀ r rest, ahead.drop n = r :: rest →
        (left = some n → exec (.passFindStep o) s =
          .next ((s.serve o).complete o (imgPass none ++ imgPass (some r.pass))))
        ∧ (left ≠ some n → ∀ last, (ahead.take n).getLast? = some last → exec (.passFindStep o) s =
          .next (((s.serve o).setStage o (.finding (last.pass + 1) (left.map (· - n)))).submitClaim o))))
  ∧ (∀ (a : FindArgs) (today : Nat) (r : PassRecord), a.matches today r = true ↔
      a.states.getLsbD r.state.code = true ∧ a.classes.getLsbD r.cls.code = true
        ∧ (a.kind = 2 ∨ a.kind = r.kind.code) ∧ a.minRefundable ≤ r.refundable today
        ∧ (a.unreported = true → r.unreported ≠ 0) ∧ (a.usedToday = true → hasDay r.used today = true))

/-- The checks of the table requests, failing (R14, R18, R19, R20, R111, R112, R116, R117, R120): the request ends FAILED with
the code and the fields its rule names, the argument checks of PASS INSERT and PASS FIND in their orders. A PASS FIND with bad arguments ends so without serving its origin. A table request of
whatever kind without the turn waits, changing nothing (R12).
TABLE CLEAR begins when all its conditions hold (R23), and otherwise fails with the first that does not.
Model choices it rests on: log entries 1, 5, 10 and 17. -/
def Obligations.TableRequestsWaitFailOrBeginAClear : Prop :=
  (∀ (o : Origin) (s : State), HasClaim o .tableClear s →
    (s.table.sweep.running = true → exec (.tableClear o) s = .next ((s.serve o).busy o))
    ∧ (s.table.sweep.running = false →
      ((∃ l, s.lanePresent l = true ∧ (s.laneAt l).state ≠ .closed) →
        exec (.tableClear o) s = .next ((s.serve o).fail o .notReady none none))
      ∧ ((∀ l, s.lanePresent l = true → (s.laneAt l).state = .closed) →
        (s.settlement.queue ≠ [] → exec (.tableClear o) s = .next ((s.serve o).fail o .unreported none none))
        ∧ (s.settlement.queue = [] → s.settlement.holds ≠ [] →
            exec (.tableClear o) s = .next ((s.serve o).fail o .heldByOther none none))
        ∧ (s.settlement.queue = [] → s.settlement.holds = [] → s.settlement.collection.isSome = true →
            exec (.tableClear o) s = .next ((s.serve o).fail o .collectionOpen none none))
        ∧ (s.settlement.queue = [] → s.settlement.holds = [] → s.settlement.collection = none →
            ∃ u : State, exec (.tableClear o) s = .next (u.setStage o .clearing)
              ∧ u = { s.serve o with table := { (s.serve o).table with clear := some { removed := 0, orphan := false } } }))))
  ∧ (∀ a : InsertArgs, checkInsert a =
      if a.pass = 0 ∨ 4294967294 < a.pass then some 4
      else if 3 < a.cls then some 8
      else if 1 < a.kind then some 9
      else if a.kind = 0 ∧ (a.entitled < 1 ∨ 30 < a.entitled) then some 10
      else if 239 < a.first then some 11
      else if 239 < a.last then some 12
      else if a.last < a.first then some 11
      else none)
  ∧ (∀ a : FindArgs, checkFind a =
      if a.states = 0 then some 10
      else if a.classes = 0 then some 11
      else if a.start = 4294967295 then some 4
      else if 8192 < a.count then some 8
      else if 2 < a.kind then some 12
      else if 240 < a.minRefundable then some 13
      else none)
  ∧ (∀ (o : Origin) (s : State),
    (∀ a off, HasClaim o (.passInsert a) s → checkInsert a = some off →
      exec (.passInsert o) s = .next ((s.serve o).fail o .badArgument (some a.pass) (blockField off)))
    ∧ (∀ p, HasClaim o (.passDrop p) s → badPass p = true →
      exec (.passDrop o) s = .next ((s.serve o).fail o .badArgument (some p) none))
    ∧ (∀ p, HasClaim o (.passDrop p) s → badPass p = false → s.record p = none →
      exec (.passDrop o) s = .next ((s.serve o).fail o .notResident (some p) none))
    ∧ (∀ p, HasClaim o (.passRead p) s →
      (badPass p = true → exec (.passRead o) s = .next ((s.serve o).fail o .badArgument none none))
      ∧ (badPass p = false → s.record p = none →
        exec (.passRead o) s = .next ((s.serve o).fail o .notResident none none)))
    ∧ (∀ a off, HasClaim o (.passFind a) s → checkFind a = some off →
      exec (.passFind o) s = .next ((s.dropClaim o).fail o .badArgument none (blockField off)))
    ∧ (∀ p, HasClaim o (.refundHold p) s →
      (badPass p = true → exec (.refundHold o) s = .next ((s.serve o).fail o .badArgument none (blockField 4)))
      ∧ (badPass p = false → s.record p = none →
        exec (.refundHold o) s = .next ((s.serve o).fail o .notResident (some p) none)))
    ∧ (∀ p refunded, HasClaim o (.refundSettle p refunded) s →
      (badPass p = true → exec (.refundSettle o) s = .next ((s.serve o).fail o .badArgument none (blockField 4)))
      ∧ (badPass p = false → 240 < refunded →
        exec (.refundSettle o) s = .next ((s.serve o).fail o .badArgument none (blockField 8)))
      ∧ (badPass p = false → refunded ≤ 240 → s.record p = none →
        exec (.refundSettle o) s = .next ((s.serve o).fail o .notResident (some p) none)))
    ∧ (∀ p, HasClaim o (.refundRelease p) s →
      (badPass p = true → exec (.refundRelease o) s = .next ((s.serve o).fail o .badArgument none none))
      ∧ (badPass p = false → s.record p = none →
        exec (.refundRelease o) s = .next ((s.serve o).fail o .notResident (some p) none)))
    ∧ (s.hasTurn o = false → ∀ r, Waits o r s → ∀ i, (r, i) ∈ ([
        (.tableSize, .tableSize o), (.tableClear, .tableClear o)] : List (Request × Instr))
        ∨ (∃ a, r = .passInsert a ∧ i = .passInsert o) ∨ (∃ p, r = .passRead p ∧ i = .passRead o)
        ∨ (∃ p, r = .passDrop p ∧ i = .passDrop o) ∨ (∃ a, r = .passFind a ∧ i = .passFind o)
        ∨ (∃ n es, r = .dayMerge n es ∧ i = .dayMerge o) ∨ (∃ a, r = .revokeLoad a ∧ i = .revokeLoad (.own o))
        ∨ (∃ st n, r = .revokeRead st n ∧ i = .revokeRead o) ∨ (∃ p, r = .refundHold p ∧ i = .refundHold o)
        ∨ (∃ p n, r = .refundSettle p n ∧ i = .refundSettle o) ∨ (∃ p, r = .refundRelease p ∧ i = .refundRelease o)
        ∨ (∃ n, r = .usageCollect n ∧ i = .usageCollect o) ∨ (∃ n d, r = .usageConfirm n d ∧ i = .usageConfirm o) →
        exec i s = .next s))

/-- A clear step (R23, R24, R27): taken when no other claim waits, or while a clear left by a warm reset runs, before any other claim;
it removes the resident record of lowest pass number from both orders, with a hold that a REFUND HOLD already in flight has placed
on it; on an empty table it ends the clear, answering COMPLETE with the number removed, but for a clear left by a warm reset, which
is not answered; the revocation list and all else stay. While another claim waits it changes nothing; the further claims of a DAY
MERGE or PASS FIND under way do not hold it back (R13).
Whose turn it is (R11, R12): of the waiting lanes the first after the last lane served, counting round; then the settlement unit;
then an origin, of two that wait the one not served last, and of the office's claims the one submitted first; then a step. A
lane's claim without its turn does nothing.
Model choices it rests on: log entries 1, 5, 9, 10 and 26. -/
def Obligations.ClearStepRemovesTheLowest : Prop :=
  (∀ (c : Clear) (s : State), s.table.clear = some c →
    (s.mayStep = true ∨ c.orphan = true →
      (∀ r rest, s.table.records = r :: rest → s.table.IndexOk →
        exec .clearStep s = .next { s with
          table := { s.table with
            records := rest, recency := s.table.recency.filter (· != r.pass),
            clear := some { removed := c.removed + 1, orphan := c.orphan } },
          settlement := { s.settlement with holds := s.settlement.holds.filter (·.pass != r.pass) } }
        ∧ ∀ x ∈ rest, r.pass < x.pass)
      ∧ (s.table.records = [] →
        (c.orphan = false → exec .clearStep s =
          .next (State.complete .station (img2 c.removed) { s with table := { s.table with clear := none } }))
        ∧ (c.orphan = true → exec .clearStep s = .next { s with table := { s.table with clear := none } })
        ∧ (s.table.IndexOk → s.table.recency = [])))
    ∧ (s.mayStep = false → c.orphan = false → exec .clearStep s = .next s)
    ∧ (c.orphan = true → s.turn = .orphanClear ∧ ∀ o, s.hasTurn o = false))
  ∧ (∀ s : State, s.table.clear = none → exec .clearStep s = .next s)
  ∧ (∀ s : State, s.mayStep = true ↔ (∀ c, s.table.clear = some c → c.orphan = false) ∧ (∀ l, s.laneWaits l = false)
      ∧ s.settlement.lapseClaim = none
      ∧ (s.originWaits .station = true → ∃ f, s.decoder.station.inFlight = some f ∧ f.underWay = true)
      ∧ ∀ c ∈ s.table.officeClaims, c = .own ∧ ∃ f, s.decoder.office.inFlight = some f ∧ f.underWay = true)
  ∧ (∀ (f : InFlight), f.underWay = true ↔ (∃ todo done, f.stage = .merging todo done ∧ done ≠ [])
      ∨ ∃ above left a, f.stage = .finding above left ∧ f.request = .passFind a ∧ above ≠ a.start)
  ∧ (∀ s : State, (∀ c, s.table.clear = some c → c.orphan = false) →
    (∀ l, s.turn = .lane l ↔ s.laneWaits l = true
      ∧ ∃ i : Fin 8, l = s.table.lastLane + 1 + i ∧ ∀ j, j < i → s.laneWaits (s.table.lastLane + 1 + j) = false)
    ∧ (s.turn = .settlement ↔ (∀ l, s.laneWaits l = false) ∧ s.settlement.lapseClaim.isSome = true)
    ∧ (∀ o, s.turn = .origin o ↔ (∀ l, s.laneWaits l = false) ∧ s.settlement.lapseClaim = none
      ∧ s.originWaits o = true ∧ (s.originWaits (otherOrigin o) = true → s.table.lastOrigin = otherOrigin o))
    ∧ (s.turn = .background ↔ (∀ l, s.laneWaits l = false) ∧ s.settlement.lapseClaim = none
      ∧ ∀ o, s.originWaits o = false))
  ∧ (∀ s : State, (s.hasTurn .station = true ↔ s.turn = .origin .station)
    ∧ (s.hasTurn .office = true ↔ s.turn = .origin .office ∧ s.table.officeClaims.head? = some .own)
    ∧ (s.originWaits .office = true ↔ s.table.officeClaims ≠ [])
    ∧ (s.originWaits .station = true ↔ ∃ f, s.decoder.station.inFlight = some f ∧ f.request.isTable = true
      ∧ f.stage.claims = true)
    ∧ ∀ l, (s.laneWaits l = true ↔ s.lanePresent l = true
        ∧ ((s.laneAt l).state = .deciding ∨ (s.laneAt l).ending ≠ .none))
      ∧ (s.turn ≠ .lane l → exec (.decisionClaim l) s = .next s ∧ exec (.commitClaim l) s = .next s
        ∧ exec (.withdrawClaim l) s = .next s))

/-! ## The revocation list -/

/-- An accepted REVOKE LOAD (R99, R100), addressed or by broadcast: the list becomes the carried one, or for a merge its union
with the list held; the generation advances by one, 65535 followed by 0; a sweep starts from the lowest pass number with its
counts 0; no record changes. An addressed one answers with the new length, the numbers added and removed, and the generation.
A REVOKE LOAD that is not accepted changes no list (R97, R98, R99, R101): BUSY while a sweep or a TABLE CLEAR runs, else FAILED LIST
FULL for a count above 2048, BAD LIST naming the first bad entry, or LIST FULL where the resulting list would exceed 2048; a broadcast one is not answered, writes no condition record, and is not applied.
Model choices it rests on: log entries 9, 14 and 17. -/
def Obligations.LoadsReplaceTheListOrLeaveIt : Prop :=
  (∀ (a : LoadArgs) (list : List Nat) (s : State), s.table.sweep.running = false → s.clearing = false →
    judgeLoad s.table.revoked a = .accepted list →
    (∀ o, HasClaim o (.revokeLoad a) s →
      exec (.revokeLoad (.own o)) s = .next (State.complete o
          (img2 list.length ++ img2 (list.countP fun p => !s.table.revoked.contains p)
            ++ img2 (s.table.revoked.countP fun p => !list.contains p)
            ++ img2 (if s.table.generation < 65535 then s.table.generation + 1 else 0))
          { s.serve o with table := { (s.serve o).table with
              revoked := list, generation := if s.table.generation < 65535 then s.table.generation + 1 else 0,
              sweep := { running := true, position := none, revokedCount := 0, restoredCount := 0 } } }))
    ∧ (∀ rest, s.table.officeClaims = .broadcastLoad a :: rest → s.turn = .origin .office →
      exec (.revokeLoad .broadcast) s = .next { s with table := { s.table with
        revoked := list, generation := if s.table.generation < 65535 then s.table.generation + 1 else 0,
        sweep := { running := true, position := none, revokedCount := 0, restoredCount := 0 },
        lastOrigin := .office, officeClaims := rest } })
    ∧ (a.merge = false → list = a.entries)
    ∧ (a.merge = true → ∀ p, p ∈ list ↔ p ∈ s.table.revoked ∨ p ∈ a.entries))
  ∧ (∀ (a : LoadArgs) (s : State),
    (∀ o, HasClaim o (.revokeLoad a) s →
      (s.table.sweep.running = true ∨ s.clearing = true →
        exec (.revokeLoad (.own o)) s = .next ((s.serve o).busy o))
      ∧ (s.table.sweep.running = false → s.clearing = false → judgeLoad s.table.revoked a = .listFull →
        exec (.revokeLoad (.own o)) s = .next ((s.serve o).fail o .listFull none none))
      ∧ (s.table.sweep.running = false → s.clearing = false → ∀ i, judgeLoad s.table.revoked a = .badList i →
        exec (.revokeLoad (.own o)) s =
          .next ((s.serve o).fail o .badList none (some { kind := .entry, index := i }))))
    ∧ (∀ rest, s.table.officeClaims = .broadcastLoad a :: rest → s.turn = .origin .office →
      s.table.sweep.running = true ∨ s.clearing = true ∨ (∀ list, judgeLoad s.table.revoked a ≠ .accepted list) →
      exec (.revokeLoad .broadcast) s =
        .next { s with table := { s.table with lastOrigin := .office, officeClaims := rest } }))
  ∧ (∀ (a : LoadArgs) (held : List Nat),
    (2048 < a.count → judgeLoad held a = .listFull)
    ∧ (a.count ≤ 2048 →
      (∀ i, judgeLoad held a = .badList i ↔ BadAt a.entries i ∧ ∀ j, j < i → ¬ BadAt a.entries j)
      ∧ (a.entries.Pairwise (· < ·) → (∀ e ∈ a.entries, badPass e = false) →
        (a.merge = false →
          judgeLoad held a = if 2048 < a.entries.length then .listFull else .accepted a.entries)
        ∧ (a.merge = true → ∃ union : List Nat, (∀ p, p ∈ union ↔ p ∈ held ∨ p ∈ a.entries)
          ∧ (held.Pairwise (· < ·) → union.Pairwise (· < ·))
          ∧ judgeLoad held a = if 2048 < union.length then .listFull else .accepted union))))
  ∧ (∀ es : List Nat, (∀ i, ¬ BadAt es i) ↔ es.Pairwise (· < ·) ∧ ∀ e ∈ es, badPass e = false)

/-- A sweep step (R102, R103, R104): taken when no other claim waits but the further claims of a DAY MERGE or
PASS FIND under way (R12, R13, R145), it deals with the resident record of lowest pass number above the
position, and with none exactly when there is none: an ACTIVE record on the list with no PENDING hold becomes REVOKED, a REVOKED one off the list ACTIVE, each counted,
and nothing else of any record changes; with no record above, the sweep ends and a SWEEP notice is raised with the counts. While another claim waits, or no sweep runs, it changes nothing.
Model choices it rests on: log entries 1, 8 and 10. -/
def Obligations.SweepBringsRecordsIntoLine : Prop :=
  (∀ s : State, s.table.sweep.running = true → s.mayStep = true →
    (∀ r, s.table.sweepTarget = some r → s.record r.pass = some r →
      ∃ t : State, exec .sweepStep s = .next t ∧ { t with table := s.table } = s ∧ OtherRecords r.pass s t
        ∧ t.table.recency = s.table.recency ∧ t.table.revoked = s.table.revoked
        ∧ t.table.generation = s.table.generation ∧ t.table.clear = s.table.clear
        ∧ t.record r.pass = some { r with
            state :=
              if r.state = .active ∧ s.table.listed r.pass = true ∧ s.settlement.pending r.pass = false then .revoked
              else if r.state = .revoked ∧ s.table.listed r.pass = false then .active else r.state }
        ∧ t.table.sweep = {
            running := true, position := some r.pass,
            revokedCount := s.table.sweep.revokedCount
              + (if r.state = .active ∧ s.table.listed r.pass = true ∧ s.settlement.pending r.pass = false then 1 else 0),
            restoredCount := s.table.sweep.restoredCount
              + (if r.state = .revoked ∧ s.table.listed r.pass = false then 1 else 0) })
    ∧ (s.table.sweepTarget = none →
      exec .sweepStep s = .next { s with
        table := { s.table with sweep := { s.table.sweep with running := false, position := none } },
        decoder := { s.decoder with tableMsgs := s.decoder.tableMsgs ++
          [.sweep s.table.generation s.table.sweep.revokedCount s.table.sweep.restoredCount] } }))
  ∧ (∀ s : State, s.table.sweep.running = false ∨ s.mayStep = false → exec .sweepStep s = .next s)
  ∧ (∀ t : Table, t.IndexOk →
    (∀ r, t.sweepTarget = some r ↔ r ∈ t.records ∧ AboveSweep t r ∧ ∀ x ∈ t.records, AboveSweep t x → r.pass ≤ x.pass)
    ∧ (t.sweepTarget = none ↔ ∀ x ∈ t.records, ¬ AboveSweep t x))

/-! ## Refund holds -/

/-- REFUND HOLD on a pass with no hold that passes its tests (R112, R113, R114): not in flight, the record becomes HELD with hold
lapsed clear, the hold HELD with its deadline, HOLD PLACED is handed and the answer COMPLETE; in flight, a PENDING entry joins
the tail and the request waits, or ends where its answer cannot be sent (log entry 23). The tests fail in their order.
Model choices it rests on: log entries 5, 13, 14, 17, 23 and 34. -/
def Obligations.HoldsArePlaced : Prop :=
  ∀ (o : Origin) (p : Nat) (r : PassRecord) (s : State), HasClaim o (.refundHold p) s →
    badPass p = false → s.record p = some r →
    (∀ e, s.settlement.hold p = some e → exec (.refundHold o) s = .next ((s.serve o).fail o
        (if e.owner = o then .double else .heldByOther) (some p) none))
    ∧ (s.settlement.hold p = none → r.state = .revoked ∨ r.state = .settled →
      exec (.refundHold o) s = .next ((s.serve o).fail o
        (if r.state = .revoked then .revoked else .settled) (some p) none))
    ∧ (s.settlement.hold p = none → r.state ≠ .revoked → r.state ≠ .settled →
      (16 ≤ s.settlement.holds.length ∨ (16 ≤ (s.countedPasses o).length ∧ p ∉ s.countedPasses o) →
        exec (.refundHold o) s = .next ((s.serve o).fail o .holdListFull (some p) none))
      ∧ (s.settlement.holds.length < 16 → (s.countedPasses o).length < 16 ∨ p ∈ s.countedPasses o →
        (r.inFlight = none →
          ∃ u : State, exec (.refundHold o) s = .next (u.complete o (u.holdAnswer p false))
            ∧ u.record p = some { r with state := .held, holdLapsed := false } ∧ OtherRecords p s u
            ∧ u.settlement.hold p = some {
                pass := p, owner := o, phase := .held,
                deadline := some (s.now + s.decoder.profile.holdLapse * 60000), placedAt := s.now }
            ∧ (∀ q, q ≠ p → u.settlement.hold q = s.settlement.hold q)
            ∧ u.tally.inbox = s.tally.inbox ++ [[holdEvent .holdPlaced r]]
            ∧ u.table.recency = s.table.recency ∧ u.clock = s.clock ∧ u.lanes = s.lanes ∧ u.decoder = s.decoder
            ∧ u.port = s.port ∧ u.link = s.link ∧ u.settlement.queue = s.settlement.queue
            ∧ u.settlement.collection = s.settlement.collection)
        ∧ (r.inFlight.isSome = true →
          ∃ u : State, u = { s.serve o with settlement := { s.settlement with
              holds := s.settlement.holds ++
                [{ pass := p, owner := o, phase := .pending, deadline := none, placedAt := s.now }] } }
            ∧ ((s.context o).inFlight.any (·.answerable) = true →
                exec (.refundHold o) s = .next (u.setStage o (.pendingHold p)))
            ∧ ((s.context o).inFlight.any (·.answerable) = false →
                exec (.refundHold o) s = .next (u.updContext o fun c => { c with inFlight := none })))))

/-- REFUND SETTLE and REFUND RELEASE of the origin's own HELD hold (R117 to R120): a settle makes the record SETTLED with its
unreported days emptied, takes the pass out of the report queue, voids its collection entry and hands SETTLED; a release gives
the record the state the list asks for; both remove the hold and answer COMPLETE. The shared tests fail in their order.
Model choices it rests on: log entries 5, 8, 14 and 17. -/
def Obligations.HoldsAreSettledAndReleased : Prop :=
  ∀ (o : Origin) (p : Nat) (r : PassRecord) (s : State), badPass p = false → s.record p = some r →
    (∀ refunded, HasClaim o (.refundSettle p refunded) s → refunded ≤ 240 →
      (∀ e, s.settlement.hold p = some e → e.owner = o → e.phase = .held →
        (r.refundable s.clock.day < refunded → exec (.refundSettle o) s =
          .next ((s.serve o).fail o .badArgument (some p) (blockField 8)))
        ∧ (refunded ≤ r.refundable s.clock.day → s.table.listed p = true → exec (.refundSettle o) s =
          .next ((s.serve o).fail o .revoked (some p) none))
        ∧ (refunded ≤ r.refundable s.clock.day → s.table.listed p = false →
          ∃ u : State, exec (.refundSettle o) s = .next (u.complete o
              (imgPass (some p) ++ img1 refunded ++ img1 (r.refundable s.clock.day) ++ imgDays r.used
                ++ imgDays r.unreported ++ img1 (s.settlement.tagNaming p)))
            ∧ u.record p = some { r with state := .settled, unreported := 0 } ∧ OtherRecords p s u
            ∧ u.settlement.hold p = none ∧ (∀ q, q ≠ p → u.settlement.hold q = s.settlement.hold q)
            ∧ u.settlement.queue = s.settlement.queue.filter (· != p)
            ∧ u.settlement.collection = s.settlement.collection.map (fun c => { c with
                entries := c.entries.map fun x => if x.pass = p then { x with void := true } else x })
            ∧ u.tally.inbox = s.tally.inbox ++ [[holdEvent .settled r]] ∧ u.table.recency = s.table.recency
            ∧ u.clock = s.clock ∧ u.lanes = s.lanes ∧ u.decoder = s.decoder ∧ u.port = s.port ∧ u.link = s.link))
      ∧ (∀ e, s.settlement.hold p = some e → e.owner ≠ o → exec (.refundSettle o) s =
          .next ((s.serve o).fail o .heldByOther (some p) none))
      ∧ (∀ e, s.settlement.hold p = some e → e.owner = o → e.phase = .pending →
          exec (.refundSettle o) s = .next ((s.serve o).busy o))
      ∧ (s.settlement.hold p = none → exec (.refundSettle o) s = .next ((s.serve o).fail o
          (if r.state = .settled then .settled else if r.holdLapsed then .holdLapsed
            else if r.state = .revoked then .revoked else .noHold) (some p) none)))
    ∧ (HasClaim o (.refundRelease p) s →
      (∀ e, s.settlement.hold p = some e → e.owner = o → e.phase = .held →
        ∃ u : State, exec (.refundRelease o) s = .next (u.complete o
            (imgPass (some p) ++ img1 (if s.table.listed p then 3 else 0)))
          ∧ u.record p = some { r with state := if s.table.listed p then .revoked else .active } ∧ OtherRecords p s u
          ∧ u.settlement = { s.settlement with holds := s.settlement.holds.filter fun x => x.pass != p }
          ∧ u.table.recency = s.table.recency ∧ u.tally = s.tally ∧ u.clock = s.clock ∧ u.lanes = s.lanes
          ∧ u.decoder = s.decoder ∧ u.port = s.port ∧ u.link = s.link)
      ∧ (∀ e, s.settlement.hold p = some e → e.owner ≠ o → exec (.refundRelease o) s =
          .next ((s.serve o).fail o .heldByOther (some p) none))
      ∧ (∀ e, s.settlement.hold p = some e → e.owner = o → e.phase = .pending →
          exec (.refundRelease o) s = .next ((s.serve o).busy o))
      ∧ (s.settlement.hold p = none → exec (.refundRelease o) s = .next ((s.serve o).fail o
          (if r.state = .settled then .settled else if r.holdLapsed then .holdLapsed
            else if r.state = .revoked then .revoked else .noHold) (some p) none)))

/-- The lapse of a hold (R121, R122, R123): at the first HELD entry's deadline its lapse claim is submitted; the claim removes the
hold, gives the record the state the list asks for with hold lapsed set, and raises LAPSE for the owner; nothing else of the
table changes and no event is handed. A claim that finds no HELD entry of its pass with its deadline reached changes nothing but
itself. The lapse timer is then that of the first HELD entry. A claim without its turn, or a timer not due, does nothing.
Model choices it rests on: log entries 1 and 8. -/
def Obligations.HoldsLapseAtTheirDeadline : Prop :=
  (∀ (e : HoldEntry) (s : State), (s.settlement.holds.find? fun x => x.phase == .held) = some e → Expired s e.deadline →
    s.settlement.lapseClaim = none →
    exec .lapseTimerExpiry s = .next { s with settlement := { s.settlement with lapseClaim := some e.pass } })
  ∧ (∀ (p : Nat) (e : HoldEntry) (r : PassRecord) (s : State), s.settlement.lapseClaim = some p →
    s.turn = .settlement → s.settlement.hold p = some e → e.phase = .held → Expired s e.deadline →
    s.record p = some r →
    ∃ t : State, exec .lapseClaim s = .next t
      ∧ t.record p = some { r with state := if s.table.listed p then .revoked else .active, holdLapsed := true }
      ∧ OtherRecords p s t ∧ t.settlement.holds = s.settlement.holds.filter (fun x => x.pass != p)
      ∧ LapseSet t t.settlement.lapseClaim
      ∧ { t.settlement with holds := s.settlement.holds, lapseClaim := s.settlement.lapseClaim } = s.settlement
      ∧ { t.table with records := s.table.records } = s.table
      ∧ t.decoder = { s.decoder with settlementMsgs := s.decoder.settlementMsgs ++
          [{ owner := e.owner, notice := .lapse p (if s.table.listed p then .revoked else .active) s.stamp }] }
      ∧ t.tally = s.tally ∧ t.clock = s.clock ∧ t.lanes = s.lanes ∧ t.port = s.port ∧ t.link = s.link)
  ∧ (∀ (p : Nat) (s : State), s.settlement.lapseClaim = some p → s.turn = .settlement →
    (∀ e, s.settlement.hold p = some e → e.phase = .pending ∨ ¬ Expired s e.deadline) →
    ∃ claim, exec .lapseClaim s = .next { s with settlement := { s.settlement with lapseClaim := claim } }
      ∧ LapseSet s claim)
  ∧ (∀ s : State,
    (s.settlement.lapseClaim = none ∨ s.turn ≠ .settlement → exec .lapseClaim s = .next s)
    ∧ (s.settlement.lapseClaim.isSome = true ∨ LapseSet s none → exec .lapseTimerExpiry s = .next s))

/-! ## Usage and merging -/

/-- USAGE COLLECT (R134, R135): with an empty queue it answers with tag 0 and changes nothing; else it opens a collection with the
tag after the last, 255 followed by 1, of the first passes of the report queue with their unreported days; no record and no
queue place changes. A count above 64, an open collection, or an answer that cannot be sent, fails it in this order.
Model choices it rests on: log entries 5 and 14. -/
def Obligations.CollectOpensACollection : Prop :=
  ∀ (o : Origin) (count : Nat) (s : State), HasClaim o (.usageCollect count) s →
    (64 < count → exec (.usageCollect o) s = .next ((s.serve o).fail o .badArgument none (blockField 4)))
    ∧ (count ≤ 64 →
    (s.settlement.collection.isSome = true →
      exec (.usageCollect o) s = .next ((s.serve o).fail o .collectionOpen none none))
    ∧ (s.settlement.collection = none → (s.context o).inFlight.any (!·.answerable) = true →
      exec (.usageCollect o) s = .next ((s.serve o).fail o .lineDown none none))
    ∧ (s.settlement.collection = none → (s.context o).inFlight.any (!·.answerable) = false →
      (s.settlement.queue = [] → exec (.usageCollect o) s =
        .next ((s.serve o).complete o (img1 0 ++ img2 0 ++ img2 0)))
      ∧ (s.settlement.queue ≠ [] → ∀ rs tag,
        rs = (s.settlement.queue.take (if count = 0 then 64 else count)).filterMap s.record →
        tag = (if s.settlement.lastTag < 255 then s.settlement.lastTag + 1 else 1) →
        exec (.usageCollect o) s = .next (State.complete o
          (img1 tag ++ img2 rs.length ++ img2 s.settlement.queue.length ++ (rs.map collectImage).flatten)
          { s.serve o with settlement := { s.settlement with
            collection := some {
              tag := tag, entries := rs.map fun r => { pass := r.pass, carried := r.unreported, void := false } },
            lastTag := tag } }))))

/-- USAGE CONFIRM of the open collection's tag, and its voiding (R137 to R140): a confirm removes each entry's carried days from its
record's unreported days, void entries passed over; a pass left with none leaves the queue, one with some moves to its tail, in
entry order; a discard and a voiding change no record and no queue; each closes the collection. Another tag fails NO
COLLECTION.
Model choices it rests on: log entries 5, 8 and 14. -/
def Obligations.ConfirmAndDiscardClose : Prop :=
  (∀ (o : Origin) (tag : Nat) (discard : Bool) (s : State), HasClaim o (.usageConfirm tag discard) s →
    (s.settlement.collection.all (·.tag != tag) = true →
      exec (.usageConfirm o) s = .next ((s.serve o).fail o .noCollection none none))
    ∧ (∀ c, s.settlement.collection = some c → c.tag = tag → discard = true →
      exec (.usageConfirm o) s = .next (State.complete o
        (img1 tag ++ img2 0 ++ img2 0 ++ img2 0 ++ img2 0 ++ img2 s.settlement.queue.length)
        { s.serve o with settlement := { s.settlement with collection := none } }))
    ∧ (∀ (c : Collection) (live gone moved : List CollectionEntry), s.settlement.collection = some c → c.tag = tag →
      discard = false → (c.entries.map (·.pass)).Nodup → live = c.entries.filter (fun e => !e.void) →
      (∀ e ∈ live, (s.record e.pass).isSome = true) →
      gone = live.filter (fun e => (s.record e.pass).any fun r => withoutDays r.unreported e.carried == 0) →
      moved = live.filter (fun e => (s.record e.pass).any fun r => withoutDays r.unreported e.carried != 0) →
      ∃ u : State, exec (.usageConfirm o) s = .next (u.complete o
          (img1 tag ++ img2 live.length ++ img2 (c.entries.length - live.length) ++ img2 gone.length
            ++ img2 moved.length ++ img2 u.settlement.queue.length))
        ∧ (∀ e ∈ live, ∀ r, s.record e.pass = some r →
            u.record e.pass = some { r with unreported := withoutDays r.unreported e.carried })
        ∧ (∀ q, (∀ e ∈ live, e.pass ≠ q) → u.record q = s.record q)
        ∧ u.settlement = { s.settlement with
            collection := none,
            queue := s.settlement.queue.filter (fun q => live.all (·.pass != q)) ++ moved.map (·.pass) }
        ∧ u.table.recency = s.table.recency ∧ u.clock = s.clock ∧ u.lanes = s.lanes ∧ u.tally = s.tally
        ∧ u.decoder = s.decoder ∧ u.port = s.port ∧ u.link = s.link))
  ∧ (∀ s : State, 0 < s.settlement.drops → exec .collectionVoid s =
      .next { s with settlement := { s.settlement with drops := s.settlement.drops - 1, collection := none } })

/-- DAY MERGE (R141 to R144): it takes its entries one claim each; an entry whose pass has a record joins its days into the used
days and nothing else, also past the entitlement; an entry with a bad pass or a day above 239, or whose pass has no record,
changes nothing; the last entry's claim answers with all outcomes. A count of 0 or above 128 fails BAD ARGUMENT and no entry is applied.
Model choices it rests on: log entries 10 and 14. -/
def Obligations.MergeJoinsDays : Prop :=
  (∀ (o : Origin) (count : Nat) (entries : List MergeEntry) (s : State), HasClaim o (.dayMerge count entries) s →
    (1 ≤ count → count ≤ 128 → exec (.dayMerge o) s = .next (s.setStage o (.merging entries [])))
    ∧ (count = 0 ∨ 128 < count → exec (.dayMerge o) s = .next ((s.dropClaim o).fail o .badArgument none (blockField 4))))
  ∧ (∀ (o : Origin) (e : MergeEntry) (todo : List MergeEntry) (done : List MergeResult) (s : State),
    s.stage o = some (.merging (e :: todo) done) → s.hasTurn o = true →
    ∃ (u : State) (m : MergeResult), m.pass = e.pass
      ∧ (todo = [] → exec (.dayMergeEntry o) s = .next (u.complete o (mergeImage (done ++ [m]))))
      ∧ (todo ≠ [] → exec (.dayMergeEntry o) s =
          .next ((u.setStage o (.merging todo (done ++ [m]))).submitClaim o))
      ∧ { u with table := (s.serve o).table } = s.serve o ∧ OtherRecords e.pass s u
      ∧ u.table.recency = s.table.recency
      ∧ (badPass e.pass = true ∨ e.days >>> 240 ≠ 0 → u = s.serve o ∧ m.outcome = .badArgument)
      ∧ (badPass e.pass = false → e.days >>> 240 = 0 → s.record e.pass = none →
          u.record e.pass = none ∧ m.outcome = .notResident)
      ∧ (badPass e.pass = false → e.days >>> 240 = 0 → ∀ r, s.record e.pass = some r →
          u.record e.pass = some { r with used := joinDays r.used (e.days.setWidth 240) }
          ∧ m = { pass := e.pass, outcome := .merged, added := sizeDays (withoutDays (e.days.setWidth 240) r.used),
                  overdrawn := r.kind == .days
                    && decide (r.entitled < sizeDays (joinDays r.used (e.days.setWidth 240))),
                  state := some r.state }))

/-! ## The tally unit -/

/-- TALLY EVENT (R149 to R154): every counter is judged as it stood: one that counts advances by one up to 4,294,967,295; one whose
advance reaches its threshold crosses, with the time; a counter whose arm source crosses is armed; a crossing with action NOTICE
or PACE raises one TALLY, in ascending counter number; each present lane is told of a change of its pacing; the event leaves the inbox, and nothing else changes.
Model choices it rests on: log entries 8 and 35. -/
def Obligations.EventsAreCounted : Prop :=
  (∀ (batch : Nat) (e : Event) (rest : List Event) (s : State), s.tally.inbox[batch]? = some (e :: rest) →
    ∃ t : State, exec (.tallyEvent batch) s = .next t
      ∧ (∀ (k : CounterNo) (c : Counter), c = s.tally.counters[k] →
          (t.tally.counters[k]).program = c.program
          ∧ (t.tally.counters[k]).value =
              (if c.counts s.presentLanes e = true ∧ c.value < 4294967295 then c.value + 1 else
                if c.counts s.presentLanes e = true then 4294967295 else c.value)
          ∧ (CrossesAt s.presentLanes e c →
              (t.tally.counters[k]).crossed = true ∧ (t.tally.counters[k]).crossedAt = some s.stamp)
          ∧ (¬ CrossesAt s.presentLanes e c →
              (t.tally.counters[k]).crossed = c.crossed ∧ (t.tally.counters[k]).crossedAt = c.crossedAt)
          ∧ ((t.tally.counters[k]).armed = true ↔ c.armed = true ∨ (c.program.kind.isSome = true
              ∧ ∃ j, c.program.armSource = some j ∧ CrossesAt s.presentLanes e s.tally.counters[j])))
      ∧ t.tally.inbox = (if rest = [] then s.tally.inbox.eraseIdx batch else s.tally.inbox.set batch rest)
      ∧ { t.tally with counters := s.tally.counters, inbox := s.tally.inbox } = s.tally
      ∧ t.decoder.tallyMsgs = s.decoder.tallyMsgs ++ (List.finRange 12).flatMap (fun k =>
          if CrossesAt s.presentLanes e s.tally.counters[k] ∧ (s.tally.counters[k]).program.action ≠ .none then
            [.tally k (s.tally.counters[k]).program.action (s.tally.counters[k]).program.threshold s.stamp]
          else [])
      ∧ { t.decoder with tallyMsgs := s.decoder.tallyMsgs } = s.decoder
      ∧ PacingTold s t ∧ t.pending = s.pending
      ∧ t.clock = s.clock ∧ t.table = s.table ∧ t.settlement = s.settlement ∧ t.port = s.port ∧ t.link = s.link)
  ∧ (∀ (present : List LaneNo) (e : Event) (c : Counter), c.counts present e = true ↔
      c.program.kind = some e.kind
        ∧ (∀ l, e.lane = some l → c.program.lanes.getLsbD l = true)
        ∧ (e.lane = none → ∀ l ∈ present, c.program.lanes.getLsbD l = true)
        ∧ (∀ k, e.cls = some k → c.program.classes.getLsbD k.code = true) ∧ (e.cls = none → c.program.classes = 0xF)
        ∧ (e.kind = .refused → ∃ r, e.reason = some r ∧ c.program.reasons.getLsbD r.code = true)
        ∧ (c.program.armSource = none ∨ c.armed = true) ∧ ¬(c.crossed = true ∧ c.program.freeze = true))

/-- TALLY PROGRAM and TALLY CLEAR (R163, R164, R165): a program that passes its tests replaces the counter's and zeroes it; a clear
zeroes each counter of its mask and keeps its program; the other counters stay, each present lane is told of a change of its
pacing, which is by the enabled, crossed PACE counters whose masks select it (R154), nothing else changes, and the answer is COMPLETE. A program that fails a test changes nothing; the tests are made in their order.
HISTORY READ (R161, R167): the records from the origin's cursor on, oldest first, at most 8; without peek the cursor passes
them, and those both cursors have passed are retired, which loses the other origin nothing; with peek nothing changes. A count above 8 fails BAD ARGUMENT.
Model choices it rests on: log entries 5, 8, 14 and 17. -/
def Obligations.TallyRequestsAct : Prop :=
  ((∀ (o : Origin) (n : Nat) (bs : List Byte) (s : State), Waits o (.tallyProgram n bs) s →
    (12 ≤ n → exec (.tallyProgram o) s = .next (s.fail o .badArgument none (blockField 4)))
    ∧ (∀ (k : CounterNo) off, k.val = n → checkProgram s.badLaneMask k bs = .error off →
      exec (.tallyProgram o) s = .next (s.fail o .badArgument none (dataField off)))
    ∧ (∀ (k : CounterNo) p, k.val = n → checkProgram s.badLaneMask k bs = .ok p →
      ∃ u : State, exec (.tallyProgram o) s = .next (u.complete o
          (img1 n ++ p.image ++ img4 0 ++ imgFlag false ++ imgTime none ++ imgFlag false))
        ∧ (u.tally.counters[k]) = { value := 0, crossed := false, crossedAt := none, armed := false, program := p }
        ∧ (∀ j : CounterNo, j ≠ k → u.tally.counters[j] = s.tally.counters[j])
        ∧ { u.tally with counters := s.tally.counters } = s.tally
        ∧ PacingTold s u ∧ { u with tally := s.tally, lanes := s.lanes } = s))
  ∧ (∀ (o : Origin) (mask : CounterMask) (s : State), Waits o (.tallyClear mask) s →
    (mask = 0 → exec (.tallyClear o) s = .next (s.fail o .badArgument none none))
    ∧ (mask ≠ 0 → ∃ u : State, exec (.tallyClear o) s = .next (u.complete o
          (imgList ((countersOf mask).map fun k => (u.tally.counters[k]).image)))
        ∧ (∀ k : CounterNo, mask.getLsbD k = true → u.tally.counters[k] =
            { value := 0, crossed := false, crossedAt := none, armed := false,
              program := (s.tally.counters[k]).program })
        ∧ (∀ k : CounterNo, mask.getLsbD k = false → u.tally.counters[k] = s.tally.counters[k])
        ∧ { u.tally with counters := s.tally.counters } = s.tally
        ∧ PacingTold s u ∧ { u with tally := s.tally, lanes := s.lanes } = s)))
  ∧ (∀ (u : Tally) (l : LaneNo), u.paces l = true ↔ ∃ k : CounterNo, (u.counters[k]).program.kind.isSome = true
      ∧ (u.counters[k]).program.action = .pace ∧ (u.counters[k]).crossed = true
      ∧ (u.counters[k]).program.lanes.getLsbD l = true)
  ∧ (∀ (badLanes : LaneMask → Bool) (k : CounterNo) (bs : List Byte), checkProgram badLanes k bs =
      if byteAt bs 2 &&& 0xF0 ≠ 0 then .error 2
      else if byteAt bs 5 &&& 0xE0 ≠ 0 then .error 5
      else if byteAt bs 7 &&& 0xF8 ≠ 0 then .error 7
      else if byteAt bs 12 ≠ 0 then .error 12
      else if byteAt bs 13 ≠ 0 then .error 13
      else if byteAt bs 14 ≠ 0 then .error 14
      else if byteAt bs 15 ≠ 0 then .error 15
      else match eventKindOfCode (byteAt bs 0).toNat with
        | none => .error 0
        | some none => .ok .disabled
        | some (some kind) =>
          if badLanes (byteAt bs 1) then .error 1
          else if byteAt bs 2 = 0 then .error 2
          else if kind = .refused ∧ fieldAt bs 4 2 = 0 ∨ kind ≠ .refused ∧ fieldAt bs 4 2 ≠ 0 then .error 4
          else if 2 < (byteAt bs 3).toNat then .error 3
          else if ((byteAt bs 3).toNat ≠ 0 ∨ (byteAt bs 7).getLsbD 0 = true) ∧ fieldAt bs 8 4 = 0 then .error 8
          else if byteAt bs 6 ≠ 0xFF ∧ (11 < (byteAt bs 6).toNat ∨ (byteAt bs 6).toNat = k.val) then .error 6
          else .ok {
            kind := some kind, lanes := byteAt bs 1, classes := (byteAt bs 2).setWidth 4,
            reasons := BitVec.ofNat 13 (fieldAt bs 4 2), threshold := fieldAt bs 8 4,
            action := if byteAt bs 3 = 0 then .none else if byteAt bs 3 = 1 then .notice else .pace,
            freeze := (byteAt bs 7).getLsbD 0,
            armSource := if h : (byteAt bs 6).toNat < 12 then some ⟨(byteAt bs 6).toNat, h⟩ else none,
            interval := (byteAt bs 7).getLsbD 1, history := (byteAt bs 7).getLsbD 2 })
  ∧ (∀ (o : Origin) (count : Nat) (peek : Bool) (s : State), Waits o (.historyRead count peek) s → 8 < count →
    exec (.historyRead o) s = .next (s.fail o .badArgument none none))
  ∧ (∀ (o : Origin) (count : Nat) (peek : Bool) (got : List IntervalRecord) (s : State),
    Waits o (.historyRead count peek) s → count ≤ 8 →
    got = (s.tally.ring.drop (s.tally.cursor o)).take (if count = 0 then 8 else count) →
    (peek = true → exec (.historyRead o) s = .next (s.complete o
      (img2 got.length ++ img2 (s.tally.ring.length - s.tally.cursor o) ++ (got.map (·.image)).flatten)))
    ∧ (peek = false → ∃ u : State, exec (.historyRead o) s = .next (u.complete o
        (img2 got.length ++ img2 (s.tally.ring.length - s.tally.cursor o - got.length)
          ++ (got.map (·.image)).flatten))
      ∧ u.tally.ring.drop (u.tally.cursor o) = (s.tally.ring.drop (s.tally.cursor o)).drop got.length
      ∧ u.tally.ring.drop (u.tally.cursor (otherOrigin o)) = s.tally.ring.drop (s.tally.cursor (otherOrigin o))
      ∧ (u.tally.stationCursor = 0 ∨ u.tally.officeCursor = 0) ∧ u.tally.counters = s.tally.counters
      ∧ { u with tally := s.tally } = s))

/-! ## The decoder -/

/-- NOTICE PLACEMENT and MISS NOTICE REMOVAL (R183, R184): the decoder takes the block's oldest message; LANE and TALLY go to each
origin whose watch mask selects them, MISS and SWEEP to the office, LAPSE to the hold's owner, LINK to a station that has its
flag set; a notice updates in place one of its kind and subject, with changed-again set, or joins the tail; a removal takes the
lane's MISS notice out of the office queue and leaves the others.
Model choices it rests on: log entry 8. -/
def Obligations.NoticesAreFilteredAndCoalesced : Prop :=
  ∀ s : State,
    (∀ n rest, s.decoder.laneMsgs = .notice n :: rest → ∃ t : State, exec (.noticePlacement .laneController) s = .next t
      ∧ t = (match n with
          | .miss _ _ => State.placeFor .office n { s with decoder := { s.decoder with laneMsgs := rest } }
          | _ => State.placeWatched n { s with decoder := { s.decoder with laneMsgs := rest } }))
    ∧ (∀ n rest, s.decoder.tallyMsgs = n :: rest → exec (.noticePlacement .tallyUnit) s =
        .next (State.placeWatched n { s with decoder := { s.decoder with tallyMsgs := rest } }))
    ∧ (∀ m rest, s.decoder.settlementMsgs = m :: rest → exec (.noticePlacement .settlementUnit) s =
        .next (State.placeFor m.owner m.notice { s with decoder := { s.decoder with settlementMsgs := rest } }))
    ∧ (∀ n rest, s.decoder.linkMsgs = n :: rest → exec (.noticePlacement .officeLink) s =
        .next (if s.decoder.station.watch.link then
            State.placeFor .station n { s with decoder := { s.decoder with linkMsgs := rest } }
          else { s with decoder := { s.decoder with linkMsgs := rest } }))
    ∧ (∀ n rest, s.decoder.tableMsgs = n :: rest → exec (.noticePlacement .tableEngine) s =
        .next (State.placeFor .office n { s with decoder := { s.decoder with tableMsgs := rest } }))
    ∧ (∀ l rest, s.decoder.laneMsgs = .removeMiss l :: rest → ∃ t : State, exec .missNoticeRemoval s = .next t
      ∧ t = { s with
          decoder := { s.decoder with laneMsgs := rest },
          link := { s.link with queue := s.link.queue.filter fun q => !q.notice.isMissOf l } })
    ∧ (∀ n, (s.placeFor .station n).port = Port.present { s.port with queue := placeNotice n s.port.queue }
        ∧ (s.placeFor .office n).link = Link.pump { s.link with queue := placeNotice n s.link.queue }
        ∧ s.placeWatched n =
            (if s.decoder.office.watch.selects n then State.placeFor .office n else id)
              ((if s.decoder.station.watch.selects n then State.placeFor .station n else id) s))
    ∧ (∀ n q, (∀ x ∈ q, x.notice.sameSubject n = false) →
        placeNotice n q = q ++ [{ notice := n, changedAgain := false }])
    ∧ (∀ n q₁ x q₂, (∀ y ∈ q₁, y.notice.sameSubject n = false) → x.notice.sameSubject n = true →
        placeNotice n (q₁ ++ x :: q₂) = q₁ ++ { notice := n, changedAgain := true } :: q₂)

/-- The requests the decoder itself carries out (R177, R180, R182, R186): PROFILE SET applies its pairs in order when every pair
passes its tests, and none when one fails, the first failing pair named; an item count of 0 or above 32 fails; WATCH SET replaces the origin's watch mask; CONDITION READ gives the condition record
and empties it; MARK WARM sets the warm marker and clears table retained. Each answers COMPLETE and changes nothing else.
Model choices it rests on: log entries 5, 14 and 17. -/
def Obligations.DecoderRequestsAct : Prop :=
  (∀ (o : Origin) (s : State),
    (∀ count pairs, Waits o (.profileSet count pairs) s →
      (count = 0 ∨ 32 < count → exec (.profileSet o) s = .next (s.fail o .badArgument none (blockField 4)))
      ∧ (1 ≤ count → count ≤ 32 → ∀ i p cc, pairs[i]? = some p → pairFault o s p = some cc →
        (∀ q ∈ pairs.take i, pairFault o s q = none) →
        exec (.profileSet o) s = .next (s.fail o cc none (some { kind := .item, index := i })))
      ∧ (1 ≤ count → count ≤ 32 → (∀ q ∈ pairs, pairFault o s q = none) → ∃ u : State, exec (.profileSet o) s =
          .next (u.complete o u.profileImage)
        ∧ u = { s with decoder := { s.decoder with profile := pairs.foldl Profile.apply s.decoder.profile } }))
    ∧ (∀ lanes counters link, Waits o (.watchSet lanes counters link) s →
      (o = .office → link = true → exec (.watchSet o) s = .next (s.fail o .badArgument none (blockField 1)))
      ∧ (o = .station ∨ link = false → ∃ u : State, exec (.watchSet o) s =
          .next (u.complete o (u.snapshot { lanes := lanes, counters := counters, link := link }))
        ∧ (u.context o).watch = { lanes := lanes, counters := counters, link := link }
        ∧ (u.context o).inFlight = (s.context o).inFlight ∧ (u.context o).condition = (s.context o).condition
        ∧ u.context (otherOrigin o) = s.context (otherOrigin o)
        ∧ { u.decoder with station := s.decoder.station, office := s.decoder.office } = s.decoder
        ∧ { u with decoder := s.decoder } = s))
    ∧ (Waits o .conditionRead s → ∃ u : State, exec (.conditionRead o) s =
        .next (u.complete o (conditionImage (s.context o).condition))
      ∧ (u.context o).condition = none ∧ (u.context o).inFlight = (s.context o).inFlight
      ∧ (u.context o).watch = (s.context o).watch ∧ u.context (otherOrigin o) = s.context (otherOrigin o)
      ∧ { u.decoder with station := s.decoder.station, office := s.decoder.office } = s.decoder
      ∧ { u with decoder := s.decoder } = s)
    ∧ (Waits o .markWarm s → ∃ u : State, exec (.markWarm o) s = .next (u.complete o u.readyImage)
      ∧ u = { s with decoder := { s.decoder with warmMarker := true, tableRetained := false } }))
  ∧ ∀ (pr : Profile) (lane value : Nat), pr.apply ⟨1, lane, value⟩ = { pr with passback := value }
    ∧ pr.apply ⟨2, lane, value⟩ = { pr with window := value } ∧ pr.apply ⟨3, lane, value⟩ = { pr with limit := value }
    ∧ pr.apply ⟨4, lane, value⟩ = { pr with missWait := value }
    ∧ pr.apply ⟨5, lane, value⟩ = { pr with missFetch := value == 1 }
    ∧ pr.apply ⟨6, lane, value⟩ = { pr with holdLapse := value }
    ∧ pr.apply ⟨7, lane, value⟩ = { pr with tallyInterval := value }
    ∧ (∀ l : LaneNo, l.val = lane → pr.apply ⟨8, lane, value⟩ = { pr with
        readPolicy := pr.readPolicy.set l (if value = 1 then .strict else if value = 2 then .notify else .lenient) })
    ∧ (∀ l : LaneNo, l.val = lane → pr.apply ⟨9, lane, value⟩ = { pr with
        laneClasses := pr.laneClasses.set l (BitVec.ofNat 4 value) })
    ∧ pr.apply ⟨10, lane, value⟩ = { pr with insertRight := value == 1 }
    ∧ pr.apply ⟨11, lane, value⟩ = { pr with settleRight := value == 1 }

/-- Request blocks at the decoder (R172, R173, R177), from either port: BUSY and not taken while the origin has a request in flight,
or an office answer to a taken request waits; a block that fails a check is answered FAILED with its condition record, and nothing
else changes; the checks are, in order, the code, the flags, the argument bytes, the length, which a count outside its own range
leaves to the port's limit alone, and the permission; one that passes is in flight, answerable, and a table request is an office claim behind those that wait.
The record is emptied as a request other than CONDITION READ is taken. A table request taken while a TABLE CLEAR runs is
answered BUSY and ends (R23, R27).
Model choices it rests on: log entries 9, 17, 18 and 31. -/
def Obligations.BlocksAreTakenOrAnswered : Prop :=
  ∀ (o : Origin) (block : List Byte) (s : State),
    (s.originBusy o = true → ∀ a : Answer,
      a = { requestCode := (byteAt block 0).toNat, status := .busy, condition := none, data := [] } →
      s.deliver o block = match o with
        | .station => { s with port := s.port.takeAnswer a }
        | .office => { s with link := s.link.takeAnswer { answer := a, taken := false } })
    ∧ (s.originBusy o = false → ∀ cc fd, checkBlock s.decoder.profile o block = .failed cc fd →
      EndsWith o true
        { requestCode := (byteAt block 0).toNat, status := .failed,
          condition := some { code := cc, requestCode := (byteAt block 0).toNat, pass := none, field := fd }, data := [] }
        s (s.deliver o block))
    ∧ (s.originBusy o = false → ∀ r, checkBlock s.decoder.profile o block = .passed r →
      r.isTable = false ∨ s.clearing = false →
      ((s.deliver o block).context o).inFlight = some { request := r, answerable := true, stage := .waiting }
      ∧ ((s.deliver o block).context o).condition =
          (if (byteAt block 0).toNat = 0x41 then (s.context o).condition else none)
      ∧ (s.deliver o block).context (otherOrigin o) = s.context (otherOrigin o)
      ∧ (s.deliver o block).table = { s.table with
          officeClaims := if o = .office ∧ r.isTable = true then s.table.officeClaims ++ [.own]
            else s.table.officeClaims }
      ∧ (s.deliver o block).settlement = s.settlement ∧ (s.deliver o block).clock = s.clock
      ∧ (s.deliver o block).lanes = s.lanes ∧ (s.deliver o block).tally = s.tally
      ∧ (s.deliver o block).port = s.port ∧ (s.deliver o block).link = s.link)
    ∧ (s.originBusy o = false → ∀ r, checkBlock s.decoder.profile o block = .passed r → r.isTable = true →
      s.clearing = true →
      ((s.deliver o block).context o).inFlight = none ∧ ((s.deliver o block).context o).condition = none
      ∧ (s.deliver o block).context (otherOrigin o) = s.context (otherOrigin o)
      ∧ { s.deliver o block with
          decoder := s.decoder, port := s.port, link := s.link } = s
      ∧ (o = .station → (s.deliver o block).link = s.link
        ∧ (s.deliver o block).port = s.port.takeAnswer
            { requestCode := r.code, status := .busy, condition := none, data := [] })
      ∧ (o = .office → (s.deliver o block).port = s.port
        ∧ (s.deliver o block).link = s.link.takeAnswer { taken := true, answer :=
            { requestCode := r.code, status := .busy, condition := none, data := [] } }))
    ∧ (∀ p : Profile,
      (codeRow (byteAt block 0).toNat = none → checkBlock p o block = .failed .invalidField (blockField 0))
      ∧ ∀ row, codeRow (byteAt block 0).toNat = some row →
        (byteAt block 1 &&& ~~~row.flags ≠ 0 → checkBlock p o block = .failed .invalidField (blockField 1))
        ∧ (byteAt block 1 &&& ~~~row.flags = 0 →
          (∀ i, i < 12 → ArgsGood row block i → ¬ ArgsGood row block (i + 1) →
            checkBlock p o block = .failed .invalidField (blockField (4 + i)))
          ∧ (ArgsGood row block 12 →
            (¬ LengthGood row o block → checkBlock p o block = .failed .invalidField (blockField 2))
            ∧ (LengthGood row o block →
              (¬ MayAsk p o row.permission → checkBlock p o block = .failed .notPermitted none)
              ∧ (MayAsk p o row.permission → ∃ r, requestOf block = some r ∧ r.code = (byteAt block 0).toNat
                ∧ checkBlock p o block = .passed r)))))
    ∧ (∀ code, countArg code =
        if code = 0x13 then some { offset := 8, width := 2, lo := 0, hi := 8192 }
        else if code = 0x20 then some { offset := 4, width := 2, lo := 1, hi := 128 }
        else if code = 0x21 then some { offset := 4, width := 2, lo := 0, hi := 2048 }
        else if code = 0x22 then some { offset := 6, width := 2, lo := 0, hi := 256 }
        else if code = 0x27 then some { offset := 4, width := 1, lo := 0, hi := 64 }
        else if code = 0x37 then some { offset := 4, width := 1, lo := 1, hi := 32 }
        else if code = 0x3C then some { offset := 4, width := 1, lo := 0, hi := 8 }
        else none)
    ∧ (s.originBusy o = true ↔ (s.context o).inFlight.isSome = true ∨ (o = .office ∧ ∃ x ∈ s.link.answers, x.taken = true))

/-! ## The station port -/

/-- Port control and the request window (R190 to R192, R194): a write takes ERROR CLEAR, OUTPUT TAKEN, ABORT, REQUEST in that order;
REQUEST grants the window when no answer waits, else makes the grant pending, and while FILLING starts the fill again with
PROTOCOL ERROR; ABORT discards a partial block, clears a pending grant and reaches the station's long request; a word fills the block
up to its target, and the word that completes it hands the block to the decoder and ends the grant, the fill count and target
standing; a word while IDLE is an error.
An ABORT of either origin (R25, R115, R175): a REFUND HOLD or TABLE CLEAR whose claim waits loses the claim and ends FAILED ABORTED, a
PENDING hold is removed and a running clear stopped, each ending so; with no long request it does nothing.
Model choices it rests on: log entries 5, 7 and 32. -/
def Obligations.ThePortTakesARequest : Prop :=
  (∀ s : State,
    (∀ w : Word, w.getLsbD 0 = true → w.getLsbD 1 = false → w.getLsbD 2 = false → w.getLsbD 3 = false →
      (s.port.filling = true → exec (.request w) s = .next { s with port := { s.port with
        protocolError := true, fill := [], target := 16 } })
      ∧ (s.port.filling = false → s.port.answerWaits = true →
        exec (.request w) s = .next { s with port := { s.port with grantPending := true } })
      ∧ (s.port.filling = false → s.port.answerWaits = false →
        exec (.request w) s = .next { s with port := { s.port with filling := true, fill := [], target := 16 } }))
    ∧ (∀ w : Word, w.getLsbD 0 = false → w.getLsbD 1 = false → w.getLsbD 2 = false →
      exec (.errorClear w) s = .next { s with port := { s.port with protocolError := false } })
    ∧ (∀ w : Word, w.getLsbD 0 = false → w.getLsbD 2 = false → w.getLsbD 3 = false →
      exec (.abort w) s = .next (State.abortEvent .station { s with port :=
        if s.port.filling then { s.port with filling := false, fill := [], target := 16, grantPending := false }
        else { s.port with grantPending := false } }))
    ∧ (∀ w : Word, exec (.request (w ||| 1)) s = .next ((s.writeControl (w &&& 14)).writeControl 1)
        ∧ exec (.abort (w ||| 2)) s =
            .next (((s.writeControl (w &&& 12)).writeControl 2).writeControl (w &&& 1))
        ∧ exec (.outputTaken (w ||| 4)) s =
            .next (((s.writeControl (w &&& 8)).writeControl 4).writeControl (w &&& 3))
        ∧ exec (.errorClear (w ||| 8)) s = .next ((s.writeControl 8).writeControl (w &&& 7)))
    ∧ (∀ w : Word, s.port.filling = false →
        exec (.requestWindow w) s = .next { s with port := { s.port with protocolError := true } })
    ∧ (∀ (w : Word) (block : List Byte) (target : Nat), s.port.filling = true →
        block = (s.port.fill ++ [w.setWidth 8, (w >>> 8).setWidth 8]).take s.port.target →
        target = (if block.length = 4 then (if fieldAt block 2 2 ≤ 1024 then 16 + fieldAt block 2 2 else 16)
          else s.port.target) →
        (block.length < target → exec (.requestWindow w) s =
          .next { s with port := { s.port with fill := block, target := target } })
        ∧ (target ≤ block.length → exec (.requestWindow w) s = .next (State.deliver .station block
          { s with port := { s.port with filling := false, fill := block, target := target } }))))
  ∧ (∀ (o : Origin) (f : InFlight) (s : State), (s.context o).inFlight = some f →
    (∀ p, f.request = .refundHold p → f.stage = .waiting →
      s.abortEvent o = (s.dropClaim o).fail o .aborted (some p) none)
    ∧ (∀ p q, f.request = .refundHold p → f.stage = .pendingHold q → s.abortEvent o = State.fail o .aborted (some q) none
        { s with settlement := { s.settlement with holds := s.settlement.holds.filter fun e => e.pass != q } })
    ∧ (f.request = .tableClear → f.stage = .waiting → s.abortEvent o = (s.dropClaim o).fail o .aborted none none)
    ∧ (f.request = .tableClear → f.stage = .clearing →
        s.abortEvent o = State.fail o .aborted none none { s with table := { s.table with clear := none } })
    ∧ ((∀ p, f.request ≠ .refundHold p) → f.request ≠ .tableClear → s.abortEvent o = s))
  ∧ (∀ (o : Origin) (s : State), (s.context o).inFlight = none → s.abortEvent o = s)
  ∧ (∀ s : State, s.dropClaim .station = s
      ∧ s.dropClaim .office = { s with table := { s.table with
          officeClaims := s.table.officeClaims.filter (· ≠ .own) } })

/-- Reading output and the rest of the port (R189, R193, R195): a read of the output window gives the next word, low byte first, and
moves on; past the end or with nothing presented it gives 0 and sets PROTOCOL ERROR; OUTPUT TAKEN empties the window, presents
the next answer, else the next notice, and gives a pending grant once no answer is left; writes of words 2 and 3 change nothing;
misused transfers of the SPI personality set PROTOCOL ERROR alone. A read of word 0 gives the status, of word 1 0000h, of word 3 the
straps. An SPI transfer is a write or a read of the word its command byte selects, taken with its third byte; it is short before
that, and bad with a reserved bit set; the part sends the word low byte first and 00h after the third byte.
Model choices it rests on: log entries 1, 7 and 21. -/
def Obligations.ThePortGivesItsOutput : Prop :=
  ∀ s : State,
    (s.port.window = none → exec .outputWindow s = .next { s with port := { s.port with
      readData := 0, protocolError := true } })
    ∧ (∀ x, s.port.window = some x →
      (2 * x.position < x.item.bytes.length → exec .outputWindow s = .next { s with port := { s.port with
        readData := (byteAt x.item.bytes (2 * x.position + 1)) ++ (byteAt x.item.bytes (2 * x.position)),
        window := some { x with position := x.position + 1 } } })
      ∧ (x.item.bytes.length ≤ 2 * x.position → exec .outputWindow s = .next { s with port := { s.port with
        readData := 0, protocolError := true } }))
    ∧ (∀ w : Word, w.getLsbD 0 = false → w.getLsbD 1 = false → w.getLsbD 3 = false →
      (s.port.window = none → exec (.outputTaken w) s = .next { s with port := { s.port with protocolError := true } })
      ∧ (∀ x a rest, s.port.window = some x → s.port.answers = a :: rest → exec (.outputTaken w) s =
          .next { s with port := { s.port with answers := rest, window := some { item := .answer a, position := 0 } } })
      ∧ (∀ x, s.port.window = some x → s.port.answers = [] → s.port.grantPending = false →
          exec (.outputTaken w) s = .next { s with port := { s.port with
            queue := s.port.queue.tail,
            window := s.port.queue.head?.map fun q => { item := .notice q, position := 0 } } })
      ∧ (∀ x, s.port.window = some x → s.port.answers = [] → s.port.grantPending = true →
          exec (.outputTaken w) s = .next { s with port := { s.port with
            queue := s.port.queue.tail,
            window := s.port.queue.head?.map fun q => { item := .notice q, position := 0 },
            grantPending := false, filling := true, fill := [], target := 16 } }))
    ∧ (∀ word value, exec (.ignoredWrite word value) s = .next s)
    ∧ (s.port.spi = true →
        exec .shortTransfer s = .next { s with port := { s.port with protocolError := true } }
        ∧ ∀ command : Byte, command &&& 0x7C ≠ 0 →
          exec (.badCommandByte command) s = .next { s with port := { s.port with protocolError := true } })
    ∧ (s.port.spi = false → exec .shortTransfer s = .next s ∧ ∀ command, exec (.badCommandByte command) s = .next s)
    ∧ (s.port.readWord 0 = s.port.status ∧ s.port.readWord 1 = 0 ∧ s.port.readWord 3 = s.port.strapWord
      ∧ ∃ t : State, exec .outputWindow s = .next t ∧ t.port.readData = s.port.readWord 2)
    ∧ (∀ (command low high : Byte) (rest : List Byte), spiAccess (command :: low :: high :: rest) =
        if command &&& 0x7C ≠ 0 then .bad command
        else if command.getLsbD 7 then .write (command.setWidth 2) (high ++ low) else .read (command.setWidth 2))
    ∧ (∀ bytes : List Byte, bytes.length < 3 → spiAccess bytes = .short)
    ∧ (∀ (value : Word) (n : Nat), spiSent value (n + 2) =
        [value.setWidth 8, (value >>> 8).setWidth 8] ++ List.replicate n 0)
    ∧ (∀ (command : Byte) (word : BitVec 2) (value : Word), PortAccess.command .short = some .shortTransfer
      ∧ PortAccess.command (.bad command) = some (.badCommandByte command)
      ∧ PortAccess.command (.read word) = (if word = 2 then some .outputWindow else none)
      ∧ PortAccess.command (.write word value) =
        if word = 0 then
          if value.getLsbD 0 then some (.request value)
          else if value.getLsbD 1 then some (.abort value)
          else if value.getLsbD 2 then some (.outputTaken value)
          else if value.getLsbD 3 then some (.errorClear value)
          else none
        else if word = 1 then some (.requestWindow value) else some (.ignoredWrite word value))

/-! ## The office link -/

/-- LINK OPEN and LINK CLOSE (R200, R201): an open of a line that is DOWN stores the settings and leads on to ARMED, STARTING or UP by
the inputs as read; a close of a line in use drops it with reason CLOSE, its answers and slots discarded, the office's request no
longer answerable; in DROPPING it makes the close pending. Each answers COMPLETE with the line state; the other states fail. An open's arguments are tested in their order.
Model choices it rests on: log entries 5, 8, 14 and 17. -/
def Obligations.TheLineOpensAndCloses : Prop :=
  (∀ address rate source mode : Nat, checkLinkOpen address rate source mode =
      if address = 0 ∨ address = 255 then some 4
      else if 7 < rate then some 5
      else if 1 < source then some 6
      else if 1 < mode then some 7
      else none)
  ∧ ∀ (o : Origin) (s : State),
    (∀ address rate source mode, Waits o (.linkOpen address rate source mode) s →
      (∀ off, checkLinkOpen address rate source mode = some off →
        exec (.linkOpen o) s = .next (s.fail o .badArgument none (blockField off)))
      ∧ (checkLinkOpen address rate source mode = none → s.link.state ≠ .down →
        exec (.linkOpen o) s = .next (s.fail o .outOfSequence none none))
      ∧ (checkLinkOpen address rate source mode = none → s.link.state = .down →
        ∃ u : State, exec (.linkOpen o) s = .next (u.complete o (img1 u.link.state.code)) ∧ u.context o = s.context o
          ∧ u.link.address = address ∧ u.link.rate = rate ∧ u.link.lineClock = decide (source = 1)
          ∧ u.link.dataOnly = decide (mode = 1)
          ∧ u.link.state = (if mode = 1 ∨ (s.link.lineReady = true ∧ s.link.carrier = true ∧ s.link.clearToSend = true)
              then .up else if s.link.lineReady then .starting else .armed)
          ∧ (u.link.state = .starting → u.link.startTimer = some (s.now + 30000))
          ∧ u.link.lastReason = s.link.lastReason
          ∧ u.decoder = { s.decoder with linkMsgs := s.decoder.linkMsgs ++ [.link u.link.state .none] }
          ∧ u.clock = s.clock ∧ u.table = s.table ∧ u.settlement = s.settlement ∧ u.lanes = s.lanes
          ∧ u.tally = s.tally ∧ u.port = s.port))
    ∧ (Waits o .linkClose s →
      (s.link.state = .down → exec (.linkClose o) s = .next (s.fail o .outOfSequence none none))
      ∧ (s.link.state = .dropping → s.link.closePending = true →
        exec (.linkClose o) s = .next (s.fail o .double none none))
      ∧ (s.link.state = .dropping → s.link.closePending = false → exec (.linkClose o) s =
          .next (State.complete o (img1 5) { s with link := { s.link with closePending := true } }))
      ∧ (s.link.state ≠ .down → s.link.state ≠ .dropping →
        ∃ u : State, exec (.linkClose o) s = .next (u.complete o (img1 5))
          ∧ u.link = { s.link with
              state := .dropping, closePending := true, lastReason := .close, startTimer := none, fadeTimer := none,
              dropShort := some (s.now + 250), dropLong := some (s.now + 2000), answers := [], slots := [],
              sending := false }
          ∧ u.lanes = { s.lanes with drops := s.lanes.drops + 1 }
          ∧ u.settlement = { s.settlement with drops := s.settlement.drops + 1 }
          ∧ u.decoder = { s.decoder with
              office := s.decoder.office.lineDropped,
              linkMsgs := s.decoder.linkMsgs ++ [.link .dropping .close] }
          ∧ u.clock = s.clock ∧ u.table = s.table ∧ u.tally = s.tally ∧ u.port = s.port))

/-- The line's inputs (R197, R198) in FULL mode: line-ready rising leads ARMED on, falling drops STARTING, UP and FADING and ends a
drop whose 250 ms have passed; carrier falling in UP fades the line for 2 s and its return brings it UP; carrier or clear-to-send
may complete the start. Each change of state raises one LINK notice; a level that does not change, or a change in DATA ONLY
mode, moves nothing.
The line's timers (R198, R199): the start and fade timers' expiry drops the line with reason NO CARRIER; the 250 ms drop timer's
sets drop short passed, and with line-ready low as read ends the drop; the 2 s drop timer's ends the drop, in DOWN where a close
is pending, else in ARMED and on.
Model choices it rests on: log entries 1, 8 and 20. -/
def Obligations.TheLineMovesByInputsAndTimers : Prop :=
  (∀ s : State,
    (exec (.lineReady s.link.lineReady) s = .next s ∧ exec (.carrier s.link.carrier) s = .next s
      ∧ exec (.clearToSend s.link.clearToSend) s = .next s)
    ∧ (s.link.dataOnly = true → ∀ high,
      exec (.lineReady high) s = .next { s with link := { s.link with lineReady := high } }
      ∧ exec (.carrier high) s = .next { s with link := { s.link with carrier := high } }
      ∧ exec (.clearToSend high) s = .next { s with link := { s.link with clearToSend := high } })
    ∧ (s.link.dataOnly = false →
      (s.link.lineReady = false → s.link.state = .armed → ∃ t : State, exec (.lineReady true) s = .next t
        ∧ t.link.state = (if s.link.carrier = true ∧ s.link.clearToSend = true then .up else .starting)
        ∧ t.decoder.linkMsgs = s.decoder.linkMsgs ++ [.link t.link.state .none] ∧ t.settlement = s.settlement
        ∧ t.lanes = s.lanes ∧ t.table = s.table ∧ t.clock = s.clock ∧ t.port = s.port)
      ∧ (s.link.lineReady = true → s.link.state = .starting ∨ s.link.state = .up ∨ s.link.state = .fading →
        ∃ t : State, exec (.lineReady false) s = .next t ∧ t.link.state = .dropping ∧ t.link.lastReason = .lineReadyLost
          ∧ t.link.answers = [] ∧ t.link.slots = [] ∧ t.link.queue = s.link.queue
          ∧ t.link.dropShort = some (s.now + 250) ∧ t.link.dropLong = some (s.now + 2000)
          ∧ t.decoder.linkMsgs = s.decoder.linkMsgs ++ [.link .dropping .lineReadyLost]
          ∧ t.decoder.office = s.decoder.office.lineDropped ∧ t.settlement.drops = s.settlement.drops + 1
          ∧ t.lanes.drops = s.lanes.drops + 1 ∧ t.table = s.table ∧ t.clock = s.clock ∧ t.port = s.port)
      ∧ (s.link.lineReady = true → s.link.state = .dropping → s.link.shortPassed = true →
        ∃ t : State, exec (.lineReady false) s = .next t
          ∧ t.link.state = (if s.link.closePending then .down else .armed) ∧ t.link.closePending = false
          ∧ t.link.dropShort = none ∧ t.link.dropLong = none ∧ t.link.shortPassed = false
          ∧ t.decoder.linkMsgs = s.decoder.linkMsgs ++ [.link t.link.state .none] ∧ t.settlement = s.settlement
          ∧ t.lanes = s.lanes ∧ t.table = s.table ∧ t.clock = s.clock ∧ t.port = s.port)
      ∧ (s.link.carrier = true → s.link.state = .up → exec (.carrier false) s = .next { s with
          link := { s.link with carrier := false, state := .fading, fadeTimer := some (s.now + 2000) },
          decoder := { s.decoder with linkMsgs := s.decoder.linkMsgs ++ [.link .fading .none] } })
      ∧ (s.link.carrier = false → s.link.state = .fading → ∃ t : State, exec (.carrier true) s = .next t
        ∧ t.link.state = .up ∧ t.link.fadeTimer = none ∧ t.link.carrier = true
        ∧ t.decoder.linkMsgs = s.decoder.linkMsgs ++ [.link .up .none] ∧ t.table = s.table ∧ t.clock = s.clock)
      ∧ (s.link.carrier = false → s.link.state = .starting → s.link.lineReady = true → s.link.clearToSend = true →
        ∃ t : State, exec (.carrier true) s = .next t ∧ t.link.state = .up ∧ t.link.startTimer = none
          ∧ t.link.carrier = true ∧ t.decoder.linkMsgs = s.decoder.linkMsgs ++ [.link .up .none]
          ∧ t.table = s.table ∧ t.clock = s.clock)
      ∧ (s.link.state = .starting ∨ s.link.state = .armed ∨ s.link.state = .dropping → s.link.carrier = true →
        exec (.carrier false) s = .next { s with link := { s.link with carrier := false } })
      ∧ (s.link.clearToSend = false → s.link.state = .starting → s.link.lineReady = true → s.link.carrier = true →
        ∃ t : State, exec (.clearToSend true) s = .next t ∧ t.link.state = .up ∧ t.link.startTimer = none
          ∧ t.link.clearToSend = true ∧ t.decoder.linkMsgs = s.decoder.linkMsgs ++ [.link .up .none]
          ∧ t.table = s.table ∧ t.clock = s.clock)))
  ∧ (∀ s : State,
    ((Expired s s.link.startTimer → s.link.state = .starting → ∃ t : State, exec .startTimerExpiry s = .next t
        ∧ t.link.state = .dropping ∧ t.link.lastReason = .noCarrier ∧ t.link.startTimer = none ∧ t.link.answers = []
        ∧ t.link.dropShort = some (s.now + 250) ∧ t.link.dropLong = some (s.now + 2000)
        ∧ t.decoder.linkMsgs = s.decoder.linkMsgs ++ [.link .dropping .noCarrier]
        ∧ t.decoder.office = s.decoder.office.lineDropped ∧ t.settlement.drops = s.settlement.drops + 1
        ∧ t.lanes.drops = s.lanes.drops + 1 ∧ t.table = s.table ∧ t.clock = s.clock ∧ t.port = s.port)
      ∧ (Expired s s.link.fadeTimer → s.link.state = .fading → ∃ t : State, exec .fadeTimerExpiry s = .next t
        ∧ t.link.state = .dropping ∧ t.link.lastReason = .noCarrier ∧ t.link.fadeTimer = none ∧ t.link.slots = []
        ∧ t.link.queue = s.link.queue ∧ t.decoder.linkMsgs = s.decoder.linkMsgs ++ [.link .dropping .noCarrier]
        ∧ t.settlement.drops = s.settlement.drops + 1 ∧ t.lanes.drops = s.lanes.drops + 1 ∧ t.table = s.table
        ∧ t.clock = s.clock ∧ t.port = s.port))
    ∧ (s.link.state = .dropping → Expired s s.link.dropShort →
      (s.link.readyIn = true → ∃ t : State, exec .dropShortExpiry s = .next t ∧ t =
        { s with link := { s.link with dropShort := none, shortPassed := true } })
      ∧ (s.link.readyIn = false → ∃ t : State, exec .dropShortExpiry s = .next t
        ∧ t.link.state = (if s.link.closePending then .down else .armed) ∧ t.link.closePending = false
        ∧ t.link.dropShort = none ∧ t.link.dropLong = none ∧ t.link.shortPassed = false
        ∧ t.decoder.linkMsgs = s.decoder.linkMsgs ++ [.link t.link.state .none]))
    ∧ (s.link.state = .dropping → Expired s s.link.dropLong → ∃ t : State, exec .dropLongExpiry s = .next t
      ∧ t.link.state = (if s.link.closePending then .down else if s.link.readyIn = false then .armed
          else if s.link.carrierIn = true ∧ s.link.clearIn = true then .up else .starting)
      ∧ t.link.closePending = false ∧ t.link.dropShort = none ∧ t.link.dropLong = none
      ∧ t.decoder.linkMsgs = s.decoder.linkMsgs ++ [.link t.link.state .none]))

/-- Frames (R174, R203, R204, R205): while UP a REQUEST frame is taken as an office request block; a broadcast hands on a CLOCK SET
or a REVOKE LOAD alone, the load not while a TABLE CLEAR runs, and is not answered; an ABORT frame ends the office's long request, and one to 255 does nothing; a frame
that fails its check or form hands FRAME BAD; another lift's frame, or any frame while the line is not UP, does nothing. A frame
sent empties its slot, which is filled again: while the line is UP an empty slot takes the oldest answer, else the notice at the
queue's head, and a frame begins while clear-to-send is high or the mode is DATA ONLY. The check of the bytes 31h to 39h is 29B1h, and escaping is undone exactly.
Model choices it rests on: log entries 6, 9, 21, 22 and 28. -/
def Obligations.FramesAreTakenAndSent : Prop :=
  (∀ s : State, s.link.state = .up →
    (∀ body, requestForm body = true → exec (.requestFrame body) s = .next (s.deliver .office body))
    ∧ (∀ body, requestForm body = true →
      (∀ a, checkBlock s.decoder.profile .office body = .passed (.clockSet a) → exec (.broadcast body) s =
        .next { s with clock := { s.clock with broadcasts := s.clock.broadcasts ++ [a] } })
      ∧ (∀ a, checkBlock s.decoder.profile .office body = .passed (.revokeLoad a) → exec (.broadcast body) s =
        .next (if s.clearing then s
          else { s with table := { s.table with officeClaims := s.table.officeClaims ++ [.broadcastLoad a] } }))
      ∧ ((∀ a, checkBlock s.decoder.profile .office body ≠ .passed (.clockSet a)) →
        (∀ a, checkBlock s.decoder.profile .office body ≠ .passed (.revokeLoad a)) →
        exec (.broadcast body) s = .next s))
    ∧ exec .broadcastAbort s = .next s ∧ exec .abortFrame s = .next (s.abortEvent .office)
    ∧ (∀ p q answerable,
        s.decoder.office.inFlight = some { request := .refundHold q, answerable := answerable, stage := .pendingHold p } →
        exec .abortFrame s = .next (State.fail .office .aborted (some p) none { s with
          settlement := { s.settlement with holds := s.settlement.holds.filter fun e => e.pass != p } }))
    ∧ ((∀ f, s.decoder.office.inFlight = some f → (∀ p, f.request ≠ .refundHold p) ∧ f.request ≠ .tableClear) →
        exec .abortFrame s = .next s)
    ∧ (∀ received, judgeFrame s.link.address received = .bad → exec (.frameDiscarded received) s =
        .next (s.handEvents [{ kind := .frameBad, lane := none, cls := none, reason := none }]))
    ∧ (∀ received, judgeFrame s.link.address received = .other ∨ judgeFrame s.link.address received = .nothing →
        exec (.frameDiscarded received) s = .next s)
    ∧ (∀ f rest, s.link.slots = f :: rest → s.link.sending = true → exec .frameSent s = .next { s with
        link := Link.pump { s.link with
          slots := rest, sending := false, lineOut := s.link.lineOut ++ [[0x7E] ++ escapeBytes f ++ [0x7E]] } }))
  ∧ (∀ s : State, s.link.state ≠ .up → (∀ body, exec (.requestFrame body) s = .next s ∧ exec (.broadcast body) s = .next s)
      ∧ exec .abortFrame s = .next s ∧ exec .broadcastAbort s = .next s
      ∧ ∀ received, exec (.frameDiscarded received) s = .next s)
  ∧ (∀ k : Link,
    (k.state ≠ .up → k.pump = k)
    ∧ (k.state = .up → ∀ answers notices slots : List (List Byte),
        answers = k.answers.map (fun a => frameBytes k.address 2 a.answer.bytes) →
        notices = k.queue.map (fun q => frameBytes k.address 3 q.bytes) →
        slots = k.slots ++ (answers ++ notices).take (2 - k.slots.length) →
        k.pump = { k with
          slots := slots, answers := k.answers.drop (2 - k.slots.length),
          queue := k.queue.drop (2 - k.slots.length - k.answers.length),
          sending := k.sending || (!slots.isEmpty && (k.dataOnly || k.clearToSend)) }))
  ∧ (∀ f, unescapeBytes (escapeBytes f) = some f ∧ ∀ b ∈ escapeBytes f, b ≠ 0x7E)
  ∧ frameCheck [0x31, 0x32, 0x33, 0x34, 0x35, 0x36, 0x37, 0x38, 0x39] = 0x29B1

/-! ## What every step keeps -/

/-- The part is sound after a cold reset. -/
def Obligations.ResetIsSound : Prop := ∀ eight spi ready carrier clear : Bool, ∀ pending : List Instr,
  (State.afterColdReset eight spi ready carrier clear pending).Sound

/-- Every step keeps the clock in its ranges (R28, R29, R31, R33). -/
def Obligations.ClockStaysInRange : Prop := ∀ s t : State, s.clock.Ok → step s = .next t → t.clock.Ok

/-- Every step keeps the records in their ranges, the two orders of the table in agreement, and the revocation list ascending
(R1, R2, R8, R9, R96). -/
def Obligations.TheTableStaysOrdered : Prop :=
  ∀ s t : State, step s = .next t → (s.RecordsOk → t.RecordsOk) ∧ (s.table.IndexOk → t.table.IndexOk)
    ∧ (s.table.ListOk → t.table.ListOk)

/-- Every step keeps each lane's items in agreement with its state, so the gate is released only with an admission whose ending is
not yet submitted, and keeps absent lanes empty (R43, R47, R48, R55 to R57, R80, R82). -/
def Obligations.LanesStayConsistent : Prop :=
  ∀ s t : State, step s = .next t → (s.LanesOk → t.LanesOk) ∧ (s.AbsentOk → t.AbsentOk)

/-- Every step keeps the counters, the history ring and its cursors in their ranges (R147, R152, R160 to R162). -/
def Obligations.TheTallyUnitStaysConsistent : Prop := ∀ s t : State, s.tally.Ok → step s = .next t → t.tally.Ok

/-- Every step keeps one notice of a kind and subject in each queue, at most two answers at the station port, and at most one answer
to a taken request and one BUSY in the office answer list (R172, R184, R190, R192, R205). -/
def Obligations.PortsStayConsistent : Prop :=
  ∀ s t : State, step s = .next t → (s.NoticesOk → t.NoticesOk) ∧ (s.PortOk → t.PortOk)
    ∧ (s.OfficeAnswersOk → t.OfficeAnswersOk)

/-- Every step keeps each line timer running exactly in its state, and nothing waiting that could be in a slot (R197 to R199, R205). -/
def Obligations.TheLineStaysConsistent : Prop := ∀ s t : State, s.link.Ok → step s = .next t → t.link.Ok

/-- Every step of a sound part keeps the in-flight marks and the lanes' admissions naming each other, and while a TABLE
CLEAR runs no sweep, every present lane CLOSED, and nothing unreported or collected (R23, R79, R80); the hold list, empty as a clear
begins, may fill again.
Model choices it rests on: log entry 9. -/
def Obligations.AdmissionsMatchTheirRecords : Prop :=
  ∀ s t : State, s.Sound → step s = .next t → t.FlightOk ∧ t.ClearOk

/-- Every step of a sound part keeps exactly the passes with unreported days in the report queue, each once (R131). -/
def Obligations.TheReportQueueIsExact : Prop := ∀ s t : State, s.Sound → step s = .next t → t.QueueOk

/-- Every step of a sound part keeps the hold list in order, and a record HELD exactly when a HELD entry names it (R109 to R111). -/
def Obligations.HoldsMatchTheirRecords : Prop := ∀ s t : State, s.Sound → step s = .next t → t.HoldsOk

/-- Every step of a sound part keeps the carried days of each entry that is not void among its record's unreported days (R133, R136). -/
def Obligations.CarriedDaysStayUnreported : Prop := ∀ s t : State, s.Sound → step s = .next t → t.CollectionOk

end
end

