-- ==== Sys2Proof/Laws/State.lean ====
section
/-! SUPPORT. Each field of the state after each update of one block, true by rfl. -/

namespace Sys2Proof.Machine

namespace State

variable (s : State)

@[simp] theorem updClock_clock (f : Clock → Clock) : (s.updClock f).clock = f s.clock := rfl
@[simp] theorem updClock_table (f : Clock → Clock) : (s.updClock f).table = s.table := rfl
@[simp] theorem updClock_settlement (f : Clock → Clock) : (s.updClock f).settlement = s.settlement := rfl
@[simp] theorem updClock_lanes (f : Clock → Clock) : (s.updClock f).lanes = s.lanes := rfl
@[simp] theorem updClock_tally (f : Clock → Clock) : (s.updClock f).tally = s.tally := rfl
@[simp] theorem updClock_decoder (f : Clock → Clock) : (s.updClock f).decoder = s.decoder := rfl
@[simp] theorem updClock_port (f : Clock → Clock) : (s.updClock f).port = s.port := rfl
@[simp] theorem updClock_link (f : Clock → Clock) : (s.updClock f).link = s.link := rfl
@[simp] theorem updClock_pending (f : Clock → Clock) : (s.updClock f).pending = s.pending := rfl

@[simp] theorem updTable_clock (f : Table → Table) : (s.updTable f).clock = s.clock := rfl
@[simp] theorem updTable_table (f : Table → Table) : (s.updTable f).table = f s.table := rfl
@[simp] theorem updTable_settlement (f : Table → Table) : (s.updTable f).settlement = s.settlement := rfl
@[simp] theorem updTable_lanes (f : Table → Table) : (s.updTable f).lanes = s.lanes := rfl
@[simp] theorem updTable_tally (f : Table → Table) : (s.updTable f).tally = s.tally := rfl
@[simp] theorem updTable_decoder (f : Table → Table) : (s.updTable f).decoder = s.decoder := rfl
@[simp] theorem updTable_port (f : Table → Table) : (s.updTable f).port = s.port := rfl
@[simp] theorem updTable_link (f : Table → Table) : (s.updTable f).link = s.link := rfl
@[simp] theorem updTable_pending (f : Table → Table) : (s.updTable f).pending = s.pending := rfl

@[simp] theorem updSettlement_clock (f : Settlement → Settlement) : (s.updSettlement f).clock = s.clock := rfl
@[simp] theorem updSettlement_table (f : Settlement → Settlement) : (s.updSettlement f).table = s.table := rfl
@[simp] theorem updSettlement_settlement (f : Settlement → Settlement) : (s.updSettlement f).settlement = f s.settlement := rfl
@[simp] theorem updSettlement_lanes (f : Settlement → Settlement) : (s.updSettlement f).lanes = s.lanes := rfl
@[simp] theorem updSettlement_tally (f : Settlement → Settlement) : (s.updSettlement f).tally = s.tally := rfl
@[simp] theorem updSettlement_decoder (f : Settlement → Settlement) : (s.updSettlement f).decoder = s.decoder := rfl
@[simp] theorem updSettlement_port (f : Settlement → Settlement) : (s.updSettlement f).port = s.port := rfl
@[simp] theorem updSettlement_link (f : Settlement → Settlement) : (s.updSettlement f).link = s.link := rfl
@[simp] theorem updSettlement_pending (f : Settlement → Settlement) : (s.updSettlement f).pending = s.pending := rfl

@[simp] theorem updLanes_clock (f : LaneController → LaneController) : (s.updLanes f).clock = s.clock := rfl
@[simp] theorem updLanes_table (f : LaneController → LaneController) : (s.updLanes f).table = s.table := rfl
@[simp] theorem updLanes_settlement (f : LaneController → LaneController) : (s.updLanes f).settlement = s.settlement := rfl
@[simp] theorem updLanes_lanes (f : LaneController → LaneController) : (s.updLanes f).lanes = f s.lanes := rfl
@[simp] theorem updLanes_tally (f : LaneController → LaneController) : (s.updLanes f).tally = s.tally := rfl
@[simp] theorem updLanes_decoder (f : LaneController → LaneController) : (s.updLanes f).decoder = s.decoder := rfl
@[simp] theorem updLanes_port (f : LaneController → LaneController) : (s.updLanes f).port = s.port := rfl
@[simp] theorem updLanes_link (f : LaneController → LaneController) : (s.updLanes f).link = s.link := rfl
@[simp] theorem updLanes_pending (f : LaneController → LaneController) : (s.updLanes f).pending = s.pending := rfl

@[simp] theorem updTally_clock (f : Tally → Tally) : (s.updTally f).clock = s.clock := rfl
@[simp] theorem updTally_table (f : Tally → Tally) : (s.updTally f).table = s.table := rfl
@[simp] theorem updTally_settlement (f : Tally → Tally) : (s.updTally f).settlement = s.settlement := rfl
@[simp] theorem updTally_lanes (f : Tally → Tally) : (s.updTally f).lanes = s.lanes := rfl
@[simp] theorem updTally_tally (f : Tally → Tally) : (s.updTally f).tally = f s.tally := rfl
@[simp] theorem updTally_decoder (f : Tally → Tally) : (s.updTally f).decoder = s.decoder := rfl
@[simp] theorem updTally_port (f : Tally → Tally) : (s.updTally f).port = s.port := rfl
@[simp] theorem updTally_link (f : Tally → Tally) : (s.updTally f).link = s.link := rfl
@[simp] theorem updTally_pending (f : Tally → Tally) : (s.updTally f).pending = s.pending := rfl

@[simp] theorem updDecoder_clock (f : Decoder → Decoder) : (s.updDecoder f).clock = s.clock := rfl
@[simp] theorem updDecoder_table (f : Decoder → Decoder) : (s.updDecoder f).table = s.table := rfl
@[simp] theorem updDecoder_settlement (f : Decoder → Decoder) : (s.updDecoder f).settlement = s.settlement := rfl
@[simp] theorem updDecoder_lanes (f : Decoder → Decoder) : (s.updDecoder f).lanes = s.lanes := rfl
@[simp] theorem updDecoder_tally (f : Decoder → Decoder) : (s.updDecoder f).tally = s.tally := rfl
@[simp] theorem updDecoder_decoder (f : Decoder → Decoder) : (s.updDecoder f).decoder = f s.decoder := rfl
@[simp] theorem updDecoder_port (f : Decoder → Decoder) : (s.updDecoder f).port = s.port := rfl
@[simp] theorem updDecoder_link (f : Decoder → Decoder) : (s.updDecoder f).link = s.link := rfl
@[simp] theorem updDecoder_pending (f : Decoder → Decoder) : (s.updDecoder f).pending = s.pending := rfl

@[simp] theorem updPort_clock (f : Port → Port) : (s.updPort f).clock = s.clock := rfl
@[simp] theorem updPort_table (f : Port → Port) : (s.updPort f).table = s.table := rfl
@[simp] theorem updPort_settlement (f : Port → Port) : (s.updPort f).settlement = s.settlement := rfl
@[simp] theorem updPort_lanes (f : Port → Port) : (s.updPort f).lanes = s.lanes := rfl
@[simp] theorem updPort_tally (f : Port → Port) : (s.updPort f).tally = s.tally := rfl
@[simp] theorem updPort_decoder (f : Port → Port) : (s.updPort f).decoder = s.decoder := rfl
@[simp] theorem updPort_port (f : Port → Port) : (s.updPort f).port = f s.port := rfl
@[simp] theorem updPort_link (f : Port → Port) : (s.updPort f).link = s.link := rfl
@[simp] theorem updPort_pending (f : Port → Port) : (s.updPort f).pending = s.pending := rfl

@[simp] theorem updLink_clock (f : Link → Link) : (s.updLink f).clock = s.clock := rfl
@[simp] theorem updLink_table (f : Link → Link) : (s.updLink f).table = s.table := rfl
@[simp] theorem updLink_settlement (f : Link → Link) : (s.updLink f).settlement = s.settlement := rfl
@[simp] theorem updLink_lanes (f : Link → Link) : (s.updLink f).lanes = s.lanes := rfl
@[simp] theorem updLink_tally (f : Link → Link) : (s.updLink f).tally = s.tally := rfl
@[simp] theorem updLink_decoder (f : Link → Link) : (s.updLink f).decoder = s.decoder := rfl
@[simp] theorem updLink_port (f : Link → Link) : (s.updLink f).port = s.port := rfl
@[simp] theorem updLink_link (f : Link → Link) : (s.updLink f).link = f s.link := rfl
@[simp] theorem updLink_pending (f : Link → Link) : (s.updLink f).pending = s.pending := rfl

@[simp] theorem setLane_clock (l : LaneNo) (ln : Lane) : (s.setLane l ln).clock = s.clock := rfl
@[simp] theorem setLane_table (l : LaneNo) (ln : Lane) : (s.setLane l ln).table = s.table := rfl
@[simp] theorem setLane_settlement (l : LaneNo) (ln : Lane) : (s.setLane l ln).settlement = s.settlement := rfl
@[simp] theorem setLane_tally (l : LaneNo) (ln : Lane) : (s.setLane l ln).tally = s.tally := rfl
@[simp] theorem setLane_decoder (l : LaneNo) (ln : Lane) : (s.setLane l ln).decoder = s.decoder := rfl
@[simp] theorem setLane_port (l : LaneNo) (ln : Lane) : (s.setLane l ln).port = s.port := rfl
@[simp] theorem setLane_link (l : LaneNo) (ln : Lane) : (s.setLane l ln).link = s.link := rfl
@[simp] theorem setLane_pending (l : LaneNo) (ln : Lane) : (s.setLane l ln).pending = s.pending := rfl
@[simp] theorem updRecord_clock (p : Nat) (f : PassRecord → PassRecord) : (s.updRecord p f).clock = s.clock := rfl
@[simp] theorem updRecord_settlement (p : Nat) (f : PassRecord → PassRecord) : (s.updRecord p f).settlement = s.settlement := rfl
@[simp] theorem updRecord_lanes (p : Nat) (f : PassRecord → PassRecord) : (s.updRecord p f).lanes = s.lanes := rfl
@[simp] theorem updRecord_tally (p : Nat) (f : PassRecord → PassRecord) : (s.updRecord p f).tally = s.tally := rfl
@[simp] theorem updRecord_decoder (p : Nat) (f : PassRecord → PassRecord) : (s.updRecord p f).decoder = s.decoder := rfl
@[simp] theorem updRecord_port (p : Nat) (f : PassRecord → PassRecord) : (s.updRecord p f).port = s.port := rfl
@[simp] theorem updRecord_link (p : Nat) (f : PassRecord → PassRecord) : (s.updRecord p f).link = s.link := rfl
@[simp] theorem updRecord_pending (p : Nat) (f : PassRecord → PassRecord) : (s.updRecord p f).pending = s.pending := rfl
@[simp] theorem updContext_clock (o : Origin) (f : Context → Context) : (s.updContext o f).clock = s.clock := rfl
@[simp] theorem updContext_table (o : Origin) (f : Context → Context) : (s.updContext o f).table = s.table := rfl
@[simp] theorem updContext_settlement (o : Origin) (f : Context → Context) : (s.updContext o f).settlement = s.settlement := rfl
@[simp] theorem updContext_lanes (o : Origin) (f : Context → Context) : (s.updContext o f).lanes = s.lanes := rfl
@[simp] theorem updContext_tally (o : Origin) (f : Context → Context) : (s.updContext o f).tally = s.tally := rfl
@[simp] theorem updContext_port (o : Origin) (f : Context → Context) : (s.updContext o f).port = s.port := rfl
@[simp] theorem updContext_link (o : Origin) (f : Context → Context) : (s.updContext o f).link = s.link := rfl
@[simp] theorem updContext_pending (o : Origin) (f : Context → Context) : (s.updContext o f).pending = s.pending := rfl
@[simp] theorem setStage_clock (o : Origin) (st : Stage) : (s.setStage o st).clock = s.clock := rfl
@[simp] theorem setStage_table (o : Origin) (st : Stage) : (s.setStage o st).table = s.table := rfl
@[simp] theorem setStage_settlement (o : Origin) (st : Stage) : (s.setStage o st).settlement = s.settlement := rfl
@[simp] theorem setStage_lanes (o : Origin) (st : Stage) : (s.setStage o st).lanes = s.lanes := rfl
@[simp] theorem setStage_tally (o : Origin) (st : Stage) : (s.setStage o st).tally = s.tally := rfl
@[simp] theorem setStage_port (o : Origin) (st : Stage) : (s.setStage o st).port = s.port := rfl
@[simp] theorem setStage_link (o : Origin) (st : Stage) : (s.setStage o st).link = s.link := rfl
@[simp] theorem setStage_pending (o : Origin) (st : Stage) : (s.setStage o st).pending = s.pending := rfl
@[simp] theorem handEvents_clock (es : List Event) : (s.handEvents es).clock = s.clock := by
  unfold handEvents; split <;> rfl
@[simp] theorem handEvents_table (es : List Event) : (s.handEvents es).table = s.table := by
  unfold handEvents; split <;> rfl
@[simp] theorem handEvents_settlement (es : List Event) : (s.handEvents es).settlement = s.settlement := by
  unfold handEvents; split <;> rfl
@[simp] theorem handEvents_lanes (es : List Event) : (s.handEvents es).lanes = s.lanes := by
  unfold handEvents; split <;> rfl
@[simp] theorem handEvents_decoder (es : List Event) : (s.handEvents es).decoder = s.decoder := by
  unfold handEvents; split <;> rfl
@[simp] theorem handEvents_port (es : List Event) : (s.handEvents es).port = s.port := by
  unfold handEvents; split <;> rfl
@[simp] theorem handEvents_link (es : List Event) : (s.handEvents es).link = s.link := by
  unfold handEvents; split <;> rfl
@[simp] theorem handEvents_pending (es : List Event) : (s.handEvents es).pending = s.pending := by
  unfold handEvents; split <;> rfl
@[simp] theorem raiseLane_clock (ms : List LaneMsg) : (s.raiseLane ms).clock = s.clock := rfl
@[simp] theorem raiseLane_table (ms : List LaneMsg) : (s.raiseLane ms).table = s.table := rfl
@[simp] theorem raiseLane_settlement (ms : List LaneMsg) : (s.raiseLane ms).settlement = s.settlement := rfl
@[simp] theorem raiseLane_lanes (ms : List LaneMsg) : (s.raiseLane ms).lanes = s.lanes := rfl
@[simp] theorem raiseLane_tally (ms : List LaneMsg) : (s.raiseLane ms).tally = s.tally := rfl
@[simp] theorem raiseLane_port (ms : List LaneMsg) : (s.raiseLane ms).port = s.port := rfl
@[simp] theorem raiseLane_link (ms : List LaneMsg) : (s.raiseLane ms).link = s.link := rfl
@[simp] theorem raiseLane_pending (ms : List LaneMsg) : (s.raiseLane ms).pending = s.pending := rfl
@[simp] theorem raiseTally_clock (ns : List Notice) : (s.raiseTally ns).clock = s.clock := rfl
@[simp] theorem raiseTally_table (ns : List Notice) : (s.raiseTally ns).table = s.table := rfl
@[simp] theorem raiseTally_settlement (ns : List Notice) : (s.raiseTally ns).settlement = s.settlement := rfl
@[simp] theorem raiseTally_lanes (ns : List Notice) : (s.raiseTally ns).lanes = s.lanes := rfl
@[simp] theorem raiseTally_tally (ns : List Notice) : (s.raiseTally ns).tally = s.tally := rfl
@[simp] theorem raiseTally_port (ns : List Notice) : (s.raiseTally ns).port = s.port := rfl
@[simp] theorem raiseTally_link (ns : List Notice) : (s.raiseTally ns).link = s.link := rfl
@[simp] theorem raiseTally_pending (ns : List Notice) : (s.raiseTally ns).pending = s.pending := rfl
@[simp] theorem raiseLapse_clock (n : OwnedNotice) : (s.raiseLapse n).clock = s.clock := rfl
@[simp] theorem raiseLapse_table (n : OwnedNotice) : (s.raiseLapse n).table = s.table := rfl
@[simp] theorem raiseLapse_settlement (n : OwnedNotice) : (s.raiseLapse n).settlement = s.settlement := rfl
@[simp] theorem raiseLapse_lanes (n : OwnedNotice) : (s.raiseLapse n).lanes = s.lanes := rfl
@[simp] theorem raiseLapse_tally (n : OwnedNotice) : (s.raiseLapse n).tally = s.tally := rfl
@[simp] theorem raiseLapse_port (n : OwnedNotice) : (s.raiseLapse n).port = s.port := rfl
@[simp] theorem raiseLapse_link (n : OwnedNotice) : (s.raiseLapse n).link = s.link := rfl
@[simp] theorem raiseLapse_pending (n : OwnedNotice) : (s.raiseLapse n).pending = s.pending := rfl
@[simp] theorem raiseLink_clock (n : Notice) : (s.raiseLink n).clock = s.clock := rfl
@[simp] theorem raiseLink_table (n : Notice) : (s.raiseLink n).table = s.table := rfl
@[simp] theorem raiseLink_settlement (n : Notice) : (s.raiseLink n).settlement = s.settlement := rfl
@[simp] theorem raiseLink_lanes (n : Notice) : (s.raiseLink n).lanes = s.lanes := rfl
@[simp] theorem raiseLink_tally (n : Notice) : (s.raiseLink n).tally = s.tally := rfl
@[simp] theorem raiseLink_port (n : Notice) : (s.raiseLink n).port = s.port := rfl
@[simp] theorem raiseLink_link (n : Notice) : (s.raiseLink n).link = s.link := rfl
@[simp] theorem raiseLink_pending (n : Notice) : (s.raiseLink n).pending = s.pending := rfl
@[simp] theorem raiseSweep_clock (n : Notice) : (s.raiseSweep n).clock = s.clock := rfl
@[simp] theorem raiseSweep_table (n : Notice) : (s.raiseSweep n).table = s.table := rfl
@[simp] theorem raiseSweep_settlement (n : Notice) : (s.raiseSweep n).settlement = s.settlement := rfl
@[simp] theorem raiseSweep_lanes (n : Notice) : (s.raiseSweep n).lanes = s.lanes := rfl
@[simp] theorem raiseSweep_tally (n : Notice) : (s.raiseSweep n).tally = s.tally := rfl
@[simp] theorem raiseSweep_port (n : Notice) : (s.raiseSweep n).port = s.port := rfl
@[simp] theorem raiseSweep_link (n : Notice) : (s.raiseSweep n).link = s.link := rfl
@[simp] theorem raiseSweep_pending (n : Notice) : (s.raiseSweep n).pending = s.pending := rfl

@[simp] theorem raiseLane_decoder_station (ms : List LaneMsg) : (s.raiseLane ms).decoder.station = s.decoder.station := rfl
@[simp] theorem raiseLane_decoder_office (ms : List LaneMsg) : (s.raiseLane ms).decoder.office = s.decoder.office := rfl
@[simp] theorem raiseLane_decoder_profile (ms : List LaneMsg) : (s.raiseLane ms).decoder.profile = s.decoder.profile := rfl
@[simp] theorem raiseLane_decoder_warmMarker (ms : List LaneMsg) : (s.raiseLane ms).decoder.warmMarker = s.decoder.warmMarker := rfl
@[simp] theorem raiseLane_decoder_tableRetained (ms : List LaneMsg) : (s.raiseLane ms).decoder.tableRetained = s.decoder.tableRetained := rfl
@[simp] theorem raiseTally_decoder_station (ns : List Notice) : (s.raiseTally ns).decoder.station = s.decoder.station := rfl
@[simp] theorem raiseTally_decoder_office (ns : List Notice) : (s.raiseTally ns).decoder.office = s.decoder.office := rfl
@[simp] theorem raiseTally_decoder_profile (ns : List Notice) : (s.raiseTally ns).decoder.profile = s.decoder.profile := rfl
@[simp] theorem raiseTally_decoder_warmMarker (ns : List Notice) : (s.raiseTally ns).decoder.warmMarker = s.decoder.warmMarker := rfl
@[simp] theorem raiseTally_decoder_tableRetained (ns : List Notice) : (s.raiseTally ns).decoder.tableRetained = s.decoder.tableRetained := rfl
@[simp] theorem raiseLapse_decoder_station (n : OwnedNotice) : (s.raiseLapse n).decoder.station = s.decoder.station := rfl
@[simp] theorem raiseLapse_decoder_office (n : OwnedNotice) : (s.raiseLapse n).decoder.office = s.decoder.office := rfl
@[simp] theorem raiseLapse_decoder_profile (n : OwnedNotice) : (s.raiseLapse n).decoder.profile = s.decoder.profile := rfl
@[simp] theorem raiseLapse_decoder_warmMarker (n : OwnedNotice) : (s.raiseLapse n).decoder.warmMarker = s.decoder.warmMarker := rfl
@[simp] theorem raiseLapse_decoder_tableRetained (n : OwnedNotice) : (s.raiseLapse n).decoder.tableRetained = s.decoder.tableRetained := rfl
@[simp] theorem raiseLink_decoder_station (n : Notice) : (s.raiseLink n).decoder.station = s.decoder.station := rfl
@[simp] theorem raiseLink_decoder_office (n : Notice) : (s.raiseLink n).decoder.office = s.decoder.office := rfl
@[simp] theorem raiseLink_decoder_profile (n : Notice) : (s.raiseLink n).decoder.profile = s.decoder.profile := rfl
@[simp] theorem raiseLink_decoder_warmMarker (n : Notice) : (s.raiseLink n).decoder.warmMarker = s.decoder.warmMarker := rfl
@[simp] theorem raiseLink_decoder_tableRetained (n : Notice) : (s.raiseLink n).decoder.tableRetained = s.decoder.tableRetained := rfl
@[simp] theorem raiseSweep_decoder_station (n : Notice) : (s.raiseSweep n).decoder.station = s.decoder.station := rfl
@[simp] theorem raiseSweep_decoder_office (n : Notice) : (s.raiseSweep n).decoder.office = s.decoder.office := rfl
@[simp] theorem raiseSweep_decoder_profile (n : Notice) : (s.raiseSweep n).decoder.profile = s.decoder.profile := rfl
@[simp] theorem raiseSweep_decoder_warmMarker (n : Notice) : (s.raiseSweep n).decoder.warmMarker = s.decoder.warmMarker := rfl
@[simp] theorem raiseSweep_decoder_tableRetained (n : Notice) : (s.raiseSweep n).decoder.tableRetained = s.decoder.tableRetained := rfl

@[simp] theorem record_updTable (f : Table → Table) (p : Nat) : (s.updTable f).record p = (f s.table).find p := rfl

@[simp] theorem laneAt_updLanes (f : LaneController → LaneController) (l : LaneNo) :
    (s.updLanes f).laneAt l = (f s.lanes).lane[l] := rfl

/-- A lane after any lane's machine is put back. -/
@[simp] theorem laneAt_setLane (l m : LaneNo) (ln : Lane) :
    (s.setLane l ln).laneAt m = if m = l then ln else s.laneAt m := by
  unfold setLane laneAt updLanes
  by_cases h : m = l
  · subst h; simp
  · have : (l : Nat) ≠ m := fun e => h (Fin.ext e.symm)
    simp [h, this]

@[simp] theorem context_updContext_same (o : Origin) (f : Context → Context) :
    (s.updContext o f).context o = f (s.context o) := by cases o <;> rfl

@[simp] theorem context_updContext_other (o : Origin) (f : Context → Context) :
    (s.updContext o f).context (otherOrigin o) = s.context (otherOrigin o) := by cases o <;> rfl

end State

end Sys2Proof.Machine
end

