-- ==== Sys2Proof/Laws/Frames.lean ====
section
/-! SUPPORT. For each shared operation, the blocks of the state it never changes. -/

namespace Sys2Proof.Machine

namespace State

@[simp] theorem handAnswer_frame (s : State) (o : Origin) (b : Bool) (a : Answer) :
    (s.handAnswer o b a).clock = s.clock ∧ (s.handAnswer o b a).table = s.table
      ∧ (s.handAnswer o b a).settlement = s.settlement ∧ (s.handAnswer o b a).lanes = s.lanes
      ∧ (s.handAnswer o b a).tally = s.tally ∧ (s.handAnswer o b a).decoder = s.decoder
      ∧ (s.handAnswer o b a).pending = s.pending := by
  unfold handAnswer; (repeat' split) <;> simp

@[simp] theorem endWith_frame (s : State) (o : Origin) (a : Answer) :
    (s.endWith o a).clock = s.clock ∧ (s.endWith o a).table = s.table
      ∧ (s.endWith o a).settlement = s.settlement ∧ (s.endWith o a).lanes = s.lanes
      ∧ (s.endWith o a).tally = s.tally ∧ (s.endWith o a).pending = s.pending := by
  unfold endWith; (repeat' split) <;> simp

@[simp] theorem complete_frame (s : State) (o : Origin) (d : List Byte) :
    (s.complete o d).clock = s.clock ∧ (s.complete o d).table = s.table
      ∧ (s.complete o d).settlement = s.settlement ∧ (s.complete o d).lanes = s.lanes
      ∧ (s.complete o d).tally = s.tally ∧ (s.complete o d).pending = s.pending := by
  unfold complete; simp

@[simp] theorem found_frame (s : State) (o : Origin) (d : List Byte) :
    (s.found o d).clock = s.clock ∧ (s.found o d).table = s.table ∧ (s.found o d).settlement = s.settlement
      ∧ (s.found o d).lanes = s.lanes ∧ (s.found o d).tally = s.tally ∧ (s.found o d).pending = s.pending := by
  unfold found; simp

@[simp] theorem fail_frame (s : State) (o : Origin) (c : ConditionCode) (p : Option Nat) (f : Option FieldRef) :
    (s.fail o c p f).clock = s.clock ∧ (s.fail o c p f).table = s.table
      ∧ (s.fail o c p f).settlement = s.settlement ∧ (s.fail o c p f).lanes = s.lanes
      ∧ (s.fail o c p f).tally = s.tally ∧ (s.fail o c p f).pending = s.pending := by
  unfold fail; simp

@[simp] theorem busy_frame (s : State) (o : Origin) :
    (s.busy o).clock = s.clock ∧ (s.busy o).table = s.table ∧ (s.busy o).settlement = s.settlement
      ∧ (s.busy o).lanes = s.lanes ∧ (s.busy o).tally = s.tally ∧ (s.busy o).pending = s.pending := by
  unfold busy; simp

@[simp] theorem placeFor_frame (s : State) (o : Origin) (n : Notice) :
    (s.placeFor o n).clock = s.clock ∧ (s.placeFor o n).table = s.table
      ∧ (s.placeFor o n).settlement = s.settlement ∧ (s.placeFor o n).lanes = s.lanes
      ∧ (s.placeFor o n).tally = s.tally ∧ (s.placeFor o n).decoder = s.decoder
      ∧ (s.placeFor o n).pending = s.pending := by
  unfold placeFor; (repeat' split) <;> simp

@[simp] theorem submitClaim_frame (s : State) (o : Origin) :
    (s.submitClaim o).clock = s.clock ∧ (s.submitClaim o).settlement = s.settlement
      ∧ (s.submitClaim o).lanes = s.lanes ∧ (s.submitClaim o).tally = s.tally
      ∧ (s.submitClaim o).decoder = s.decoder ∧ (s.submitClaim o).port = s.port
      ∧ (s.submitClaim o).link = s.link ∧ (s.submitClaim o).pending = s.pending := by
  unfold submitClaim; (repeat' split) <;> simp

@[simp] theorem dropClaim_frame (s : State) (o : Origin) :
    (s.dropClaim o).clock = s.clock ∧ (s.dropClaim o).settlement = s.settlement
      ∧ (s.dropClaim o).lanes = s.lanes ∧ (s.dropClaim o).tally = s.tally ∧ (s.dropClaim o).decoder = s.decoder
      ∧ (s.dropClaim o).port = s.port ∧ (s.dropClaim o).link = s.link
      ∧ (s.dropClaim o).pending = s.pending := by
  unfold dropClaim; (repeat' split) <;> simp

@[simp] theorem clearCondition_frame (s : State) (o : Origin) (n : Nat) :
    (s.clearCondition o n).clock = s.clock ∧ (s.clearCondition o n).table = s.table
      ∧ (s.clearCondition o n).settlement = s.settlement ∧ (s.clearCondition o n).lanes = s.lanes
      ∧ (s.clearCondition o n).tally = s.tally ∧ (s.clearCondition o n).port = s.port
      ∧ (s.clearCondition o n).link = s.link ∧ (s.clearCondition o n).pending = s.pending := by
  unfold clearCondition; (repeat' split) <;> simp

@[simp] theorem failBlock_frame (s : State) (o : Origin) (a : Answer) :
    (s.failBlock o a).clock = s.clock ∧ (s.failBlock o a).table = s.table
      ∧ (s.failBlock o a).settlement = s.settlement ∧ (s.failBlock o a).lanes = s.lanes
      ∧ (s.failBlock o a).tally = s.tally ∧ (s.failBlock o a).pending = s.pending := by
  unfold failBlock; simp

@[simp] theorem takeRequest_frame (s : State) (o : Origin) (r : Request) :
    (s.takeRequest o r).clock = s.clock ∧ (s.takeRequest o r).settlement = s.settlement
      ∧ (s.takeRequest o r).lanes = s.lanes ∧ (s.takeRequest o r).tally = s.tally
      ∧ (s.takeRequest o r).pending = s.pending := by
  unfold takeRequest; dsimp only; (repeat' split) <;> simp

@[simp] theorem deliver_frame (s : State) (o : Origin) (b : List Byte) :
    (s.deliver o b).clock = s.clock ∧ (s.deliver o b).settlement = s.settlement
      ∧ (s.deliver o b).lanes = s.lanes ∧ (s.deliver o b).tally = s.tally
      ∧ (s.deliver o b).pending = s.pending := by
  unfold deliver; (repeat' split) <;> simp

@[simp] theorem deliverBroadcast_frame (s : State) (b : List Byte) :
    (s.deliverBroadcast b).settlement = s.settlement ∧ (s.deliverBroadcast b).lanes = s.lanes
      ∧ (s.deliverBroadcast b).tally = s.tally ∧ (s.deliverBroadcast b).decoder = s.decoder
      ∧ (s.deliverBroadcast b).port = s.port ∧ (s.deliverBroadcast b).link = s.link
      ∧ (s.deliverBroadcast b).pending = s.pending := by
  unfold deliverBroadcast; (repeat' split) <;> simp

@[simp] theorem abortEvent_frame (s : State) (o : Origin) :
    (s.abortEvent o).clock = s.clock ∧ (s.abortEvent o).lanes = s.lanes ∧ (s.abortEvent o).tally = s.tally
      ∧ (s.abortEvent o).pending = s.pending := by
  unfold abortEvent; (repeat' split) <;> simp

@[simp] theorem serve_frame (s : State) (o : Origin) :
    (s.serve o).clock = s.clock ∧ (s.serve o).settlement = s.settlement ∧ (s.serve o).lanes = s.lanes
      ∧ (s.serve o).tally = s.tally ∧ (s.serve o).decoder = s.decoder ∧ (s.serve o).port = s.port
      ∧ (s.serve o).link = s.link ∧ (s.serve o).pending = s.pending := by
  unfold serve; (repeat' split) <;> simp

@[simp] theorem serveLane_frame (s : State) (l : LaneNo) :
    (s.serveLane l).clock = s.clock ∧ (s.serveLane l).settlement = s.settlement
      ∧ (s.serveLane l).lanes = s.lanes ∧ (s.serveLane l).tally = s.tally ∧ (s.serveLane l).decoder = s.decoder
      ∧ (s.serveLane l).port = s.port ∧ (s.serveLane l).link = s.link
      ∧ (s.serveLane l).pending = s.pending := by
  unfold serveLane; simp

@[simp] theorem runLane_frame (s : State) (l : LaneNo) (f : LaneEnv → LaneRun → LaneRun) :
    (s.runLane l f).clock = s.clock ∧ (s.runLane l f).table = s.table
      ∧ (s.runLane l f).settlement = s.settlement ∧ (s.runLane l f).port = s.port
      ∧ (s.runLane l f).link = s.link ∧ (s.runLane l f).pending = s.pending := by
  unfold runLane; (repeat' split) <;> simp

@[simp] theorem takePresentation_frame (s : State) (l : LaneNo) (p : BitVec 32) (m st a : Byte) :
    (s.takePresentation l p m st a).clock = s.clock ∧ (s.takePresentation l p m st a).table = s.table
      ∧ (s.takePresentation l p m st a).settlement = s.settlement
      ∧ (s.takePresentation l p m st a).port = s.port ∧ (s.takePresentation l p m st a).link = s.link
      ∧ (s.takePresentation l p m st a).pending = s.pending := by
  unfold takePresentation; simp

@[simp] theorem setTally_frame (s : State) (t : Tally) :
    (s.setTally t).clock = s.clock ∧ (s.setTally t).table = s.table ∧ (s.setTally t).settlement = s.settlement
      ∧ (s.setTally t).decoder = s.decoder ∧ (s.setTally t).port = s.port ∧ (s.setTally t).link = s.link
      ∧ (s.setTally t).pending = s.pending := by
  unfold setTally; simp

@[simp] theorem closeInterval_frame (s : State) :
    (s.closeInterval).clock = s.clock ∧ (s.closeInterval).table = s.table
      ∧ (s.closeInterval).settlement = s.settlement ∧ (s.closeInterval).decoder = s.decoder
      ∧ (s.closeInterval).port = s.port ∧ (s.closeInterval).link = s.link
      ∧ (s.closeInterval).pending = s.pending := by
  unfold closeInterval; simp

@[simp] theorem settleClose_frame (s : State) :
    (s.settleClose).clock = s.clock ∧ (s.settleClose).table = s.table
      ∧ (s.settleClose).settlement = s.settlement ∧ (s.settleClose).decoder = s.decoder
      ∧ (s.settleClose).port = s.port ∧ (s.settleClose).link = s.link
      ∧ (s.settleClose).pending = s.pending := by
  unfold settleClose; (repeat' split) <;> simp

@[simp] theorem finishSecond_frame (s : State) :
    (s.finishSecond).table = s.table ∧ (s.finishSecond).settlement = s.settlement
      ∧ (s.finishSecond).lanes = s.lanes ∧ (s.finishSecond).tally = s.tally
      ∧ (s.finishSecond).decoder = s.decoder ∧ (s.finishSecond).port = s.port ∧ (s.finishSecond).link = s.link
      ∧ (s.finishSecond).pending = s.pending := by
  unfold finishSecond; simp

@[simp] theorem rollOver_frame (s : State) :
    (s.rollOver).table = s.table ∧ (s.rollOver).settlement = s.settlement ∧ (s.rollOver).decoder = s.decoder
      ∧ (s.rollOver).port = s.port ∧ (s.rollOver).link = s.link ∧ (s.rollOver).pending = s.pending := by
  unfold rollOver; dsimp only; refine ⟨?_, ?_, ?_, ?_, ?_, ?_⟩ <;> (repeat' split) <;> simp

@[simp] theorem advanceSecond_frame (s : State) :
    (s.advanceSecond).table = s.table ∧ (s.advanceSecond).settlement = s.settlement
      ∧ (s.advanceSecond).decoder = s.decoder ∧ (s.advanceSecond).port = s.port
      ∧ (s.advanceSecond).link = s.link ∧ (s.advanceSecond).pending = s.pending := by
  unfold advanceSecond; dsimp only; refine ⟨?_, ?_, ?_, ?_, ?_, ?_⟩ <;> (repeat' split) <;> simp

@[simp] theorem applyClockSet_frame (s : State) (a : ClockSetArgs) :
    (s.applyClockSet a).table = s.table ∧ (s.applyClockSet a).settlement = s.settlement
      ∧ (s.applyClockSet a).decoder = s.decoder ∧ (s.applyClockSet a).port = s.port
      ∧ (s.applyClockSet a).link = s.link ∧ (s.applyClockSet a).pending = s.pending := by
  unfold applyClockSet; dsimp only; refine ⟨?_, ?_, ?_, ?_, ?_, ?_⟩ <;> (repeat' split) <;> simp

@[simp] theorem failHeld_frame (s : State) (o : Origin) (p : Nat) :
    (s.failHeld o p).clock = s.clock ∧ (s.failHeld o p).table = s.table
      ∧ (s.failHeld o p).settlement = s.settlement ∧ (s.failHeld o p).lanes = s.lanes
      ∧ (s.failHeld o p).tally = s.tally ∧ (s.failHeld o p).pending = s.pending := by
  unfold failHeld; (repeat' split) <;> simp

@[simp] theorem tellMiss_frame (s : State) (p : Nat) (f : LaneEnv → LaneRun → LaneRun) :
    (s.tellMiss p f).clock = s.clock ∧ (s.tellMiss p f).table = s.table
      ∧ (s.tellMiss p f).settlement = s.settlement ∧ (s.tellMiss p f).port = s.port
      ∧ (s.tellMiss p f).link = s.link ∧ (s.tellMiss p f).pending = s.pending := by
  unfold tellMiss; (repeat' split) <;> simp

@[simp] theorem createPass_frame (s : State) (o : Origin) (a : InsertArgs) (e : Option Nat) :
    (s.createPass o a e).clock = s.clock ∧ (s.createPass o a e).settlement = s.settlement
      ∧ (s.createPass o a e).pending = s.pending := by
  unfold createPass; simp

@[simp] theorem insertNew_frame (s : State) (o : Origin) (a : InsertArgs) :
    (s.insertNew o a).clock = s.clock ∧ (s.insertNew o a).settlement = s.settlement
      ∧ (s.insertNew o a).pending = s.pending := by
  unfold insertNew; (repeat' split) <;> simp

@[simp] theorem insertOver_frame (s : State) (o : Origin) (a : InsertArgs) (r : PassRecord) :
    (s.insertOver o a r).clock = s.clock ∧ (s.insertOver o a r).settlement = s.settlement
      ∧ (s.insertOver o a r).lanes = s.lanes ∧ (s.insertOver o a r).tally = s.tally
      ∧ (s.insertOver o a r).pending = s.pending := by
  unfold insertOver; (repeat' split) <;> simp

@[simp] theorem clearRecord_frame (s : State) (c : Clear) (p : Nat) :
    (s.clearRecord c p).clock = s.clock ∧ (s.clearRecord c p).lanes = s.lanes ∧ (s.clearRecord c p).tally = s.tally
      ∧ (s.clearRecord c p).decoder = s.decoder ∧ (s.clearRecord c p).port = s.port
      ∧ (s.clearRecord c p).link = s.link ∧ (s.clearRecord c p).pending = s.pending := by
  unfold clearRecord; simp

@[simp] theorem reachHeld_frame (s : State) (p : Nat) (o : Origin) (n : Nat) :
    (s.reachHeld p o n).clock = s.clock ∧ (s.reachHeld p o n).lanes = s.lanes
      ∧ (s.reachHeld p o n).tally = s.tally ∧ (s.reachHeld p o n).decoder = s.decoder
      ∧ (s.reachHeld p o n).port = s.port ∧ (s.reachHeld p o n).link = s.link
      ∧ (s.reachHeld p o n).pending = s.pending := by
  unfold reachHeld; simp

@[simp] theorem placeHold_frame (s : State) (o : Origin) (p : Nat) :
    (s.placeHold o p).clock = s.clock ∧ (s.placeHold o p).lanes = s.lanes
      ∧ (s.placeHold o p).pending = s.pending := by
  unfold placeHold; dsimp only; refine ⟨?_, ?_, ?_⟩ <;> (repeat' split) <;> simp

@[simp] theorem pendingToHeld_frame (s : State) (p : Nat) :
    (s.pendingToHeld p).clock = s.clock ∧ (s.pendingToHeld p).lanes = s.lanes
      ∧ (s.pendingToHeld p).tally = s.tally ∧ (s.pendingToHeld p).decoder = s.decoder
      ∧ (s.pendingToHeld p).port = s.port ∧ (s.pendingToHeld p).link = s.link
      ∧ (s.pendingToHeld p).pending = s.pending := by
  unfold pendingToHeld; (repeat' split) <;> simp

@[simp] theorem answerPending_frame (s : State) (p : Nat) :
    (s.answerPending p).clock = s.clock ∧ (s.answerPending p).table = s.table
      ∧ (s.answerPending p).settlement = s.settlement ∧ (s.answerPending p).lanes = s.lanes
      ∧ (s.answerPending p).tally = s.tally ∧ (s.answerPending p).pending = s.pending := by
  unfold answerPending; (repeat' split) <;> simp

@[simp] theorem settleHeld_frame (s : State) (o : Origin) (p n : Nat) (r : PassRecord) :
    (s.settleHeld o p n r).clock = s.clock ∧ (s.settleHeld o p n r).lanes = s.lanes
      ∧ (s.settleHeld o p n r).pending = s.pending := by
  unfold settleHeld; dsimp only; refine ⟨?_, ?_, ?_⟩ <;> (repeat' split) <;> simp

@[simp] theorem lapse_frame (s : State) (e : HoldEntry) :
    (s.lapse e).clock = s.clock ∧ (s.lapse e).lanes = s.lanes ∧ (s.lapse e).tally = s.tally
      ∧ (s.lapse e).port = s.port ∧ (s.lapse e).link = s.link ∧ (s.lapse e).pending = s.pending := by
  unfold lapse; simp

@[simp] theorem admitPass_frame (s : State) (l : LaneNo) (p : Nat) (b : Bool) (r : PassRecord) :
    (s.admitPass l p b r).clock = s.clock ∧ (s.admitPass l p b r).settlement = s.settlement
      ∧ (s.admitPass l p b r).port = s.port ∧ (s.admitPass l p b r).link = s.link
      ∧ (s.admitPass l p b r).pending = s.pending := by
  unfold admitPass; simp

@[simp] theorem refusePass_frame (s : State) (l : LaneNo) (p : Nat) (r : Reason) :
    (s.refusePass l p r).clock = s.clock ∧ (s.refusePass l p r).settlement = s.settlement
      ∧ (s.refusePass l p r).port = s.port ∧ (s.refusePass l p r).link = s.link
      ∧ (s.refusePass l p r).pending = s.pending := by
  unfold refusePass; dsimp only; refine ⟨?_, ?_, ?_, ?_, ?_⟩ <;> (repeat' split) <;> simp

@[simp] theorem actOn_frame (s : State) (l : LaneNo) (p : Nat) (d : Decision) :
    (s.actOn l p d).clock = s.clock ∧ (s.actOn l p d).settlement = s.settlement ∧ (s.actOn l p d).port = s.port
      ∧ (s.actOn l p d).link = s.link ∧ (s.actOn l p d).pending = s.pending := by
  unfold actOn; (repeat' split) <;> simp

@[simp] theorem commitRecord_frame (s : State) (l : LaneNo) (a : Admission) (r : PassRecord) :
    (s.commitRecord l a r).clock = s.clock ∧ (s.commitRecord l a r).lanes = s.lanes
      ∧ (s.commitRecord l a r).pending = s.pending := by
  unfold commitRecord; simp

@[simp] theorem withdrawRecord_frame (s : State) (l : LaneNo) (a : Admission) (r : PassRecord) :
    (s.withdrawRecord l a r).clock = s.clock ∧ (s.withdrawRecord l a r).lanes = s.lanes
      ∧ (s.withdrawRecord l a r).pending = s.pending := by
  unfold withdrawRecord; simp

@[simp] theorem loadFor_frame (s : State) (o : Origin) (a : LoadArgs) :
    (s.loadFor o a).clock = s.clock ∧ (s.loadFor o a).settlement = s.settlement
      ∧ (s.loadFor o a).lanes = s.lanes ∧ (s.loadFor o a).tally = s.tally
      ∧ (s.loadFor o a).pending = s.pending := by
  unfold loadFor; (repeat' split) <;> simp

@[simp] theorem loadBroadcast_frame (s : State) (a : LoadArgs) :
    (s.loadBroadcast a).clock = s.clock ∧ (s.loadBroadcast a).settlement = s.settlement
      ∧ (s.loadBroadcast a).lanes = s.lanes ∧ (s.loadBroadcast a).tally = s.tally
      ∧ (s.loadBroadcast a).decoder = s.decoder ∧ (s.loadBroadcast a).port = s.port
      ∧ (s.loadBroadcast a).link = s.link ∧ (s.loadBroadcast a).pending = s.pending := by
  unfold loadBroadcast; (repeat' split) <;> simp

@[simp] theorem sweepRecord_frame (s : State) (r : PassRecord) :
    (s.sweepRecord r).clock = s.clock ∧ (s.sweepRecord r).settlement = s.settlement
      ∧ (s.sweepRecord r).lanes = s.lanes ∧ (s.sweepRecord r).tally = s.tally
      ∧ (s.sweepRecord r).decoder = s.decoder ∧ (s.sweepRecord r).port = s.port
      ∧ (s.sweepRecord r).link = s.link ∧ (s.sweepRecord r).pending = s.pending := by
  unfold sweepRecord; simp

@[simp] theorem sweepEnd_frame (s : State) :
    (s.sweepEnd).clock = s.clock ∧ (s.sweepEnd).settlement = s.settlement ∧ (s.sweepEnd).lanes = s.lanes
      ∧ (s.sweepEnd).tally = s.tally ∧ (s.sweepEnd).port = s.port ∧ (s.sweepEnd).link = s.link
      ∧ (s.sweepEnd).pending = s.pending := by
  unfold sweepEnd; simp

@[simp] theorem collect_frame (s : State) (o : Origin) (n : Nat) :
    (s.collect o n).clock = s.clock ∧ (s.collect o n).table = s.table ∧ (s.collect o n).lanes = s.lanes
      ∧ (s.collect o n).tally = s.tally ∧ (s.collect o n).pending = s.pending := by
  unfold collect; (repeat' split) <;> simp

@[simp] theorem confirm_frame (s : State) (o : Origin) (c : Collection) :
    (s.confirm o c).clock = s.clock ∧ (s.confirm o c).lanes = s.lanes ∧ (s.confirm o c).tally = s.tally
      ∧ (s.confirm o c).pending = s.pending := by
  unfold confirm; simp

@[simp] theorem discard_frame (s : State) (o : Origin) (c : Collection) :
    (s.discard o c).clock = s.clock ∧ (s.discard o c).table = s.table ∧ (s.discard o c).lanes = s.lanes
      ∧ (s.discard o c).tally = s.tally ∧ (s.discard o c).pending = s.pending := by
  unfold discard; simp

@[simp] theorem applyMerge_frame (s : State) (e : MergeEntry) :
    (s.applyMerge e).clock = s.clock ∧ (s.applyMerge e).settlement = s.settlement
      ∧ (s.applyMerge e).lanes = s.lanes ∧ (s.applyMerge e).tally = s.tally
      ∧ (s.applyMerge e).decoder = s.decoder ∧ (s.applyMerge e).port = s.port ∧ (s.applyMerge e).link = s.link
      ∧ (s.applyMerge e).pending = s.pending := by
  unfold applyMerge; (repeat' split) <;> simp

@[simp] theorem placeWatched_frame (s : State) (n : Notice) :
    (s.placeWatched n).clock = s.clock ∧ (s.placeWatched n).table = s.table
      ∧ (s.placeWatched n).settlement = s.settlement ∧ (s.placeWatched n).lanes = s.lanes
      ∧ (s.placeWatched n).tally = s.tally ∧ (s.placeWatched n).decoder = s.decoder
      ∧ (s.placeWatched n).pending = s.pending := by
  unfold placeWatched; dsimp only; refine ⟨?_, ?_, ?_, ?_, ?_, ?_, ?_⟩ <;> (repeat' split) <;> simp

@[simp] theorem placeLaneNotice_frame (s : State) (n : Notice) :
    (s.placeLaneNotice n).clock = s.clock ∧ (s.placeLaneNotice n).table = s.table
      ∧ (s.placeLaneNotice n).settlement = s.settlement ∧ (s.placeLaneNotice n).lanes = s.lanes
      ∧ (s.placeLaneNotice n).tally = s.tally ∧ (s.placeLaneNotice n).decoder = s.decoder
      ∧ (s.placeLaneNotice n).pending = s.pending := by
  unfold placeLaneNotice; (repeat' split) <;> simp

@[simp] theorem placeLink_frame (s : State) (n : Notice) :
    (s.placeLink n).clock = s.clock ∧ (s.placeLink n).table = s.table
      ∧ (s.placeLink n).settlement = s.settlement ∧ (s.placeLink n).lanes = s.lanes
      ∧ (s.placeLink n).tally = s.tally ∧ (s.placeLink n).decoder = s.decoder
      ∧ (s.placeLink n).pending = s.pending := by
  unfold placeLink; (repeat' split) <;> simp

@[simp] theorem writeControl_frame (s : State) (w : Word) :
    (s.writeControl w).clock = s.clock ∧ (s.writeControl w).lanes = s.lanes ∧ (s.writeControl w).tally = s.tally
      ∧ (s.writeControl w).pending = s.pending := by
  unfold writeControl; (repeat' split) <;> simp

@[simp] theorem enterDropping_frame (s : State) (d : DropReason) :
    (s.enterDropping d).clock = s.clock ∧ (s.enterDropping d).table = s.table
      ∧ (s.enterDropping d).tally = s.tally ∧ (s.enterDropping d).port = s.port
      ∧ (s.enterDropping d).pending = s.pending := by
  unfold enterDropping; simp

@[simp] theorem lineReadyLow_frame (s : State) :
    (s.lineReadyLow).clock = s.clock ∧ (s.lineReadyLow).table = s.table ∧ (s.lineReadyLow).tally = s.tally
      ∧ (s.lineReadyLow).port = s.port ∧ (s.lineReadyLow).pending = s.pending := by
  unfold lineReadyLow; (repeat' split) <;> simp

@[simp] theorem lineReadyHigh_frame (s : State) :
    (s.lineReadyHigh).clock = s.clock ∧ (s.lineReadyHigh).table = s.table
      ∧ (s.lineReadyHigh).settlement = s.settlement ∧ (s.lineReadyHigh).lanes = s.lanes
      ∧ (s.lineReadyHigh).tally = s.tally ∧ (s.lineReadyHigh).decoder = s.decoder
      ∧ (s.lineReadyHigh).port = s.port ∧ (s.lineReadyHigh).pending = s.pending := by
  unfold lineReadyHigh; simp

@[simp] theorem carrierChange_frame (s : State) (b : Bool) :
    (s.carrierChange b).clock = s.clock ∧ (s.carrierChange b).table = s.table
      ∧ (s.carrierChange b).settlement = s.settlement ∧ (s.carrierChange b).lanes = s.lanes
      ∧ (s.carrierChange b).tally = s.tally ∧ (s.carrierChange b).decoder = s.decoder
      ∧ (s.carrierChange b).port = s.port ∧ (s.carrierChange b).pending = s.pending := by
  unfold carrierChange; (repeat' split) <;> simp

@[simp] theorem frameBad_frame (s : State) :
    (s.frameBad).clock = s.clock ∧ (s.frameBad).table = s.table ∧ (s.frameBad).settlement = s.settlement
      ∧ (s.frameBad).lanes = s.lanes ∧ (s.frameBad).decoder = s.decoder ∧ (s.frameBad).port = s.port
      ∧ (s.frameBad).link = s.link ∧ (s.frameBad).pending = s.pending := by
  unfold frameBad; simp

@[simp] theorem takeFrame_frame (s : State) (r : Received) :
    (s.takeFrame r).lanes = s.lanes ∧ (s.takeFrame r).pending = s.pending := by
  unfold takeFrame; (repeat' split) <;> simp

@[simp] theorem receive_frame (s : State) (r : Received) :
    (s.receive r).lanes = s.lanes ∧ (s.receive r).pending = s.pending := by
  unfold receive; (repeat' split) <;> simp

/-- With nothing waiting at all, a sweep step or a clear step may be taken. -/
theorem mayStep_of_background {s : State} (h : s.turn = .background) : s.mayStep = true := by
  have ho : s.table.clear.any (·.orphan) = false ∧ s.nextLane = none ∧ s.settlement.lapseClaim = none
      ∧ ∀ o, s.originWaits o = false := by
    unfold turn at h
    refine ⟨?_, ?_, ?_, fun o => ?_⟩ <;> cases hq : s.table.lastOrigin <;> rw [hq] at h <;> (repeat' split at h) <;>
      first
      | (cases o <;> simp_all [otherOrigin])
      | simp_all
  have hofc : s.table.officeClaims = [] := by simpa [originWaits] using ho.2.2.2 .office
  simp [mayStep, h, ho.2.1, ho.2.2.1, originHoldsBack, ho.2.2.2 .station, hofc]

/-- Running an event on several lanes changes the lanes and what they hand on. -/
@[simp] theorem runLanes_frame (s : State) (ls : List LaneNo) (f : LaneEnv → LaneRun → LaneRun) :
    (s.runLanes ls f).clock = s.clock ∧ (s.runLanes ls f).table = s.table
      ∧ (s.runLanes ls f).settlement = s.settlement ∧ (s.runLanes ls f).port = s.port
      ∧ (s.runLanes ls f).link = s.link ∧ (s.runLanes ls f).pending = s.pending := by
  unfold runLanes
  induction ls generalizing s with
  | nil => simp
  | cons l ls ih => simpa using ih (s.runLane l f)

@[simp] theorem laneRequest_frame (s : State) (o : Origin) (m : LaneMask) (f : LaneEnv → LaneRun → LaneRun) :
    (s.laneRequest o m f).clock = s.clock ∧ (s.laneRequest o m f).table = s.table
      ∧ (s.laneRequest o m f).settlement = s.settlement ∧ (s.laneRequest o m f).pending = s.pending := by
  unfold laneRequest; simp

/-- An event at the line control machine, whatever it does, leaves what its own function leaves. -/
theorem lineEvent_frame (s : State) (f : State → State) :
    (s.lineEvent f).clock = (f s).clock ∧ (s.lineEvent f).table = (f s).table
      ∧ (s.lineEvent f).settlement = (f s).settlement ∧ (s.lineEvent f).lanes = (f s).lanes
      ∧ (s.lineEvent f).tally = (f s).tally ∧ (s.lineEvent f).port = (f s).port
      ∧ (s.lineEvent f).pending = (f s).pending := by
  unfold lineEvent; dsimp only; split <;> simp

end State

end Sys2Proof.Machine
end

