-- ==== Sys2Proof/Laws/Records.lean ====
section
/-! SUPPORT. What looking up a record, a hold or a context gives after each shared operation that changes one. -/

namespace Sys2Proof.Machine

/-! ## Looking up a record -/

theorem Table.find_pass {t : Table} {p : Nat} {r : PassRecord} (h : t.find p = some r) : r.pass = p := by
  have := List.find?_some h
  simpa using this

theorem Table.find_mem {t : Table} {p : Nat} {r : PassRecord} (h : t.find p = some r) : r ∈ t.records :=
  List.mem_of_find?_eq_some h

theorem find_map_update (p q : Nat) (f : PassRecord → PassRecord) (hf : ∀ r, (f r).pass = r.pass)
    (rs : List PassRecord) :
    (rs.map fun r => if r.pass = p then f r else r).find? (fun r => r.pass == q)
      = (rs.find? fun r => r.pass == q).map fun r => if r.pass = p then f r else r := by
  induction rs with
  | nil => rfl
  | cons x xs ih =>
    have hx : (if x.pass = p then f x else x).pass = x.pass := by split <;> simp [hf]
    simp only [List.map_cons, List.find?_cons, hx]
    split <;> simp_all

/-- A record looked up after an update is the record before it, changed where it is the pass updated. -/
theorem Table.find_update (t : Table) (p q : Nat) (f : PassRecord → PassRecord) (hf : ∀ r, (f r).pass = r.pass) :
    (t.update p f).find q = (t.find q).map fun r => if r.pass = p then f r else r :=
  find_map_update p q f hf t.records

theorem Table.find_update_same {t : Table} {p : Nat} {r : PassRecord} {f : PassRecord → PassRecord}
    (hf : ∀ r, (f r).pass = r.pass) (h : t.find p = some r) : (t.update p f).find p = some (f r) := by
  rw [find_update t p p f hf, h]; simp [find_pass h]

theorem Table.find_update_ne {t : Table} {p q : Nat} {f : PassRecord → PassRecord}
    (hf : ∀ r, (f r).pass = r.pass) (h : q ≠ p) : (t.update p f).find q = t.find q := by
  rw [find_update t p q f hf]
  cases hr : t.find q with
  | none => rfl
  | some r => simp [find_pass hr, h]

theorem find_filter_ne (p q : Nat) (rs : List PassRecord) :
    (rs.filter fun r => r.pass != p).find? (fun r => r.pass == q)
      = if q = p then none else rs.find? fun r => r.pass == q := by
  induction rs with
  | nil => simp
  | cons x xs ih =>
    rw [List.filter_cons]
    by_cases hp : x.pass = p
    · simp only [hp, bne_self_eq_false, Bool.false_eq_true, ↓reduceIte, ih, List.find?_cons]
      split
      · rfl
      · have : (p == q) = false := by simp; omega
        simp [this]
    · have : (x.pass != p) = true := by simpa using hp
      simp only [this, ↓reduceIte, List.find?_cons, ih]
      by_cases hq : x.pass = q
      · have : q ≠ p := by omega
        simp [hq, this]
      · have : (x.pass == q) = false := by simpa using hq
        simp [this]

/-- A record looked up after a removal. -/
theorem Table.find_remove (t : Table) (p q : Nat) : (t.remove p).find q = if q = p then none else t.find q :=
  find_filter_ne p q t.records

@[simp] theorem Table.find_toHead (t : Table) (p q : Nat) : (t.toHead p).find q = t.find q := rfl

theorem find_insertRecord (r : PassRecord) (q : Nat) (rs : List PassRecord)
    (h : rs.find? (fun x => x.pass == r.pass) = none) :
    (insertRecord r rs).find? (fun x => x.pass == q) = if q = r.pass then some r else rs.find? fun x => x.pass == q := by
  induction rs with
  | nil =>
    by_cases hq : r.pass = q
    · simp [insertRecord, hq]
    · simp [insertRecord, hq, Ne.symm hq]
  | cons x xs ih =>
    rw [List.find?_cons] at h
    have hx : (x.pass == r.pass) = false := by
      by_contra hc; simp at hc; simp [hc] at h
    have hxs : xs.find? (fun y => y.pass == r.pass) = none := by simpa [hx] using h
    have hne : x.pass ≠ r.pass := by simpa using hx
    unfold insertRecord
    split
    · simp only [List.find?_cons]
      by_cases hq : r.pass = q
      · simp [hq]
      · have : (r.pass == q) = false := by simpa using hq
        simp [this, Ne.symm hq]
    · rw [List.find?_cons, ih hxs, List.find?_cons]
      by_cases hq : x.pass = q
      · have : q ≠ r.pass := by omega
        simp [hq, this]
      · have : (x.pass == q) = false := by simpa using hq
        simp [this]

/-- A record looked up after a creation. -/
theorem Table.find_create {t : Table} {r : PassRecord} (q : Nat) (h : t.find r.pass = none) :
    (t.create r).find q = if q = r.pass then some r else t.find q := find_insertRecord r q t.records h

@[simp] theorem State.record_serve (s : State) (o : Origin) (p : Nat) : (s.serve o).record p = s.record p := by
  cases o <;> rfl

@[simp] theorem State.record_serveLane (s : State) (l : LaneNo) (p : Nat) : (s.serveLane l).record p = s.record p := rfl

/-- Records depend on the table alone. -/
theorem State.record_congr {s t : State} (h : t.table.records = s.table.records) (p : Nat) : t.record p = s.record p := by
  unfold State.record Table.find; rw [h]

/-! ## Looking up a hold -/

theorem Settlement.hold_pass {u : Settlement} {p : Nat} {e : HoldEntry} (h : u.hold p = some e) : e.pass = p := by
  have := List.find?_some h
  simpa using this

theorem find_hold_filter (p q : Nat) (hs : List HoldEntry) :
    (hs.filter fun e => e.pass != p).find? (fun e => e.pass == q)
      = if q = p then none else hs.find? fun e => e.pass == q := by
  induction hs with
  | nil => simp
  | cons x xs ih =>
    rw [List.filter_cons]
    by_cases hp : x.pass = p
    · simp only [hp, bne_self_eq_false, Bool.false_eq_true, ↓reduceIte, ih, List.find?_cons]
      split
      · rfl
      · have : (p == q) = false := by simp; omega
        simp [this]
    · have : (x.pass != p) = true := by simpa using hp
      simp only [this, ↓reduceIte, List.find?_cons, ih]
      by_cases hq : x.pass = q
      · have : q ≠ p := by omega
        simp [hq, this]
      · have : (x.pass == q) = false := by simpa using hq
        simp [this]

/-- A hold looked up after one is dropped. -/
theorem Settlement.hold_dropHold (u : Settlement) (p q : Nat) :
    (u.dropHold p).hold q = if q = p then none else u.hold q := find_hold_filter p q u.holds

theorem find_insertHeld (e : HoldEntry) (q : Nat) (hs : List HoldEntry)
    (h : hs.find? (fun x => x.pass == e.pass) = none) :
    (insertHeld e hs).find? (fun x => x.pass == q) = if q = e.pass then some e else hs.find? fun x => x.pass == q := by
  induction hs with
  | nil =>
    by_cases hq : e.pass = q
    · simp [insertHeld, hq]
    · simp [insertHeld, hq, Ne.symm hq]
  | cons x xs ih =>
    rw [List.find?_cons] at h
    have hx : (x.pass == e.pass) = false := by
      by_contra hc; simp at hc; simp [hc] at h
    have hxs : xs.find? (fun y => y.pass == e.pass) = none := by simpa [hx] using h
    have hne : x.pass ≠ e.pass := by simpa using hx
    unfold insertHeld
    split
    · rw [List.find?_cons, ih hxs, List.find?_cons]
      by_cases hq : x.pass = q
      · have : q ≠ e.pass := by omega
        simp [hq, this]
      · have : (x.pass == q) = false := by simpa using hq
        simp [this]
    · simp only [List.find?_cons]
      by_cases hq : e.pass = q
      · simp [hq]
      · have : (e.pass == q) = false := by simpa using hq
        simp [this, Ne.symm hq]

/-! ## Looking up a context -/

@[simp] theorem State.context_updTable (s : State) (f : Table → Table) (o : Origin) :
    (s.updTable f).context o = s.context o := rfl

@[simp] theorem State.context_serve (s : State) (o q : Origin) : (s.serve o).context q = s.context q := rfl

@[simp] theorem State.waitingRequest_serve (s : State) (o q : Origin) :
    (s.serve o).waitingRequest q = s.waitingRequest q := rfl

/-- A request that waits is in flight at stage waiting. -/
theorem State.waitingRequest_some {s : State} {o : Origin} {r : Request} (h : s.waitingRequest o = some r) :
    ∃ b, (s.context o).inFlight = some { request := r, answerable := b, stage := .waiting } := by
  unfold State.waitingRequest at h
  split at h
  · rename_i f hf
    split at h
    · rename_i hst
      injection h with h
      exact ⟨f.answerable, by rw [hf]; cases f; simp_all⟩
    · simp at h
  · simp at h

end Sys2Proof.Machine
end

