-- ==== Sys2Proof/Laws/Lanes.lean ====
section
/-! SUPPORT. Everything that running one lane's event does to the part, and the telling of pacing. -/

namespace Sys2Proof.Machine

namespace State

theorem laneAt_congr {s t : State} (h : t.lanes.lane = s.lanes.lane) (l : LaneNo) : t.laneAt l = s.laneAt l := by
  unfold laneAt; rw [h]

theorem handEvents_nil (s : State) : s.handEvents [] = s := rfl

theorem raiseLane_nil (s : State) : s.raiseLane [] = s := by simp [raiseLane, updDecoder]

/-- The events handed by one claim or event: one batch at the inbox's tail, none where there are none (R149). -/
theorem handEvents_inbox (s : State) (es : List Event) :
    (s.handEvents es).tally.inbox = s.tally.inbox ++ (if es = [] then [] else [es]) := by
  unfold handEvents
  cases es <;> simp

/-- The tally unit but for its inbox after events are handed. -/
theorem handEvents_tally (s : State) (es : List Event) :
    { (s.handEvents es).tally with inbox := s.tally.inbox } = s.tally := by
  unfold handEvents
  cases es <;> simp

theorem runLane_absent {s : State} {l : LaneNo} (f : LaneEnv → LaneRun → LaneRun) (h : s.lanePresent l = false) :
    s.runLane l f = s := by simp [runLane, h]

/-- A present lane's event: the lane is put back, the events are handed in one batch, the messages raised. -/
theorem runLane_present {s : State} {l : LaneNo} (f : LaneEnv → LaneRun → LaneRun) (h : s.lanePresent l = true) :
    ∃ ms, s.runLane l f =
      ((s.setLane l (f (s.laneEnv l) { lane := s.laneAt l, events := [], msgs := [] }).lane).handEvents
        (f (s.laneEnv l) { lane := s.laneAt l, events := [], msgs := [] }).events).raiseLane ms := by
  simp only [runLane, h, if_true]
  exact ⟨_, rfl⟩

/-- The lane after its event. -/
theorem runLane_laneAt {s : State} {l : LaneNo} (f : LaneEnv → LaneRun → LaneRun) (h : s.lanePresent l = true) :
    (s.runLane l f).laneAt l = (f (s.laneEnv l) { lane := s.laneAt l, events := [], msgs := [] }).lane := by
  obtain ⟨ms, hr⟩ := runLane_present f h
  generalize (f (s.laneEnv l) { lane := s.laneAt l, events := [], msgs := [] }) = r at hr ⊢
  rw [hr, laneAt_congr (s := s.setLane l r.lane) (by simp)]
  simp

/-- The other lanes after one lane's event. -/
theorem runLane_other {s : State} {l m : LaneNo} (f : LaneEnv → LaneRun → LaneRun) (hm : m ≠ l) :
    (s.runLane l f).laneAt m = s.laneAt m := by
  cases h : s.lanePresent l with
  | false => rw [runLane_absent f h]
  | true =>
    obtain ⟨ms, hr⟩ := runLane_present f h
    generalize (f (s.laneEnv l) { lane := s.laneAt l, events := [], msgs := [] }) = r at hr
    rw [hr, laneAt_congr (s := s.setLane l r.lane) (by simp)]
    simp [hm]

/-- The events a lane's event hands: one batch, none where it hands none. -/
theorem runLane_inbox {s : State} {l : LaneNo} (f : LaneEnv → LaneRun → LaneRun) (h : s.lanePresent l = true) :
    (s.runLane l f).tally.inbox = s.tally.inbox ++
      (if (f (s.laneEnv l) { lane := s.laneAt l, events := [], msgs := [] }).events = [] then []
        else [(f (s.laneEnv l) { lane := s.laneAt l, events := [], msgs := [] }).events]) := by
  obtain ⟨ms, hr⟩ := runLane_present f h
  generalize (f (s.laneEnv l) { lane := s.laneAt l, events := [], msgs := [] }) = r at hr ⊢
  rw [hr, raiseLane_tally, handEvents_inbox]
  rfl

/-- The tally unit but for its inbox after a lane's event. -/
theorem runLane_tally (s : State) (l : LaneNo) (f : LaneEnv → LaneRun → LaneRun) :
    { (s.runLane l f).tally with inbox := s.tally.inbox } = s.tally := by
  cases h : s.lanePresent l with
  | false => rw [runLane_absent f h]
  | true =>
    obtain ⟨ms, hr⟩ := runLane_present f h
    generalize (f (s.laneEnv l) { lane := s.laneAt l, events := [], msgs := [] }) = r at hr
    rw [hr, raiseLane_tally]
    exact handEvents_tally (s.setLane l r.lane) r.events

/-- The decoder but for the lane controller's messages after a lane's event. -/
theorem runLane_decoder (s : State) (l : LaneNo) (f : LaneEnv → LaneRun → LaneRun) :
    { (s.runLane l f).decoder with laneMsgs := s.decoder.laneMsgs } = s.decoder := by
  unfold runLane
  split <;> simp [raiseLane, updDecoder]

/-- The lane controller but for its lanes after a lane's event. -/
theorem runLane_lanes (s : State) (l : LaneNo) (f : LaneEnv → LaneRun → LaneRun) :
    (s.runLane l f).lanes.settleAt = s.lanes.settleAt ∧ (s.runLane l f).lanes.drops = s.lanes.drops := by
  unfold runLane
  split <;> simp [setLane]

/-- A lane's event that hands nothing, raises nothing and moves no state or condition only changes the lane. -/
theorem runLane_quiet {s : State} {l : LaneNo} {f : LaneEnv → LaneRun → LaneRun} (h : s.lanePresent l = true)
    {r : LaneRun} (hr : f (s.laneEnv l) { lane := s.laneAt l, events := [], msgs := [] } = r) (hm : r.msgs = [])
    (hn : laneNoticeDue (s.laneAt l) r.lane = false) : s.runLane l f = (s.setLane l r.lane).handEvents r.events := by
  simp only [runLane, h, if_true, hr, hm, hn]; exact raiseLane_nil _

/-- Putting the tally unit in a new condition changes of a lane only the pacing reports it waits to take. -/
theorem setTally_laneAt (t : Tally) (s : State) (l : LaneNo) :
    { (s.setTally t).laneAt l with pacing := (s.laneAt l).pacing } = s.laneAt l := by
  simp only [setTally, laneAt, updLanes, updTally, Fin.getElem_fin, Vector.getElem_ofFn]
  split <;> rfl

theorem setTally_tally (t : Tally) (s : State) : (s.setTally t).tally = t := rfl

end State

end Sys2Proof.Machine
end

