-- ==== Sys2Proof/Tests/Slice0.lean ====
section
/-! SUPPORT. Tests of the model: ill-formed commands are refused, some of the spec's worked examples, and for each
obligation with hypotheses a state and operands that meet them. -/

set_option Elab.async false

namespace Sys2Proof.Tests

open Sys2Proof Sys2Proof.Machine Sys2Proof.Claims

/-! ## Ill-formed commands -/

theorem test_wellFormed_request_block_short : (Instr.requestFrame (List.replicate 15 0)).wellFormed = false := by decide
theorem test_wellFormed_request_block_length : (Instr.requestFrame (List.replicate 17 0)).wellFormed = false := by decide
theorem test_wellFormed_broadcast_body : (Instr.broadcast []).wellFormed = false := by decide
theorem test_wellFormed_ignored_write : (Instr.ignoredWrite 1 0).wellFormed = false := by decide
theorem test_wellFormed_command_byte : (Instr.badCommandByte 0x83).wellFormed = false := by decide
theorem test_wellFormed_frame_discarded : (Instr.frameDiscarded [0x31, 0x7E]).wellFormed = false := by decide
theorem test_wellFormed_request : (Instr.request 0xFFFE).wellFormed = false := by decide
theorem test_wellFormed_abort : (Instr.abort 0xFFFD).wellFormed = false := by decide
theorem test_wellFormed_output_taken : (Instr.outputTaken 0xFFFB).wellFormed = false := by decide
theorem test_wellFormed_error_clear : (Instr.errorClear 0xFFF7).wellFormed = false := by decide
theorem test_wellFormed_kept : (Instr.requestFrame (List.replicate 16 0)).wellFormed = true
    ∧ (Instr.badCommandByte 0x04).wellFormed = true ∧ (Instr.ignoredWrite 3 9).wellFormed = true
    ∧ (Instr.request 1).wellFormed = true ∧ (Instr.frameDiscarded [0x7D]).wellFormed = true := by decide
theorem test_decodeTableWord : decodeTableWord 8 5 = none := rfl

/-! ## Small states -/

/-- The state an outcome goes on with. -/
def after : Host.Outcome State Fault Refusal → State
  | .next s => s
  | _ => State.reset

/-- Runs commands one after the other. -/
def run (cs : List Instr) (s : State) : State := cs.foldl (fun s c => after (exec c s)) s

/-- The clock at this day and second of a running season. -/
def runningAt (day second : Nat) (s : State) : State :=
  { s with clock := { Clock.initial with state := .running, day := day, second := second, lastDay := 150, timebase := 100 } }

/-- A running part with its beams settled clear. -/
def running : State := run [.beamSettle 0 0] (runningAt 57 36000 State.reset)

/-- The same with four lanes strapped. -/
def fourLanes : State := run [.coldReset false false] State.reset

/-- A request of an origin that has passed the decoder's checks. -/
def asked (o : Origin) (r : Request) (s : State) : State := s.takeRequest o r

/-- The same, its answer not to be sent. -/
def askedUnanswerable (o : Origin) (r : Request) (s : State) : State :=
  (asked o r s).updContext o fun c => { c with inFlight := some { request := r, answerable := false, stage := .waiting } }

/-- Puts a lane machine changed by f in its place. -/
def withLane (l : LaneNo) (f : Lane → Lane) (s : State) : State := s.setLane l (f (s.laneAt l))

/-- Lane 0 in this state. -/
def inState (st : LaneState) (s : State) : State := withLane 0 (fun ln => { ln with state := st }) s

/-- A record placed in the table. -/
def withRecord (r : PassRecord) (s : State) : State := s.updTable (Table.create r)

/-- An adult's record of four days out of the window 50 to 70, one used. -/
def adult (pass : Nat) : PassRecord :=
  { pass := pass, cls := .adult, kind := .days, entitled := 4, first := 50, last := 70, used := oneDay 52, unreported := 0,
    state := .active, inFlight := none, lastPassage := none, ridesSeason := 0, ridesToday := 0, holdLapsed := false }

/-- Lane 0 ready, with pass 9 resident. -/
def ready : State := withRecord (adult 9) (inState .ready running)

/-- A presentation of a pass, read well. -/
def good (pass : Nat) : Presentation := { pass := pass, media := .card, status := .good, attempt := 1 }

/-- Lane 0 deciding on pass p. -/
def deciding (p : Nat) : State :=
  withLane 0 (fun ln => { ln with state := .deciding, current := some (good p) }) (withRecord (adult 9) running)

/-- An admission of pass 9 at lane 0. -/
def admission (ph : AdmissionPhase) : Admission := { pass := 9, day := 57, consume := true, release := 100, phase := ph }

/-- Lane 0 with that admission in this state, its record in flight there. -/
def admitted (st : LaneState) (ph : AdmissionPhase) : State :=
  withLane 0 (fun ln => { ln with state := st, admission := some (admission ph), gate := true })
    (withRecord { adult 9 with inFlight := some 0 } running)

/-- Lane 0 with its ending claim submitted. -/
def endingWith (e : Ending) (st : LaneState) (ph : AdmissionPhase) : State :=
  withLane 0 (fun ln => { ln with ending := e, gate := false }) (admitted st ph)

/-- A hold on pass 9. -/
def hold (o : Origin) (ph : HoldPhase) : HoldEntry :=
  { pass := 9, owner := o, phase := ph, deadline := if ph = .held then some 100 else none, placedAt := 0 }

/-- These holds stand. -/
def withHolds (es : List HoldEntry) (s : State) : State := s.updSettlement fun u => { u with holds := es }

/-- The running part with this record of pass 9. -/
def with9 (f : PassRecord → PassRecord) : State := withRecord (f (adult 9)) running

/-- The running part with the office line in this state. -/
def lined (st : LineState) : State := running.updLink fun k => { k with state := st }

theorem Expired_of_due {s : State} {timer : Option Nat} (h : due s.now timer = true) : Expired s timer := by
  cases timer with
  | none => exact absurd h (by simp [due])
  | some d => exact ⟨d, rfl, by simpa [due] using h⟩

/-! ## Worked examples of the spec -/

/-- The days of a list. -/
def daySet (ds : List Nat) : DaySet := ds.foldl (fun a d => joinDays a (oneDay d)) 0

/-- R7, Example: refundable days. -/
theorem test_refundable_days :
    let r := { adult 9 with entitled := 5, first := 10, last := 17, used := daySet [10, 12, 15] }
    r.refundable 9 = 2 ∧ r.refundable 14 = 2 ∧ r.refundable 17 = 1 ∧ r.refundable 18 = 0
      ∧ { r with used := daySet [10, 12, 15, 17] }.refundable 17 = 0
      ∧ { r with used := daySet [10, 11, 12, 13, 14, 15] }.refundable 14 = 0
      ∧ { r with used := daySet [10, 11, 12, 13, 14, 15] }.overdrawn = true := by decide +kernel

/-- Formats, frame check: the bytes 31h to 39h give 29B1h. -/
theorem test_frame_check : frameCheck [0x31, 0x32, 0x33, 0x34, 0x35, 0x36, 0x37, 0x38, 0x39] = 0x29B1#16 := by decide +kernel

/-- Chapter 10, Example: a request with a data phase. -/
theorem test_request_with_data_phase :
    let granted := run [.request 1] running
    let four := run [.requestWindow 0x0010, .requestWindow 30] granted
    let most := run ((List.range 20).map fun _ => .requestWindow 0) four
    let all := run [.requestWindow 0] most
    granted.port.filling = true ∧ granted.port.target = 16 ∧ four.port.fill.length = 4 ∧ four.port.target = 46
      ∧ most.port.fill.length = 44 ∧ all.port.filling = false ∧ all.decoder.station.inFlight.isSome = true
      ∧ (run [.request 1] most).port.protocolError = true ∧ (run [.request 1] most).port.fill = [] := by decide +kernel

/-- 2.5, Example: an admission across rollover. -/
theorem test_admission_across_rollover :
    let r := { adult 70412 with
      entitled := 3, first := 40, last := 46, used := oneDay 41, ridesToday := 4, ridesSeason := 4,
      lastPassage := some { at_ := { day := 41, second := 58000 }, lane := 2 } }
    let s := withRecord r (inState .ready (run [.beamSettle 0 0] (runningAt 42 86395 State.reset)))
    let s := run [.presentation 0 70412 0 0 1, .decisionClaim 0, .operatingSecondAdvance, .operatingSecondAdvance,
      .operatingSecondAdvance, .operatingSecondAdvance, .rollover] s
    let s := run [.beamBreak 0 .entry, .beamBreak 0 .exit, .beamRestore 0 .exit] s
    let s := run [.operatingSecondAdvance, .operatingSecondAdvance, .operatingSecondAdvance, .operatingSecondAdvance,
      .operatingSecondAdvance, .commitClaim 0] s
    s.record 70412 = some { r with
        used := daySet [41, 42], unreported := oneDay 42, ridesToday := 1, ridesSeason := 5,
        lastPassage := some { at_ := { day := 43, second := 5 }, lane := 0 } }
      ∧ s.settlement.queue = [70412] := by decide +kernel

/-- 2.5, Example: the end of a season and its extension. -/
theorem test_season_end_and_extension :
    let s := run [.rollover] (runningAt 150 86399 State.reset)
    let t := run [.clockSet (.own .office)] (asked .office (.clockSet { day := 151, second := 7200, lastDay := 157 }) s)
    let u := run [.clockSet (.own .office)] (asked .office (.clockSet { day := 151, second := 7200, lastDay := 150 }) s)
    s.clock.state = .ended ∧ s.clock.day = 151 ∧ s.clock.second = 0 ∧ t.clock.state = .running ∧ t.clock.second = 7200
      ∧ t.clock.lastDay = 157 ∧ u.clock = s.clock
      ∧ (u.decoder.office.condition.map (·.code)) = some .badArgument := by decide +kernel

/-- 8.5, Example: interval boundaries across a set. -/
theorem test_interval_boundaries_across_a_set :
    let s := runningAt 30 37800 State.reset
    let s := { s with tally := { s.tally with phaseOpen := true, boundary := .second 37800, lived := 900 } }
    let a := run [.intervalClose] s
    let a := { a with
      clock := { a.clock with second := 38000 }, tally := { a.tally with lived := 200 },
      decoder := { a.decoder with profile := { a.decoder.profile with tallyInterval := 10 } } }
    let b := run [.clockSet (.own .office)] (asked .office (.clockSet { day := 30, second := 37000, lastDay := 150 }) a)
    a.tally.ring = [{ close := { day := 30, second := 37800 }, lived := 900, values := [] }]
      ∧ a.tally.boundary = .second 38700 ∧ b.tally.boundary = .second 38400 ∧ b.tally.length = 600
      ∧ b.tally.lived = 200 := by decide +kernel

/-! ## The hypotheses of the obligations are met: steps, resets, clock -/

theorem test_StepRunsFrontCommand :
    { running with pending := [.presence 0, .rollover] }.pending = .presence 0 :: [.rollover] := rfl

theorem test_IdleStep :
    let hyps := fun s : State => s.pending = [] ∧ s.clock.timebase + 1 < 2 ^ 40 ∧ s.clock.phase ≤ 999
    let last := { running with clock := { running.clock with phase := 999, timebase := 2 ^ 40 - 2 } }
    (hyps State.reset ∧ State.reset.clock.state = .unset)
      ∧ (hyps running ∧ running.clock.state ≠ .unset ∧ running.clock.phase < 999)
      ∧ (hyps last ∧ last.clock.state ≠ .unset ∧ last.clock.phase = 999) := by decide +kernel

theorem test_ExecLeavesTheQueue : ∃ t, exec .rollover running = .next t := ⟨_, rfl⟩

theorem test_OperatingSecondAdvances :
    let hyps := fun s : State => s.clock.state ≠ .unset ∧ s.clock.second < 86399 ∧ s.clock.phase ≤ 999
      ∧ s.clock.timebase + 1000 < 2 ^ 40 ∧ s.closeDue = false
    let due := { running with tally := { running.tally with phaseOpen := true, boundary := .second 36000 } }
    hyps running ∧ hyps { running with
      clock := { running.clock with second := 86398, phase := 999, timebase := 2 ^ 40 - 1001 },
      tally := { running.tally with phaseOpen := true, boundary := .rollover } }
      ∧ (due.clock.state ≠ .unset ∧ due.clock.second < 86399 ∧ due.closeDue = true
        ∧ 1 ≤ due.decoder.profile.tallyInterval) := by decide +kernel

theorem test_RolloverEndsTheDay :
    let ended := fun d => { runningAt d 86399 State.reset with
      clock := { (runningAt d 86399 State.reset).clock with state := .ended } }
    let hyps := fun s : State => s.clock.state ≠ .unset ∧ 86399 ≤ s.clock.second
    let s := runningAt 149 86399 State.reset
    (hyps s ∧ s.clock.state = .running ∧ s.clock.day < s.clock.lastDay)
      ∧ (hyps (runningAt 150 86399 State.reset) ∧ (runningAt 150 86399 State.reset).clock.day = 150
          ∧ (runningAt 150 86399 State.reset).clock.lastDay = 150)
      ∧ (hyps (ended 238) ∧ (ended 238).clock.day < 239) ∧ (hyps (ended 239) ∧ (ended 239).clock.day = 239)
      ∧ (let t := { s with tally := { s.tally with
            phaseOpen := true, boundary := .rollover, ring := List.replicate 95 { close := s.stamp, lived := 0, values := [] } } }; hyps t ∧ t.tally.phaseOpen = true ∧ t.closeDue = false ∧ t.tally.ring.length < 96)
      ∧ (s.tally.phaseOpen = false ∧ s.closeDue = false)
      ∧ (let t := { s with tally := { s.tally with phaseOpen := true, boundary := .second 86399 } }
         hyps t ∧ t.closeDue = true ∧ 1 ≤ t.decoder.profile.tallyInterval) := by decide +kernel

theorem test_IntervalClose :
    let s := { runningAt 30 900 State.reset with tally := { Tally.initial with
      phaseOpen := true, boundary := .second 900, ring := List.replicate 95 { close := ⟨30, 0⟩, lived := 0, values := [] } } }
    let full := { s with tally := { s.tally with
      ring := List.replicate 96 { close := ⟨30, 0⟩, lived := 0, values := [] }, stationCursor := 96, officeCursor := 0 } }
    s.closeDue = true ∧ s.tally.ring.length < 96 ∧ 1 ≤ s.decoder.profile.tallyInterval ∧ running.closeDue = false
      ∧ (full.closeDue = true ∧ 96 ≤ full.tally.ring.length ∧ (run [.intervalClose] full).tally.ring.length = 96
        ∧ (run [.intervalClose] full).tally.stationCursor = 95 ∧ (run [.intervalClose] full).tally.officeCursor = 0)
      ∧ (run [.intervalClose] s).tally.boundary = .second 1800
      ∧ (run [.intervalClose] { s with
          clock := { s.clock with second := 85500 }, tally := { s.tally with boundary := .second 85500 } }).tally.boundary
        = .rollover := by decide +kernel

theorem test_ClockSet :
    let a : ClockSetArgs := { day := 57, second := 86399, lastDay := 57 }
    let b : ClockSetArgs := { day := 238, second := 0, lastDay := 238 }
    let s := asked .station (.clockSet a) running
    let t := asked .office (.clockSet b) { State.reset with link := { State.reset.link with state := .up } }
    let u := { running with clock := { running.clock with broadcasts := [b] } }
    (Waits .station (.clockSet a) s ∧ checkClockSet s.clock a = none ∧ s.link.state ≠ .up ∧ s.clock.state ≠ .unset
        ∧ a.day = s.clock.day)
      ∧ (Waits .office (.clockSet b) t ∧ checkClockSet t.clock b = none ∧ t.clock.state = .unset)
      ∧ (u.clock.broadcasts = b :: [] ∧ checkClockSet u.clock b = none) := by decide +kernel

/-- The sets that fail, and one to a later day with its interval open (R34, R35). -/
theorem test_ClockSet_fails_or_rolls :
    let bad : ClockSetArgs := { day := 240, second := 86400, lastDay := 239 }
    let later : ClockSetArgs := { day := 59, second := 100, lastDay := 60 }
    let up := (asked .station (.clockSet later) running).updLink fun k => { k with state := .up }
    let told := { running with clock := { running.clock with broadcasts := [bad] } }
    let opened := asked .station (.clockSet later) (running.updTally fun t => { t with phaseOpen := true, boundary := .rollover })
    (Waits .station (.clockSet later) up ∧ up.link.state = .up)
      ∧ (Waits .station (.clockSet bad) (asked .station (.clockSet bad) running) ∧ checkClockSet running.clock bad = some 4)
      ∧ (told.clock.broadcasts = bad :: [] ∧ checkClockSet told.clock bad = some 4)
      ∧ (Waits .station (.clockSet later) opened ∧ checkClockSet opened.clock later = none ∧ opened.clock.state ≠ .unset
        ∧ later.day ≠ opened.clock.day ∧ opened.tally.phaseOpen = true ∧ opened.link.state ≠ .up
        ∧ (run [.clockSet (.own .station)] opened).tally.boundary = .second 900
        ∧ (run [.clockSet (.own .station)] opened).tally.ring = [⟨⟨58, 0⟩, 1, []⟩]) := by decide +kernel

/-! ## Requests that only read, and the end of a request -/

theorem test_ReadRequests :
    let table := fun r s => HasClaim .office r (asked .office r s)
    Waits .office .clockRead (asked .office .clockRead running)
      ∧ (Waits .station (.laneStatus 0xFF) (asked .station (.laneStatus 0xFF) running)
          ∧ (asked .station (.laneStatus 0xFF) running).badLaneMask 0xFF = false)
      ∧ (Waits .office (.tallyRead 1) (asked .office (.tallyRead 1) running) ∧ (1 : CounterMask) ≠ 0)
      ∧ Waits .office .holdListRead (asked .office .holdListRead running)
      ∧ Waits .station .linkStatus (asked .station .linkStatus running)
      ∧ Waits .station .readyCheck (asked .station .readyCheck running)
      ∧ Waits .office .profileRead (asked .office .profileRead running)
      ∧ (table (.passRead 1) (withRecord (adult 1) running) ∧ badPass 1 = false
          ∧ (withRecord (adult 1) running).record 1 = some (adult 1))
      ∧ (HasClaim .station (.passRead 4294967294) (asked .station (.passRead 4294967294) (withRecord (adult 4294967294) running))
          ∧ badPass 4294967294 = false
          ∧ (withRecord (adult 4294967294) running).record 4294967294 = some (adult 4294967294))
      ∧ table .tableSize running ∧ table (.revokeRead 2048 256) running ∧ table (.revokeRead 0 0) running := by
  decide +kernel

theorem test_EndOfARequest :
    let s := asked .station .clockRead running
    let t := askedUnanswerable .office .clockRead running
    (s.context .station).inFlight = some { request := .clockRead, answerable := true, stage := .waiting }
      ∧ s.port.window = none ∧ s.port.answers = []
      ∧ (t.context .office).inFlight = some { request := .clockRead, answerable := false, stage := .waiting } := by
  decide +kernel

/-! ## Lanes -/

theorem test_ReaderPresenceNoiseAndSilence :
    let late := fun st => withLane 0 (fun ln => { ln with state := st, silence := some 100 }) running
    running.lanePresent 7 = true ∧ fourLanes.lanePresent 4 = false ∧ judgeBurst [0x03, 0, 0, 0] = .discarded
      ∧ ∀ st ∈ [LaneState.closed, .released, .passing, .closing, .fault, .ready, .paused, .deciding, .waiting],
          (late st).lanePresent 0 = true ∧ due (late st).now ((late st).laneAt 0).silence = true
            ∧ ((late st).laneAt 0).state = st := by decide +kernel

theorem test_ReaderSilence_expired :
    Expired (withLane 0 (fun ln => { ln with silence := some 100 }) running)
      ((withLane 0 (fun ln => { ln with silence := some 100 }) running).laneAt 0).silence :=
  Expired_of_due (by decide +kernel)

theorem test_PresentationsAreTakenByState :
    let p := presentationOf 9#32 0 0 1
    let lane := fun s : State => s.laneAt 0
    let both := withLane 0 (fun ln => { ln with current := some (good 5), next := some (good 6) }) (inState .deciding running)
    (p = some (good 9) ∧ (lane ready).state = .ready ∧ (lane ready).current = none ∧ (lane ready).next = none
        ∧ (lane ready).admission = none)
      ∧ (∀ st ∈ [LaneState.closed, .closing, .fault], (lane (inState st running)).state = st)
      ∧ (let s := withLane 0 (fun ln => { ln with current := some (good 9) }) (inState .deciding running); (lane s).state.answersClosed = false ∧ (lane s).doubleTap 9 = true)
      ∧ ((lane both).state.answersClosed = false ∧ (lane both).doubleTap 9 = false ∧ (lane both).current.isSome = true
          ∧ (lane both).next.isSome = true)
      ∧ (presentationOf 0#32 0 0 1 = none ∧ presentationOf 9#32 2 0 1 = none ∧ presentationOf 9#32 0 3 1 = none) := by
  decide +kernel

/-- The read check under each policy, and the placing in the two slots of a lane that is not READY (R53, R54). -/
theorem test_Presentations_read_and_placed :
    let policed := fun pol => { ready with decoder := { ready.decoder with profile := { Profile.initial with
      readPolicy := Vector.replicate 8 pol } } }
    let read := fun pol (st a : Byte) => (run [.presentation 0 9 0 st a] (policed pol)).laneAt 0
    let paused := fun c => withLane 0 (fun ln => { ln with current := c }) (inState .paused running)
    (∀ pol ∈ [ReadPolicy.lenient, .strict, .notify], ((policed pol).laneAt 0).state = .ready ∧ (policed pol).decoder.profile.readPolicy[0] = pol)
      ∧ ((read .lenient 1 1).state = .deciding ∧ (read .notify 1 1).state = .deciding
        ∧ (read .notify 1 1).condition = .readFault ∧ (read .strict 1 1).readerOut = [⟨9, .refuse .readFault⟩])
      ∧ ((read .lenient 2 3).readerOut = [⟨9, .reread⟩] ∧ (read .lenient 2 4).readerOut = [⟨9, .refuse .readFault⟩]
        ∧ (run [.presentation 0 9 0 2 4] (policed .notify)).tally.inbox = [[laneEvent .readFault 0, refusedEvent 0 none .readFault]])
      ∧ (∀ c ∈ [none, some (good 5)], ((paused c).laneAt 0).state.answersClosed = false ∧ ((paused c).laneAt 0).state ≠ .ready
        ∧ ((paused c).laneAt 0).doubleTap 9 = false ∧ ((paused c).laneAt 0).current = c ∧ ((paused c).laneAt 0).next = none)
      ∧ presentationOf 9#32 0 2 4 = some { good 9 with status := .fault, attempt := 4 } := by decide +kernel

/-- A lane that goes on with both slots occupied rereads the first and decides the second (R53). -/
theorem test_Resume :
    let worn := { good 5 with status := .fault }
    let r : LaneRun := { lane := { Lane.initial 0 false with current := some worn, next := some (good 6) }, events := [], msgs := [] }
    let on := r.resume (running.laneEnv 0)
    (on.lane.state = .deciding ∧ on.lane.current = some (good 6) ∧ on.lane.next = none ∧ on.lane.readerOut = [⟨5, .reread⟩])
      ∧ (LaneRun.resume (running.laneEnv 0) { r with lane := { r.lane with pause := true } }).lane.readerOut = [⟨5, .wait⟩] := by
  decide +kernel

theorem test_BeamsSettle :
    Expired { State.reset with clock := { Clock.initial with timebase := 50 } } (some 50) ∧ State.reset.lanes.settleAt = some 50
      ∧ State.reset.lanePresent 7 = true ∧ fourLanes.lanePresent 7 = false :=
  ⟨Expired_of_due (by decide +kernel), by decide +kernel⟩

theorem test_BeamsMoveTheAdmission :
    let r := admitted .released .released
    let p := admitted .passing .passing
    let seen := withLane 0 (fun ln => { ln with exitSeen := true, exitBeam := .broken, entryBeam := .broken }) p
    ((r.laneAt 0).admission = some (admission .released) ∧ (r.laneAt 0).ending = .none ∧ BeamAt 0 .entry .clear r
        ∧ BeamAt 0 .exit .clear r ∧ (r.laneAt 0).state = .released)
      ∧ ((p.laneAt 0).admission = some (admission .passing) ∧ (p.laneAt 0).ending = .none ∧ BeamAt 0 .exit .clear p
        ∧ BeamAt 0 .entry .clear p ∧ (p.laneAt 0).state = .passing)
      ∧ (BeamAt 0 .exit .broken seen ∧ BeamAt 0 .entry .broken seen ∧ (seen.laneAt 0).exitSeen = true
        ∧ (seen.laneAt 0).admission = some (admission .passing) ∧ (seen.laneAt 0).ending = .none) := by decide +kernel

theorem test_BeamsFault :
    ∀ st ∈ [LaneState.closed, .fault, .ready, .deciding, .waiting, .paused],
      BeamAt 0 .entry .clear (inState st running) ∧ BeamAt 0 .exit .clear (inState st running)
        ∧ ((inState st running).laneAt 0).state = st := by decide +kernel

theorem test_LaneTimers :
    let s := withLane 0 (fun ln => { ln with window := some 100, toneAt := some 100 }) (admitted .released .released)
    let t := withLane 0 (fun ln => { ln with limit := some 99, blinkAt := some 1 }) (admitted .passing .passing)
    s.lanePresent 0 = true ∧ Expired s (s.laneAt 0).window ∧ Expired t (t.laneAt 0).limit
      ∧ (s.laneAt 0).toneAt = some 100 ∧ 100 ≤ s.now ∧ (t.laneAt 0).blinkAt = some 1 ∧ 1 ≤ t.now :=
  ⟨by decide +kernel, Expired_of_due (by decide +kernel), Expired_of_due (by decide +kernel), by decide +kernel⟩

/-- Lane 0 waiting on a miss of pass 5, its timer at its end. -/
def missing : State :=
  (withLane 0 (fun ln => { ln with
    state := .waiting, current := some (good 5), miss := some { pass := 5, start := 0 }, missWait := some 100 }) running).updLanes
    fun c => { c with drops := 1 }

theorem test_Misses :
    (missing.lanePresent 0 = true ∧ Expired missing (missing.laneAt 0).missWait)
      ∧ ((missing.laneAt 0).miss = some { pass := 5, start := 0 } ∧ (missing.laneAt 0).next = none ∧ 0 < missing.lanes.drops
        ∧ (missing.laneAt 1).miss = none) :=
  ⟨⟨by decide +kernel, Expired_of_due (by decide +kernel)⟩, by decide +kernel⟩

/-- A miss that ends with a presentation in the next slot, and a second lane at the same line drop (R83, R85, R86). -/
theorem test_Misses_two :
    let followed := withLane 0 (fun ln => { ln with next := some (good 6) }) missing
    let two := withLane 3 (fun ln => { ln with
      state := .waiting, current := some (good 7), miss := some { pass := 7, start := 1 }, pause := true }) followed
    let t := run [.lineDropAtLanes] two
    (followed.laneAt 0).next = some (good 6) ∧ ((run [.missWaitExpiry 0] followed).laneAt 0).state = .deciding
      ∧ 0 < two.lanes.drops ∧ running.lanes.drops = 0 ∧ due running.now (running.laneAt 0).missWait = false
      ∧ (t.laneAt 0).state = .deciding ∧ (t.laneAt 3).state = .paused
      ∧ t.tally.inbox = [[refusedEvent 0 none .notFound], [refusedEvent 3 none .notFound]]
      ∧ t.decoder.laneMsgs = [.removeMiss 0, .removeMiss 3, .notice (.lane 3 .paused .none)] := by decide +kernel

theorem test_Pacing :
    let told := fun r st cur => withLane 0 (fun ln => { ln with state := st, pacing := [r], current := cur }) running
    (∀ st ∈ [LaneState.ready, .deciding, .waiting, .released, .closed],
        ((told .start st none).laneAt 0).pacing = .start :: [] ∧ ((told .start st none).laneAt 0).state = st)
      ∧ (((told .stop .paused none).laneAt 0).pacing = .stop :: [] ∧ ((told .stop .paused none).laneAt 0).state = .paused
        ∧ ((told .stop .paused none).laneAt 0).current = none)
      ∧ (((told .stop .paused (some (good 9))).laneAt 0).current = some (good 9) ∧ (good 9).status = .good)
      ∧ ((told .stop .released none).laneAt 0).state ≠ .paused := by decide +kernel

theorem test_LaneRequests :
    let o := asked .station (.laneOpen 0x81) (withLane 7 (fun ln => { ln with entryBeam := .broken }) running)
    let c := asked .station (.laneClose 0x01) (admitted .released .released)
    let r := asked .station (.laneReset 0x01) (inState .fault running)
    (o.badLaneMask 0x81 = false ∧ Waits .station (.laneOpen 0x81) o ∧ o.clock.state = .running ∧ o.clearing = false
        ∧ o.lanes.settleAt = none ∧ (o.laneAt 0).state = .closed ∧ (o.laneAt 0).entryBeam = .clear
        ∧ (o.laneAt 0).exitBeam = .clear ∧ (o.laneAt 0).current = none ∧ (o.laneAt 7).state = .closed
        ∧ (o.laneAt 7).entryBeam = .broken)
      ∧ (c.badLaneMask 0x01 = false ∧ Waits .station (.laneClose 0x01) c)
      ∧ (r.badLaneMask 0x01 = false ∧ Waits .station (.laneReset 0x01) r ∧ (r.laneAt 0).state = .fault) := by
  decide +kernel

/-- Masks that fail, opens that are not ready, a broken exit beam alone, and closes of a waiting and a ready lane (R62 to R64). -/
theorem test_LaneRequests_fail_and_close :
    let open_ := fun m s => asked .station (.laneOpen m) s
    let clearing := running.updTable fun t => { t with clear := some { removed := 0, orphan := true } }
    let exit := open_ 0x01 (withLane 0 (fun ln => { ln with exitBeam := .broken }) running)
    let waiting := asked .station (.laneClose 0x01) (withLane 0 (fun ln => { ln with next := some (good 6) }) missing)
    let t := run [.laneClose .station] waiting
    (∀ r ∈ [Request.laneOpen 0, .laneClose 0, .laneReset 0, .laneStatus 0], Waits .station r (asked .station r running))
      ∧ (running.badLaneMask 0 = true ∧ fourLanes.badLaneMask 0x10 = true ∧ fourLanes.lanePresent 4 = false)
      ∧ (∀ s ∈ [open_ 1 (runningAt 57 0 State.reset), open_ 1 State.reset, open_ 1 clearing],
        s.badLaneMask 1 = false ∧ Waits .station (.laneOpen 1) s
          ∧ (s.clock.state ≠ .running ∨ s.clearing = true ∨ s.lanes.settleAt ≠ none))
      ∧ (Waits .station (.laneOpen 0x01) exit ∧ (exit.laneAt 0).entryBeam = .clear ∧ (exit.laneAt 0).exitBeam = .broken
        ∧ ((run [.laneOpen .station] exit).laneAt 0).condition = .reverse)
      ∧ (Waits .station (.laneClose 0x01) waiting ∧ (waiting.laneAt 0).state = .waiting
        ∧ (waiting.laneAt 0).current = some (good 5)
        ∧ (t.laneAt 0).readerOut = [⟨5, .refuse .laneClosing⟩, ⟨6, .closed⟩]
        ∧ t.tally.inbox = [[refusedEvent 0 none .laneClosing]]
        ∧ t.decoder.laneMsgs = [.removeMiss 0, .notice (.lane 0 .closed .none)]) := by decide +kernel

/-- The lamps of each state; an absent lane's are dark (R43, R48). -/
theorem test_Lamps :
    let lamps := fun st => ((inState st running).lampsAt 0)
    lamps .closed = ⟨true, false, false⟩ ∧ lamps .ready = ⟨false, true, false⟩ ∧ lamps .waiting = ⟨false, true, false⟩
      ∧ lamps .released = ⟨false, false, true⟩ ∧ lamps .paused = ⟨true, true, false⟩ ∧ lamps .fault = ⟨true, false, false⟩
      ∧ fourLanes.lampsAt 4 = ⟨false, false, false⟩ ∧ fourLanes.lampsAt 3 = ⟨true, false, false⟩ := by decide +kernel

/-! ## Admission -/

theorem test_Decisions :
    let miss := { deciding 5 with link := { running.link with state := .up } }
    let old := withLane 0 (fun ln => { ln with current := some (good 9) }) (deciding 9)
    let late := { old with clock := { old.clock with day := 71 } }
    (old.laneHasTurn 0 = true ∧ (old.laneAt 0).state = .deciding ∧ (old.laneAt 0).current = some (good 9)
        ∧ old.record 9 = some (adult 9) ∧ old.decision 0 9 = .admitted true)
      ∧ (late.laneHasTurn 0 = true ∧ (late.laneAt 0).state = .deciding ∧ (late.laneAt 0).current = some (good 9)
        ∧ (late.laneAt 0).next = none ∧ (late.laneAt 0).pause = false ∧ late.decision 0 9 = .refuse .expired)
      ∧ (miss.laneHasTurn 0 = true ∧ (miss.laneAt 0).state = .deciding ∧ (miss.laneAt 0).current = some (good 5)
        ∧ miss.decision 0 5 = .miss) := by decide +kernel

/-- Each refusal reason of steps 1 to 9 comes of a state of its own (R70 to R76). -/
theorem test_decision_reasons :
    let s := fun f => withRecord (f (adult 9)) running
    let listed := (s id).updTable fun t => { t with revoked := [9] }
    let noClass := { s id with decoder := { running.decoder with profile := { Profile.initial with
      laneClasses := Vector.replicate 8 0xE } } }
    let ended := { s id with clock := { running.clock with state := .ended } }
    noClass.decision 0 9 = .refuse .cls ∧ listed.decision 0 9 = .refuse .revoked ∧ running.decision 0 9 = .refuse .notFound
      ∧ (s fun r => { r with state := .held }).decision 0 9 = .refuse .held
      ∧ (s fun r => { r with state := .settled }).decision 0 9 = .refuse .settled
      ∧ (s fun r => { r with inFlight := some 3 }).decision 0 9 = .refuse .inFlight
      ∧ ended.decision 0 9 = .refuse .seasonEnded
      ∧ (s fun r => { r with first := 58 }).decision 0 9 = .refuse .notYetValid
      ∧ (s fun r => { r with last := 56 }).decision 0 9 = .refuse .expired
      ∧ (s fun r => { r with lastPassage := some { at_ := ⟨57, 35701⟩, lane := 0 } }).decision 0 9 = .refuse .passback
      ∧ (s fun r => { r with lastPassage := some { at_ := ⟨57, 35700⟩, lane := 0 } }).decision 0 9 = .admitted true
      ∧ (s fun r => { r with entitled := 1 }).decision 0 9 = .refuse .noDays
      ∧ (s fun r => { r with entitled := 1, used := oneDay 57 }).decision 0 9 = .admitted false := by decide +kernel

theorem test_Commit_and_Withdraw :
    let c := endingWith .commit .passing .passing
    let w := endingWith .withdraw .closing .released
    let r := { adult 9 with inFlight := some 0 }
    let shared := fun s : State => s.laneHasTurn 0 = true ∧ s.record 9 = some r ∧ s.settlement.hold 9 = none
      ∧ (s.laneAt 0).faultMark = none ∧ s.stage .station ≠ some (.pendingHold 9) ∧ s.stage .office ≠ some (.pendingHold 9)
    (shared c ∧ (c.laneAt 0).ending = .commit ∧ (c.laneAt 0).admission = some (admission .passing)
        ∧ (c.laneAt 0).current = none ∧ (c.laneAt 0).pause = false ∧ (c.laneAt 0).state ≠ .closing
        ∧ (c.laneAt 0).next = none)
      ∧ (shared w ∧ (w.laneAt 0).ending = .withdraw ∧ (w.laneAt 0).admission = some (admission .released)
        ∧ (w.laneAt 0).state = .closing) := by decide +kernel

theorem test_PendingHoldAtTheEnd :
    ∀ e ∈ [Ending.commit, .withdraw],
      let s := withHolds [hold .office .pending] (endingWith e .closing (if e = .commit then .passing else .released))
      s.laneHasTurn 0 = true ∧ (s.laneAt 0).admission.isSome = true ∧ s.record 9 = some { adult 9 with inFlight := some 0 }
        ∧ s.settlement.hold 9 = some (hold .office .pending) ∧ (s.laneAt 0).faultMark = none
        ∧ (s.laneAt 0).state = .closing ∧ (s.laneAt 0).ending = e := by decide +kernel

/-- The ends of an admission in each of its states, with a hold awaited, with a fault mark, and with a rider waiting (R57, R114). -/
theorem test_AdmissionEnds :
    let asks := (asked .station (.refundHold 9) running).setStage .station (.pendingHold 9)
    let held := fun e st ph => { withHolds [hold .station .pending] (endingWith e st ph) with decoder := asks.decoder }
    let marked := withLane 0 (fun ln => { ln with faultMark := some .tailgate, current := some (good 5) })
      (endingWith .withdraw .released .released)
    let next := withLane 0 (fun ln => { ln with current := some (good 5) }) (endingWith .withdraw .released .released)
    (∀ x ∈ [(Ending.withdraw, LaneState.released, AdmissionPhase.released), (.commit, .passing, .passing), (.commit, .closing, .passing),
          (.withdraw, .closing, .released)],
        let s := held x.1 x.2.1 x.2.2
        s.laneHasTurn 0 = true ∧ (s.laneAt 0).admission = some (admission x.2.2) ∧ (s.laneAt 0).ending = x.1
          ∧ (s.laneAt 0).state.holdsAdmission = true ∧ s.record 9 = some { adult 9 with inFlight := some 0 }
          ∧ s.settlement.hold 9 = some (hold .station .pending) ∧ s.stage .station = some (.pendingHold 9)
          ∧ s.stage .office ≠ some (.pendingHold 9))
      ∧ ((run [.withdrawClaim 0] (held .withdraw .released .released)).decoder.station.inFlight = none
        ∧ ((run [.withdrawClaim 0] (held .withdraw .released .released)).port.window.isSome = true)
        ∧ (run [.withdrawClaim 0] (held .withdraw .released .released)).tally.inbox
            = [[holdEvent .holdPlaced (adult 9), riderEvent .withdrawn 0 (adult 9)]])
      ∧ (marked.laneHasTurn 0 = true ∧ marked.settlement.hold 9 = none ∧ marked.stage .office = none ∧ marked.stage .station = none
        ∧ ((run [.withdrawClaim 0] marked).laneAt 0).state = .fault
        ∧ ((run [.withdrawClaim 0] marked).laneAt 0).readerOut = [⟨5, .closed⟩])
      ∧ (((run [.withdrawClaim 0] next).laneAt 0).state = .deciding ∧ (next.laneAt 0).faultMark = none) := by decide +kernel

/-- A pass with no record: another lane's miss of it, the line that is not UP, the list (R71, R72). -/
theorem test_decision_absent :
    let up := { missing with link := { missing.link with state := .up } }
    (missing.record 5 = none ∧ 5 ∉ missing.table.revoked ∧ missing.lanePresent 0 = true
        ∧ (missing.laneAt 0).miss = some { pass := 5, start := 0 } ∧ missing.decision 1 5 = .refuse .inFlight)
      ∧ (up.record 6 = none ∧ up.decision 1 6 = .miss ∧ missing.decision 1 6 = .refuse .notFound)
      ∧ (running.updTable fun t => { t with revoked := [6] }).decision 1 6 = .refuse .revoked := by decide +kernel

/-! ## The pass table -/

/-- The arguments of an insert of pass p. -/
def insertOf (p : Nat) : InsertArgs :=
  { pass := p, cls := 0, kind := 0, entitled := 30, first := 0, last := 239, used := 0 }

/-- A full table, its least recent record pass 1 in this state. -/
def full (st : RecordState) : State :=
  running.updTable fun t => { t with
    records := (List.range 8192).map fun i => { adult (i + 1) with state := if i = 0 then st else .active }, recency := [1] }

theorem test_full_length (st : RecordState) : 8192 ≤ (full st).table.records.length := by simp [full, State.updTable]

theorem test_Insert :
    let s := asked .office (.passInsert (insertOf 4294967294)) running
    let m := asked .office (.passInsert (insertOf 5)) missing
    (HasClaim .office (.passInsert (insertOf 4294967294)) s ∧ checkInsert (insertOf 4294967294) = none
        ∧ s.record 4294967294 = none ∧ s.table.records.length < 8192)
      ∧ (HasClaim .office (.passInsert (insertOf 5)) m ∧ checkInsert (insertOf 5) = none ∧ m.record 5 = none
        ∧ m.missLane 5 = some 0) := by decide +kernel

theorem test_Insert_full :
    let s := asked .office (.passInsert (insertOf 0xFFFFFF)) (full .active)
    let t := asked .office (.passInsert (insertOf 0xFFFFFF)) (full .held)
    s.waitingRequest .office = some (.passInsert (insertOf 0xFFFFFF)) ∧ s.evictee = some 1 ∧ t.evictee = none := by
  decide +kernel

theorem test_ReplaceAndDrop :
    ∀ r ∈ [adult 9, { adult 9 with inFlight := some 0 }, { adult 9 with state := .held }, { adult 9 with state := .settled },
        { adult 9 with state := .revoked }, { adult 9 with unreported := oneDay 52 }],
      let insert := asked .office (.passInsert (insertOf 9)) (with9 fun _ => r)
      let drop := asked .office (.passDrop 9) (with9 fun _ => r)
      HasClaim .office (.passInsert (insertOf 9)) insert ∧ HasClaim .office (.passDrop 9) drop ∧ insert.record 9 = some r
        ∧ drop.record 9 = some r ∧ drop.settlement.collected 9 = false := by decide +kernel

theorem test_ReplaceAndDrop_arguments :
    let s := running.updSettlement fun u => { u with collection := some { tag := 1, entries := [⟨9, 0, true⟩] } }
    checkInsert (insertOf 9) = none ∧ badPass 9 = false ∧ classOfCode 0 = some .adult ∧ kindOfCode 0 = some .days
      ∧ s.settlement.collected 9 = true := by decide +kernel

/-- A PASS FIND of every record from pass 1 on. -/
def findAll (count : Nat) (invert : Bool) : FindArgs :=
  { invert := invert, start := 1, count := count, states := 0xF, classes := 0xF, kind := 2, minRefundable := 0,
    unreported := false, usedToday := false }

theorem test_Search :
    let walking := fun invert left => (asked .station (.passFind (findAll 1 invert))
      (withRecord (adult 10) (withRecord (adult 9) running))).setStage .station (.finding 1 left)
    let asks := fun invert left =>
      ((walking invert left).context .station).inFlight
          = some { request := .passFind (findAll 1 invert), answerable := true, stage := .finding 1 left }
        ∧ (walking invert left).hasTurn .station = true
    let ahead := (walking true (some 1)).table.records.filter fun r => decide (1 ≤ r.pass)
    (HasClaim .station (.passFind (findAll 0 false)) (asked .station (.passFind (findAll 0 false)) running)
        ∧ checkFind (findAll 0 false) = none)
      ∧ (asks false none ∧ (ahead.take 64).find? (fun r => (findAll 1 false).matches 57 r != false) = some (adult 9))
      ∧ (asks true (some 1) ∧ (∀ r ∈ ahead.take 1, (findAll 1 true).matches 57 r = true) ∧ ahead.drop 1 = [adult 10])
      ∧ (asks true none ∧ (∀ r ∈ ahead.take 64, (findAll 1 true).matches 57 r = true) ∧ ahead.drop 64 = []) := by
  decide +kernel

/-- With more records ahead than one step examines, the walk goes on. -/
theorem test_Search_goes_on :
    let ahead := (List.range 65).map fun i => adult (i + 1)
    (∀ r ∈ ahead.take 64, (findAll 0 true).matches 57 r = true) ∧ ahead.drop 64 = [adult 65]
      ∧ (ahead.take 64).getLast? = some (adult 64) ∧ walkFrom 1 (ahead.take 64) = 65 ∧ (none : Option Nat) ≠ some 64 := by
  decide +kernel

theorem test_TableClear :
    let s := fun u : State => asked .station .tableClear u
    let ok := fun u : State => HasClaim .station .tableClear (s u)
    let closed := fun u : State => ∀ l, (s u).lanePresent l = true → ((s u).laneAt l).state = .closed
    let swept := running.updTable fun t => { t with sweep := Sweep.started }
    let queued := running.updSettlement fun u => { u with queue := [9] }
    let opened := running.updSettlement fun u => { u with collection := some { tag := 1, entries := [] } }
    (ok swept ∧ (s swept).table.sweep.running = true)
      ∧ (ok ready ∧ (s ready).lanePresent 0 = true ∧ ((s ready).laneAt 0).state ≠ .closed)
      ∧ (ok queued ∧ closed queued ∧ (s queued).settlement.queue ≠ [])
      ∧ (ok (withHolds [hold .office .held] running) ∧ closed (withHolds [hold .office .held] running)
        ∧ (s (withHolds [hold .office .held] running)).settlement.queue = [])
      ∧ (ok opened ∧ closed opened ∧ (s opened).settlement.holds = [] ∧ (s opened).settlement.collection.isSome = true)
      ∧ (ok running ∧ closed running ∧ (s running).settlement.queue = [] ∧ (s running).settlement.holds = []
        ∧ (s running).settlement.collection = none) := by decide +kernel

theorem test_TableChecks :
    let claim := fun r => HasClaim .office r (asked .office r running)
    let turnless := fun r => (asked .station r (deciding 9)).hasTurn .station = false
        ∧ Waits .station r (asked .station r (deciding 9))
    (claim (.passInsert { insertOf 9 with last := 240 }) ∧ checkInsert { insertOf 9 with last := 240 } = some 12)
      ∧ (claim (.passDrop 0) ∧ badPass 0 = true) ∧ (claim (.passDrop 9) ∧ running.record 9 = none)
      ∧ (claim (.passRead 4294967295) ∧ badPass 4294967295 = true) ∧ claim (.passRead 9)
      ∧ (claim (.passFind { findAll 0 false with states := 0 }) ∧ checkFind { findAll 0 false with states := 0 } = some 10)
      ∧ (∀ r ∈ [Request.refundHold 0, .refundHold 9, .refundRelease 0, .refundRelease 9, .refundSettle 0 0, .refundSettle 9 241,
          .refundSettle 9 240], claim r)
      ∧ (∀ r ∈ [Request.passRead 9, .passInsert (insertOf 9), .passDrop 9, .passFind (findAll 0 false), .refundHold 9, .tableClear,
          .tableSize, .dayMerge 1 [⟨9, 0⟩], .revokeLoad ⟨false, 0, []⟩, .revokeRead 0 0, .refundSettle 9 1, .refundRelease 9,
          .usageCollect 0, .usageConfirm 1 true], turnless r) := by decide +kernel

theorem test_ClearStep :
    let c : Clear := { removed := 3, orphan := false }
    let clearing := fun c s => State.updTable (fun t => { t with clear := some c }) s
    let s := clearing c (with9 id)
    let e := clearing c running
    let busy := clearing c (deciding 9)
    let left := clearing { c with orphan := true } (deciding 9)
    let bare := clearing { c with orphan := true } running
    (s.table.clear = some c ∧ s.mayStep = true ∧ s.table.records = adult 9 :: [])
      ∧ (e.table.clear = some c ∧ e.mayStep = true ∧ e.table.records = [])
      ∧ (busy.table.clear = some c ∧ busy.mayStep = false)
      ∧ (left.table.clear = some { c with orphan := true } ∧ left.table.records = adult 9 :: []
        ∧ (run [.clearStep] left).table.records = [])
      ∧ (bare.table.records = [] ∧ (run [.clearStep] bare).table.clear = none ∧ (run [.clearStep] bare).port.window = none)
      ∧ running.table.clear = none := by decide +kernel

/-- A clear overtakes a DAY MERGE between its entries, and a REFUND HOLD already in flight is placed and goes with its record
(R13, R23, R24). -/
theorem test_ClearStep_with_requests_in_flight :
    let c : Clear := { removed := 0, orphan := false }
    let clearing := fun s => State.updTable (fun t => { t with clear := some c }) s
    let merging := clearing ((asked .office (.dayMerge 2 [⟨9, 0⟩, ⟨9, 0⟩]) (with9 id)).setStage .office
      (.merging [⟨9, 0⟩] [⟨9, .merged, 0, false, some .active⟩]))
    let first := clearing ((asked .office (.dayMerge 1 [⟨9, 0⟩]) (with9 id)).setStage .office (.merging [⟨9, 0⟩] []))
    let held := run [.refundHold .office] (clearing (asked .office (.refundHold 9) (with9 id)))
    (merging.mayStep = true ∧ merging.turn = .origin .office ∧ (run [.clearStep] merging).record 9 = none
        ∧ ((run [.clearStep, .dayMergeEntry .office] merging).decoder.office.inFlight = none))
      ∧ (first.mayStep = false ∧ run [.clearStep] first = first)
      ∧ (held.settlement.holds.length = 1 ∧ held.mayStep = true ∧ (run [.clearStep] held).settlement.holds = []
        ∧ (run [.clearStep] held).table.records = []) := by decide +kernel

theorem test_ClearStep_index : (with9 id).table.IndexOk := by
  refine ⟨?_, ?_, ?_, ?_, ?_, ?_⟩ <;> decide +kernel

/-! ## The revocation list -/

theorem test_Loads :
    let load := fun merge count es => ({ merge := merge, count := count, entries := es } : LoadArgs)
    let claim := fun a => HasClaim .office (.revokeLoad a) (asked .office (.revokeLoad a) running)
    let waiting := fun a => running.updTable fun t => { t with officeClaims := [.broadcastLoad a] }
    let swept := (waiting (load false 0 [])).updTable fun t => { t with sweep := Sweep.started }
    let overtaken := (waiting (load false 0 [])).updTable fun t => { t with clear := some { removed := 0, orphan := false } }
    overtaken.turn = .origin .office ∧ overtaken.clearing = true ∧ running.clearing = false ∧
    (claim (load false 2 [1, 4294967294]) ∧ judgeLoad [] (load false 2 [1, 4294967294]) = .accepted [1, 4294967294])
      ∧ judgeLoad [3, 5] (load true 2 [3, 4]) = .accepted [3, 4, 5]
      ∧ ((waiting (load false 0 [])).table.officeClaims = .broadcastLoad (load false 0 []) :: []
        ∧ (waiting (load false 0 [])).turn = .origin .office ∧ judgeLoad [] (load false 0 []) = .accepted [])
      ∧ (swept.turn = .origin .office ∧ swept.table.sweep.running = true)
      ∧ (claim (load false 2049 []) ∧ 2048 < (load false 2049 []).count)
      ∧ (claim (load false 2 [7, 7]) ∧ badEntry 0 none [7, 7] = some 1 ∧ badEntry 0 none [0] = some 0
        ∧ judgeLoad [] (load false 2 [7, 7]) = .badList 1) := by decide +kernel

theorem test_Sweep :
    let s := fun f => (with9 f).updTable fun t => { t with sweep := Sweep.started }
    let done := (s id).updTable fun t => { t with sweep := { Sweep.started with position := some 9 } }
    let on := (s id).updTable fun t => { t with revoked := [9] }
    let off := s fun r => { r with state := .revoked }
    (on.mayStep = true ∧ on.table.sweepTarget = some (adult 9) ∧ on.record 9 = some (adult 9)
        ∧ ((run [.sweepStep] on).record 9).map (·.state) = some .revoked)
      ∧ (off.mayStep = true ∧ off.table.sweepTarget.isSome = true
        ∧ ((run [.sweepStep] off).record 9).map (·.state) = some .active)
      ∧ (done.mayStep = true ∧ done.table.sweep.running = true ∧ done.table.sweepTarget = none) := by decide +kernel

/-! ## Refund holds -/

theorem test_HoldsArePlaced :
    let at_ := fun (f : PassRecord → PassRecord) => asked .station (.refundHold 9) (with9 f)
    let held := fun o => withHolds [hold o .held] (at_ id)
    let many := withHolds ((List.range 16).map fun i => { hold .office .held with pass := 100 + i }) (at_ id)
    let fifteen := withHolds ((List.range 15).map fun i => { hold .station .held with pass := 100 + i }) (at_ id)
    let off := askedUnanswerable .office (.refundHold 9) (with9 fun r => { r with inFlight := some 0 })
    (∀ f ∈ [id, fun r => { r with state := .revoked }, fun r => { r with state := .settled },
          fun r : PassRecord => { r with inFlight := some 0 }],
        HasClaim .station (.refundHold 9) (at_ f) ∧ (at_ f).record 9 = some (f (adult 9)) ∧ (at_ f).settlement.hold 9 = none
          ∧ (at_ f).clearing = false ∧ (at_ f).settlement.holds.length < 16 ∧ ((at_ f).countedPasses .station).length < 16)
      ∧ (∀ o ∈ [Origin.station, .office], HasClaim .station (.refundHold 9) (held o)
          ∧ (held o).settlement.hold 9 = some (hold o .held) ∧ (held o).clearing = false)
      ∧ (HasClaim .station (.refundHold 9) many ∧ 16 ≤ many.settlement.holds.length ∧ many.settlement.hold 9 = none)
      ∧ (HasClaim .station (.refundHold 9) fifteen ∧ fifteen.settlement.holds.length < 16
        ∧ (fifteen.countedPasses .station).length < 16)
      ∧ (HasClaim .office (.refundHold 9) off ∧ (off.context .office).inFlight.any (·.answerable) = false) := by
  decide +kernel

theorem test_HoldsAreSettledAndReleased :
    let base := fun q es f => withHolds es (asked .station q (withRecord (f (adult 9)) running))
    let listed := fun s : State => s.updTable fun t => { t with revoked := [9] }
    let settled := fun r : PassRecord => { r with state := .settled }
    ∀ q ∈ [Request.refundSettle 9 3, .refundSettle 9 4, .refundSettle 9 240, .refundRelease 9],
      (∀ e ∈ [hold .station .held, hold .office .held, hold .station .pending],
        HasClaim .station q (base q [e] id) ∧ (base q [e] id).record 9 = some (adult 9)
          ∧ (base q [e] id).settlement.hold 9 = some e ∧ HasClaim .station q (listed (base q [e] id))
          ∧ (listed (base q [e] id)).table.listed 9 = true ∧ (base q [e] id).table.listed 9 = false)
      ∧ (HasClaim .station q (base q [] settled) ∧ (base q [] settled).settlement.hold 9 = none
        ∧ (base q [] settled).record 9 = some (settled (adult 9)))
      ∧ (adult 9).refundable 57 = 3 := by decide +kernel

theorem test_HoldsLapse :
    let s := withHolds [hold .office .held] (with9 fun r => { r with state := .held })
    let t := s.updSettlement fun u => { u with lapseClaim := some 9 }
    Expired s (hold .office .held).deadline ∧ (s.settlement.firstHeld = some (hold .office .held) ∧ s.settlement.lapseClaim = none
      ∧ t.settlement.lapseClaim = some 9 ∧ t.turn = .settlement ∧ t.settlement.hold 9 = some (hold .office .held)
      ∧ t.now = s.now ∧ t.record 9 = some { adult 9 with state := .held }) :=
  ⟨Expired_of_due (by decide +kernel), by decide +kernel⟩

/-! ## Usage and merging -/

/-- Pass 9 with day 52 unreported, in the report queue. -/
def unreported : State := (with9 fun r => { r with unreported := oneDay 52 }).updSettlement fun u => { u with queue := [9] }

theorem test_Collect :
    let s := fun n u => asked .office (.usageCollect n) u
    let opened := running.updSettlement fun u => { u with collection := some { tag := 1, entries := [] } }
    let off := askedUnanswerable .office (.usageCollect 1) running
    (HasClaim .office (.usageCollect 64) (s 64 opened) ∧ (s 64 opened).settlement.collection.isSome = true)
      ∧ (HasClaim .office (.usageCollect 1) off ∧ off.settlement.collection = none
        ∧ (off.context .office).inFlight.any (!·.answerable) = true)
      ∧ (HasClaim .office (.usageCollect 0) (s 0 running) ∧ (s 0 running).settlement.queue = []
        ∧ ((s 0 running).context .office).inFlight.any (!·.answerable) = false)
      ∧ (HasClaim .office (.usageCollect 0) (s 0 unreported) ∧ (s 0 unreported).settlement.queue ≠ []
        ∧ (s 0 unreported).settlement.collection = none
        ∧ ((run [.usageCollect .office] (s 0 unreported)).settlement.collection
            = some { tag := 1, entries := [⟨9, oneDay 52, false⟩] })) := by decide +kernel

theorem test_Confirm :
    let c : Collection := { tag := 7, entries := [⟨9, oneDay 52, false⟩, ⟨10, oneDay 50, true⟩] }
    let s := fun tag d => asked .office (.usageConfirm tag d) (unreported.updSettlement fun u => { u with collection := some c })
    (HasClaim .office (.usageConfirm 6 false) (s 6 false) ∧ (s 6 false).settlement.collection.all (·.tag != 6) = true)
      ∧ (HasClaim .office (.usageConfirm 7 true) (s 7 true) ∧ (s 7 true).settlement.collection = some c)
      ∧ (HasClaim .office (.usageConfirm 7 false) (s 7 false) ∧ (s 7 false).settlement.collection = some c
        ∧ (c.entries.map (·.pass)).Nodup
        ∧ (∀ e ∈ c.entries.filter (fun e => !e.void), ((s 7 false).record e.pass).isSome = true)
        ∧ ((run [.usageConfirm .office] (s 7 false)).record 9).map (·.unreported) = some 0)
      ∧ 0 < (running.updSettlement fun u => { u with drops := 1 }).settlement.drops := by decide +kernel

theorem test_Merge :
    let es := [⟨9, 1#256 <<< 60⟩, ⟨10, 1#256 <<< 60⟩, ⟨9, 1#256 <<< 240⟩, ⟨0, 1#256⟩]
    let s := asked .office (.dayMerge 4 es) (with9 id)
    let m := s.setStage .office (.merging es [])
    (HasClaim .office (.dayMerge 4 es) s)
      ∧ (m.stage .office = some (.merging es []) ∧ m.hasTurn .office = true ∧ m.record 9 = some (adult 9) ∧ m.record 10 = none
        ∧ badPass 9 = false ∧ badPass 0 = true ∧ (1#256 <<< 60) >>> 240 = 0 ∧ (1#256 <<< 240) >>> 240 ≠ 0)
      ∧ (let t := run ((List.range 4).map fun _ => .dayMergeEntry .office) m
         (t.record 9).map (·.used) = some (daySet [52, 60]) ∧ t.decoder.office.inFlight = none) := by decide +kernel

/-! ## The tally unit -/

/-- A program that counts the passages of lane 0 and crosses at this threshold. -/
def passages (threshold : Nat) (action : TallyAction) : Program :=
  { Program.disabled with kind := some .passage, lanes := 1, classes := 0xF, threshold := threshold, action := action }

/-- The running part with counter 0 at this value, counter 1 armed by it, and one passage waiting. -/
def counting (value : Nat) (p : Program) : State :=
  running.updTally fun t => { t with
    counters := (t.counters.set 0 { Counter.zeroed p with value := value }).set 1
      (Counter.zeroed { passages 0 .none with armSource := some 0 }),
    inbox := [[{ kind := .passage, lane := some 0, cls := some .adult, reason := none }]] }

theorem test_EventsAreCounted :
    let e : Event := { kind := .passage, lane := some 0, cls := some .adult, reason := none }
    let s := counting 4 (passages 5 .pace)
    let bound := counting 4294967295 (passages 5 .pace)
    s.tally.inbox[0]? = some (e :: [])
      ∧ ((s.tally.counters[0]).counts s.presentLanes e = true ∧ (s.tally.counters[0]).value + 1 = 5)
      ∧ (s.tally.counters[1]).counts s.presentLanes e = false
      ∧ ((bound.tally.counters[0]).counts bound.presentLanes e = true ∧ (bound.tally.counters[0]).value = 4294967295)
      ∧ ((run [.tallyEvent 0] s).tally.counters[1]).armed = true
      ∧ ((run [.tallyEvent 0] s).laneAt 0).pacing = [.start] := by decide +kernel

theorem test_TallyRequests :
    let bytes := [0x01, 0x01, 0x0F, 0, 0, 0, 0xFF, 0, 5, 0, 0, 0, 0, 0, 0, 0]
    let s := fun n bs => asked .station (.tallyProgram n bs) running
    let clear := fun m => asked .office (.tallyClear m) (counting 4 (passages 5 .pace))
    (Waits .station (.tallyProgram 12 bytes) (s 12 bytes))
      ∧ (Waits .station (.tallyProgram 11 []) (s 11 []) ∧ Waits .station (.tallyProgram 11 bytes) (s 11 bytes))
      ∧ (Waits .office (.tallyClear 0) (clear 0) ∧ Waits .office (.tallyClear 0x801) (clear 0x801)) := by decide +kernel

theorem test_TallyProgram_checks :
    (match checkProgram running.badLaneMask 11 [0x01, 0x01, 0x0F, 0, 0, 0, 0xFF, 0, 5, 0, 0, 0, 0, 0, 0, 0] with
      | .ok p => p = passages 5 .none | .error _ => False)
      ∧ (match checkProgram running.badLaneMask 11 [0x01, 0x01, 0x0F, 0, 0, 0, 11, 0, 5, 0, 0, 0, 0, 0, 0, 0] with
      | .ok _ => False | .error off => off = 6) := by
  constructor
  · show passages 5 .none = passages 5 .none
    rfl
  · show 6 = 6
    rfl

theorem test_HistoryRead :
    let s := running.updTally fun t => { t with ring := [⟨⟨30, 900⟩, 900, []⟩, ⟨⟨30, 1800⟩, 900, []⟩], officeCursor := 1 }
    Waits .station (.historyRead 8 true) (asked .station (.historyRead 8 true) s)
      ∧ Waits .office (.historyRead 0 false) (asked .office (.historyRead 0 false) s)
      ∧ (run [.historyRead .station] (asked .station (.historyRead 0 false) s)).tally.ring = [⟨⟨30, 1800⟩, 900, []⟩] := by
  decide +kernel

/-! ## The decoder -/

theorem test_Notices :
    let n := Notice.lane 0 .ready .none
    let miss := Notice.miss 0 5
    let d := { running.decoder with
      laneMsgs := [.notice n, .removeMiss 0], tallyMsgs := [.tally 0 .notice 5 ⟨57, 0⟩],
      settlementMsgs := [⟨.station, .lapse 9 .active ⟨57, 0⟩⟩], linkMsgs := [.link .up .none], tableMsgs := [.sweep 1 2 3] }
    let s := { running with decoder := d }
    s.decoder.laneMsgs = .notice n :: [.removeMiss 0] ∧ s.decoder.tallyMsgs ≠ [] ∧ s.decoder.settlementMsgs ≠ []
      ∧ s.decoder.linkMsgs ≠ [] ∧ s.decoder.tableMsgs ≠ []
      ∧ (run [.noticePlacement .laneController] s).decoder.laneMsgs = .removeMiss 0 :: []
      ∧ (∀ x ∈ [QueuedNotice.mk miss false], x.notice.sameSubject n = false)
      ∧ (Notice.lane 0 .fault .stuck).sameSubject n = true := by decide +kernel

theorem test_DecoderRequests :
    let ok := [ProfilePair.mk 1 0 255, ⟨9, 7, 3⟩]
    let bad := [ProfilePair.mk 1 0 5, ⟨9, 8, 3⟩]
    let s := fun r => asked .station r running
    (Waits .station (.profileSet 2 ok) (s (.profileSet 2 ok)) ∧ Waits .station (.profileSet 2 bad) (s (.profileSet 2 bad))
        ∧ checkPairs running.presentNat .station 0 bad = some (1, .badArgument))
      ∧ (Waits .station (.watchSet 1 1 true) (s (.watchSet 1 1 true))
        ∧ Waits .office (.watchSet 1 1 true) (asked .office (.watchSet 1 1 true) running))
      ∧ Waits .station .conditionRead (s .conditionRead) ∧ Waits .station .markWarm (s .markWarm) := by decide +kernel

theorem test_ProfileSet_applies :
    checkPairs running.presentNat .station 0 [ProfilePair.mk 1 0 10, ⟨9, 7, 3⟩] = none := by decide +kernel

theorem test_BlocksAreTakenOrAnswered :
    let read := [0x36] ++ List.replicate 15 0
    let busy := asked .office .clockRead running
    let clearing := running.updTable fun t => { t with clear := some { removed := 0, orphan := true } }
    busy.originBusy .office = true ∧ running.originBusy .station = false
      ∧ checkBlock running.decoder.profile .station read = .passed .clockRead
      ∧ checkBlock running.decoder.profile .office ([0x15] ++ List.replicate 15 0) = .failed .notPermitted none
      ∧ checkBlock running.decoder.profile .office ([0x36, 1] ++ List.replicate 14 0) = .failed .invalidField (blockField 1)
      ∧ checkBlock running.decoder.profile .office (List.replicate 16 0) = .failed .invalidField (blockField 0)
      ∧ checkBlock running.decoder.profile .station ([0x41] ++ List.replicate 15 0) = .passed .conditionRead
      ∧ (∀ o ∈ [Origin.station, .office], clearing.originBusy o = false ∧ clearing.clearing = true
        ∧ checkBlock clearing.decoder.profile o ([0x14] ++ List.replicate 15 0) = .passed .tableSize) := by decide +kernel

/-! ## The station port -/

theorem test_Port :
    let filling := run [.request 1] running
    let waits := run [.clockRead .station] (asked .station .clockRead running)
    let late := { filling with port := { filling.port with fill := List.replicate 15 0 } }
    (1 : Word).getLsbD 0 = true ∧ (8 : Word).getLsbD 2 = false ∧ filling.port.filling = true
      ∧ (waits.port.filling = false ∧ waits.port.answerWaits = true) ∧ running.port.answerWaits = false
      ∧ ((filling.port.fill ++ [0, 0]).take filling.port.target).length < filling.port.target
      ∧ ((late.port.fill ++ [0, 0]).take late.port.target).length = late.port.target := by decide +kernel

theorem test_PortOutput :
    let waits := run [.clockRead .station] (asked .station .clockRead running)
    let two := run [.clockRead .station] (asked .station .clockRead waits)
    let granted := run [.request 1] waits
    running.port.window = none
      ∧ waits.port.window.any (fun x => decide (2 * x.position < x.item.bytes.length)) = true
      ∧ waits.port.answers = [] ∧ waits.port.grantPending = false
      ∧ (run (List.replicate 30 .outputWindow) waits).port.window.any (fun x => decide (x.item.bytes.length ≤ 2 * x.position)) = true
      ∧ two.port.answers.length = 1 ∧ granted.port.grantPending = true
      ∧ (run [.coldReset true true] State.reset).port.spi = true ∧ (0x04 : Byte) &&& 0x7C ≠ 0 ∧ running.port.spi = false := by
  decide +kernel

/-! ## The office link -/

theorem test_LineOpensAndCloses :
    let o := fun st => asked .station (.linkOpen 254 4 1 1) (lined st)
    let c := fun st p => asked .station .linkClose ((lined st).updLink fun k => { k with closePending := p })
    (Waits .station (.linkOpen 254 4 1 1) (o .down) ∧ checkLinkOpen 254 4 1 1 = none ∧ (o .down).link.state = .down)
      ∧ (checkLinkOpen 0 0 0 0 = some 4 ∧ checkLinkOpen 255 0 0 0 = some 4)
      ∧ (Waits .station (.linkOpen 254 4 1 1) (o .armed) ∧ (o .armed).link.state ≠ .down)
      ∧ (∀ st ∈ [LineState.down, .armed, .starting, .up, .fading, .dropping],
          Waits .station .linkClose (c st false) ∧ (c st false).link.state = st)
      ∧ (Waits .station .linkClose (c .dropping true) ∧ (c .dropping true).link.closePending = true) := by decide +kernel

theorem test_LineMovesByInputs :
    let on := fun st (r c t : Bool) => (lined st).updLink fun k => { k with lineReady := r, carrier := c, clearToSend := t }
    ((on .armed false true true).link.state = .armed ∧ (on .armed false true true).link.lineReady = false)
      ∧ (∀ st ∈ [LineState.starting, .up, .fading], (on st true true true).link.state = st)
      ∧ (let s := (on .dropping true false false).updLink fun k => { k with shortPassed := true }
         s.link.lineReady = true ∧ s.link.state = .dropping ∧ s.link.shortPassed = true)
      ∧ ((on .fading true false true).link.carrier = false ∧ (on .fading true false true).link.state = .fading)
      ∧ ((on .starting true true false).link.clearToSend = false ∧ (on .starting true true false).link.lineReady = true)
      ∧ running.link.dataOnly = false ∧ (running.updLink fun k => { k with dataOnly := true }).link.dataOnly = true := by
  decide +kernel

theorem test_LineTimers :
    let s := fun st (f : Link → Link) => (lined st).updLink f
    Expired (s .starting fun k => { k with startTimer := some 100 }) (some 100)
      ∧ Expired (s .fading fun k => { k with fadeTimer := some 100 }) (some 100)
      ∧ Expired (s .dropping fun k => { k with dropShort := some 100, dropLong := some 100 }) (some 100)
      ∧ ((s .dropping fun k => { k with lineReady := true }).link.readyIn = true
        ∧ (s .dropping fun k => { k with dropShort := some 100 }).link.readyIn = false) :=
  ⟨Expired_of_due (by decide +kernel), Expired_of_due (by decide +kernel), Expired_of_due (by decide +kernel),
    by decide +kernel⟩

theorem test_Frames :
    let up := lined .up
    let set := [0x35, 0, 0, 0, 57, 150] ++ List.replicate 10 0
    let load := [0x21] ++ List.replicate 15 0
    let waiting := fun r => asked .office r up
    let pending := (waiting (.refundHold 9)).setStage .office (.pendingHold 9)
    let sending := up.updLink fun k => { k with slots := [[1]], sending := true }
    up.link.state = .up ∧ requestForm set = true ∧ running.link.state ≠ .up
      ∧ checkBlock up.decoder.profile .office set = .passed (.clockSet ⟨57, 0, 150⟩)
      ∧ checkBlock up.decoder.profile .office load = .passed (.revokeLoad ⟨false, 0, []⟩)
      ∧ checkBlock up.decoder.profile .office (List.replicate 16 0) = .failed .invalidField (blockField 0)
      ∧ pending.decoder.office.inFlight = some { request := .refundHold 9, answerable := true, stage := .pendingHold 9 }
      ∧ (waiting .clockRead).decoder.office.inFlight = some { request := .clockRead, answerable := true, stage := .waiting }
      ∧ judgeFrame 5 [1, 2, 3, 4, 5] = .bad ∧ judgeFrame 5 [] = .nothing
      ∧ sending.link.slots = [1] :: [] ∧ sending.link.sending = true := by decide +kernel

/-- The long requests an ABORT ends, of either origin (R25, R115, R175), and the port's own part (R194). -/
theorem test_Aborts :
    let filling := run [.request 1, .requestWindow 0] running
    let pend := fun o => withHolds [hold o .pending] ((asked o (.refundHold 9) running).setStage o (.pendingHold 9))
    let clearing := ((asked .station .tableClear running).setStage .station .clearing).updTable fun t =>
      { t with clear := some { removed := 0, orphan := false } }
    (∀ o ∈ [Origin.station, .office],
        ((asked o (.refundHold 9) running).context o).inFlight = some { request := .refundHold 9, answerable := true, stage := .waiting }
          ∧ ((pend o).context o).inFlight = some { request := .refundHold 9, answerable := true, stage := .pendingHold 9 }
          ∧ (running.context o).inFlight = none
          ∧ ((asked o .clockRead running).context o).inFlight = some { request := .clockRead, answerable := true, stage := .waiting }
          ∧ ((pend o).abortEvent o).settlement.holds = [])
      ∧ ((asked .station .tableClear running).context .station).inFlight
          = some { request := .tableClear, answerable := true, stage := .waiting }
      ∧ (clearing.context .station).inFlight = some { request := .tableClear, answerable := true, stage := .clearing }
      ∧ ((run [.abort 2] clearing).table.clear = none ∧ (run [.abort 2] clearing).decoder.station.inFlight = none)
      ∧ filling.port.filling = true ∧ (run [.abort 2] filling).port.fill = [] ∧ running.port.filling = false := by decide +kernel

/-- Whole SPI transfers, and carrier completing the start (R189, R198). -/
theorem test_Spi_and_carrier :
    let s := (lined .starting).updLink fun k => { k with lineReady := true, clearToSend := true }
    spiAccess [0x81, 0x10, 0x00] = .write 1 0x0010 ∧ spiAccess [0x02, 0, 0, 7] = .read 2 ∧ spiAccess [0x01, 0] = .short
      ∧ spiAccess [0x85, 0, 0] = .bad 0x85 ∧ spiSent 0x1234 3 = [0x34, 0x12, 0x00]
      ∧ PortAccess.command (.write 0 6) = some (.abort 6) ∧ running.port.readWord 1 = 0
      ∧ (s.link.carrier = false ∧ s.link.state = .starting ∧ s.link.lineReady = true ∧ s.link.clearToSend = true
        ∧ (run [.carrier true] s).link.state = .up) := by decide +kernel

/-! ## What every step keeps -/

theorem test_Sound_at_reset : State.reset.Sound where
  clock := by unfold Clock.Ok; decide +kernel
  records := fun _ h => nomatch h
  index := by refine ⟨?_, ?_, ?_, ?_, ?_, ?_⟩ <;> decide +kernel
  list := by unfold Table.ListOk; decide +kernel
  lanes := by unfold State.LanesOk Lane.Ok; decide +kernel
  absent := by unfold State.AbsentOk; decide +kernel
  clear := by unfold State.ClearOk; decide +kernel
  flight := ⟨by decide +kernel, by decide +kernel⟩
  queue := by unfold State.QueueOk; decide +kernel
  holds := by
    refine ⟨?_, ?_, ?_, ?_, ?_, ?_, ?_⟩
    · decide +kernel
    · exact List.Pairwise.nil
    · decide +kernel
    · decide +kernel
    · decide +kernel
    · decide +kernel
    · intro o p h
      cases o <;> cases h
  collection := ⟨by decide +kernel, fun _ h => nomatch h⟩
  tally := by unfold Tally.Ok Counter.Ok; decide +kernel
  notices := ⟨List.Pairwise.nil, List.Pairwise.nil⟩
  port := by unfold State.PortOk; decide +kernel
  officeAnswers := by unfold State.OfficeAnswersOk; decide +kernel
  link := by unfold Link.Ok; decide +kernel

theorem test_Step_from_reset : ∃ t, step State.reset = .next t := ⟨_, rfl⟩


/-! ## The further clauses of these obligations -/

/-- Answers where others wait: at a presented and at an emptied window, and a BUSY answer in the place of one that waits (R193,
R205). -/
theorem test_AnswersJoinTheirList :
    let a : Answer := { requestCode := 1, status := .complete, condition := none, data := [] }
    let b : OfficeAnswer := { answer := { a with status := .busy }, taken := false }
    let p := run [.clockRead .station] (asked .station .clockRead running)
    p.port.window.isSome = true ∧ running.port.window = none
      ∧ (Port.takeAnswer a { running.port with answers := [{ a with requestCode := 2 }] }).answers = [a]
      ∧ (∀ x ∈ [OfficeAnswer.mk a true], x.answer.status ≠ .busy) ∧ b.answer.status = .busy
      ∧ joinOfficeAnswer { answer := { a with status := .busy, requestCode := 7 }, taken := false } [OfficeAnswer.mk a true, b]
        = [OfficeAnswer.mk a true, { answer := { a with status := .busy, requestCode := 7 }, taken := false }]
      ∧ (askedUnanswerable .station .clockRead running).decoder.station.inFlight.isSome = true := by decide +kernel

/-- Beams in CLOSING, while an ending claim waits, and restores with no passage to end (R55 to R58). -/
theorem test_BeamsWhileEnding :
    let broken := withLane 0 fun ln => { ln with entryBeam := .broken, exitBeam := .broken }
    (∀ x ∈ [(Ending.commit, LaneState.passing, AdmissionPhase.passing), (.withdraw, .released, .released), (.commit, .closing, .passing)],
        let s := endingWith x.1 x.2.1 x.2.2
        (s.laneAt 0).state.holdsAdmission = true ∧ (s.laneAt 0).ending ≠ .none ∧ BeamAt 0 .entry .clear s
          ∧ BeamAt 0 .exit .clear s ∧ BeamAt 0 .entry .broken (broken s) ∧ BeamAt 0 .exit .broken (broken s)
          ∧ ((broken s).laneAt 0).ending ≠ .none)
      ∧ (∀ ph ∈ [AdmissionPhase.released, .passing], (admitted .closing ph).lanePresent 0 = true
        ∧ ((admitted .closing ph).laneAt 0).state.holdsAdmission = true ∧ BeamAt 0 .entry .clear (admitted .closing ph))
      ∧ (run [.beamBreak 0 .entry] (admitted .closing .released)).laneAt 0 = { (admitted .closing .released).laneAt 0 with
          entryBeam := .broken, admission := some (admission .passing), limit := some 20100 }
      ∧ (run [.beamBreak 0 .exit] (endingWith .commit .passing .passing)).tally.inbox = [[laneEvent .reverse 0]]
      ∧ (BeamAt 0 .exit .broken (broken (admitted .passing .passing))
        ∧ ((broken (admitted .passing .passing)).laneAt 0).exitSeen = false
        ∧ BeamAt 0 .exit .broken (broken running) ∧ (running.laneAt 0).admission = none) := by decide +kernel

/-- A lane of four and one of eight raise their LANE notices in ascending order at one LANE CLOSE (R62, log entry 30). -/
theorem test_LaneNoticeOrder :
    let s := withLane 5 (fun ln => { ln with state := .ready }) (inState .ready running)
    (run [.laneClose .station] (asked .station (.laneClose 0x21) s)).decoder.laneMsgs
      = [.notice (.lane 0 .closed .none), .notice (.lane 5 .closed .none)] := by decide +kernel

/-- TABLE FULL while lane 0 waits for the pass (R15, R84). -/
theorem test_Insert_full_missed :
    let late := withLane 0 (fun ln => { ln with miss := some { pass := 9000, start := 0 } }) missing
    let s := asked .office (.passInsert (insertOf 9000)) (late.updTable fun _ => (full .held).table)
    HasClaim .office (.passInsert (insertOf 9000)) s ∧ s.record 9000 = none ∧ s.missLane 9000 = some 0
      ∧ s.missLane 6 = none ∧ s.evictee = none ∧ (s.laneAt 0).miss = some { pass := 9000, start := 0 } := by decide +kernel

/-- A merge whose union exceeds the list's size, and the first bad entry of several (R97 to R99). -/
theorem test_Loads_full :
    let held := (List.range 2048).map (· + 1)
    judgeLoad held { merge := true, count := 1, entries := [3000] } = .listFull
      ∧ held.length = 2048 ∧ judgeLoad [] { merge := false, count := 2049, entries := [] } = .listFull
      ∧ judgeLoad [] { merge := false, count := 4, entries := [1, 4294967295, 0, 2] } = .badList 1
      ∧ judgeLoad held { merge := true, count := 1, entries := [2048] } ≠ .listFull := by decide +kernel

theorem test_Sweep_waits :
    let s := (deciding 9).updTable fun t => { t with sweep := Sweep.started }
    s.mayStep = false ∧ run [.sweepStep] s = s ∧ running.table.sweep.running = false := by decide +kernel

/-- A lapse claim that finds no hold due, one without its turn, and a timer with a claim before it (R121, R122). -/
theorem test_HoldsLapse_none :
    let claimed := fun s => State.updSettlement (fun u => { u with lapseClaim := some 9 }) s
    let later := { hold .office .held with deadline := some 101 }
    let other := { hold .office .held with pass := 10 }
    (∀ es ∈ [[], [hold .office .pending], [later], [other]],
        let s := claimed (withHolds es running)
        s.settlement.lapseClaim = some 9 ∧ s.turn = .settlement
          ∧ (s.settlement.hold 9).all (fun e => e.phase == .pending || !due s.now e.deadline) = true)
      ∧ (run [.lapseClaim] (claimed (withHolds [other] running))).settlement.lapseClaim = some 10
      ∧ (run [.lapseClaim] (claimed (withHolds [later] running))).settlement.lapseClaim = none
      ∧ (claimed (deciding 9)).turn ≠ .settlement ∧ running.settlement.lapseClaim = none := by decide +kernel

/-- The counts and masks that fail, at the edges of their ranges (R20, R106, R134, R141, R166, R167, R180). -/
theorem test_CountsOutOfRange :
    let claim := fun r => HasClaim .office r (asked .office r running)
    let waits := fun r => Waits .office r (asked .office r running)
    claim (.usageCollect 65) ∧ claim (.dayMerge 0 []) ∧ claim (.dayMerge 129 []) ∧ claim (.revokeRead 2049 0)
      ∧ claim (.revokeRead 2048 257) ∧ waits (.historyRead 9 false) ∧ waits (.tallyRead 0) ∧ waits (.profileSet 0 [])
      ∧ waits (.profileSet 33 []) := by decide +kernel

/-- Two counters that cross at one event raise TALLY in ascending number, one of action NONE raises nothing (R153). -/
theorem test_EventsCross :
    let s := (counting 4 (passages 5 .notice)).updTally fun t => { t with
      counters := (t.counters.set 3 { Counter.zeroed (passages 1 .pace) with value := 0 }).set 2 (Counter.zeroed (passages 1 .none)) }
    let e : Event := { kind := .passage, lane := some 0, cls := some .adult, reason := none }
    CrossesAt s.presentLanes e s.tally.counters[0] ∧ CrossesAt s.presentLanes e s.tally.counters[2]
      ∧ ¬ CrossesAt s.presentLanes e s.tally.counters[1]
      ∧ (run [.tallyEvent 0] s).decoder.tallyMsgs = [.tally 0 .notice 5 s.stamp, .tally 3 .pace 1 s.stamp] := by decide +kernel

/-- The tests of a pair, each failing alone, and values at the edges of the ranges (R180). -/
theorem test_PairFaults :
    let f := fun o code lane value => pairFault o fourLanes ⟨code, lane, value⟩
    (f .station 0 0 0 = some .badArgument ∧ f .station 12 0 0 = some .badArgument)
      ∧ (f .station 10 0 0 = some .notPermitted ∧ f .office 9 0 1 = some .notPermitted)
      ∧ (f .station 8 4 0 = some .badArgument ∧ f .station 1 1 0 = some .badArgument ∧ f .station 8 3 2 = none)
      ∧ (f .station 4 0 499 = some .badArgument ∧ f .station 4 0 500 = none ∧ f .station 4 0 5000 = none
        ∧ f .station 9 0 16 = some .badArgument ∧ f .office 11 0 1 = none) := by decide +kernel

/-- A count outside its own range leaves the length to the port's limit; one in it does not (R173). -/
theorem test_LengthsAndCounts :
    let check := fun o (b : List Byte) => checkBlock running.decoder.profile o (b ++ List.replicate (16 - b.length) 0)
    check .office [0x27, 0, 5, 0, 65] = .passed (.usageCollect 65)
      ∧ check .office [0x27, 0, 5, 0, 64] = .failed .invalidField (blockField 2)
      ∧ check .office [0x22, 0, 1, 0, 0, 0, 1, 1] = .passed (.revokeRead 0 257)
      ∧ check .station [0x3C, 0, 1, 4, 9] = .failed .invalidField (blockField 2)
      ∧ check .station [0x3C, 0, 0, 4, 9] = .passed (.historyRead 9 false)
      ∧ (∃ r, check .station [0x13, 0, 1, 0, 1, 0, 0, 0, 1, 32, 1, 1] = .passed r)
      ∧ check .station [0x13, 0, 1, 0, 1, 0, 0, 0, 0, 32, 1, 1] = .failed .invalidField (blockField 2)
      ∧ check .office [0x36, 0, 0, 0, 0, 1] = .failed .invalidField (blockField 5) :=
  ⟨by decide +kernel, by decide +kernel, by decide +kernel, by decide +kernel, by decide +kernel, ⟨_, rfl⟩,
    by decide +kernel, by decide +kernel⟩

/-- An empty slot takes the answer before the notice, and a frame begins while clear-to-send is high (R205). -/
theorem test_SlotsAreFilled :
    let a : OfficeAnswer := { answer := { requestCode := 1, status := .complete, condition := none, data := [] }, taken := true }
    let k := { running.link with state := .up, answers := [a], queue := [⟨.link .up .none, false⟩], clearToSend := true }
    k.pump.slots = [frameBytes k.address 2 a.answer.bytes, frameBytes k.address 3 (QueuedNotice.mk (.link .up .none) false).bytes]
      ∧ k.pump.answers = [] ∧ k.pump.queue = [] ∧ k.pump.sending = true
      ∧ ({ k with clearToSend := false }.pump).sending = false ∧ ({ k with state := .fading }.pump).answers = [a] := by
  decide +kernel

/-! ## Turns, entries into FAULT, pacing that a request ends -/

/-- Lanes 1 and 3 wait for their decisions. -/
def twoWait (last : LaneNo) : State :=
  ([1, 3].foldl (fun s l => withLane l (fun ln => { ln with state := .deciding, current := some (good 9) }) s) running).updTable
    fun t => { t with lastLane := last }

/-- The turn at the edges of each rank of R12: round after the last lane served, then the lapse, then the origin not served
last, then a step; a broadcast's claim is not the office's own. -/
theorem test_Turns :
    let both := fun o => ((asked .office .tableSize (asked .station .tableSize running))).updTable fun t => { t with lastOrigin := o }
    ((twoWait 7).turn = .lane 1 ∧ (twoWait 1).turn = .lane 3 ∧ (twoWait 3).turn = .lane 1 ∧ (twoWait 2).turn = .lane 3)
      ∧ (∀ l, (twoWait l).table.clear = none)
      ∧ run [.decisionClaim 3] (twoWait 7) = twoWait 7
      ∧ ((both .station).updSettlement fun u => { u with lapseClaim := some 9 }).turn = .settlement
      ∧ ((both .station).turn = .origin .office ∧ (both .office).turn = .origin .station ∧ (both .station).hasTurn .office = true)
      ∧ (let s := (both .station).updTable fun t => { t with officeClaims := [.broadcastLoad { merge := false, count := 0, entries := [] }, .own] }
         s.turn = .origin .office ∧ s.hasTurn .office = false)
      ∧ running.turn = .background := by decide +kernel

/-- An entry into FAULT answers the slots CLOSED, current first, and raises its notice; from WAITING the miss ends before it. -/
theorem test_EntersFault :
    let full := withLane 0 (fun ln => { ln with silence := some 100, current := some (good 5), next := some (good 6) }) ready
    let waits := withLane 0 (fun ln => { ln with silence := some 100 }) missing
    ((run [.readerSilence 0] full).laneAt 0).readerOut = [⟨5, .closed⟩, ⟨6, .closed⟩]
      ∧ (run [.readerSilence 0] full).decoder.laneMsgs = full.decoder.laneMsgs ++ [.notice (.lane 0 .fault .readerSilent)]
      ∧ (run [.readerSilence 0] waits).decoder.laneMsgs =
          waits.decoder.laneMsgs ++ [.removeMiss 0, .notice (.lane 0 .fault .readerSilent)]
      ∧ ((run [.beamBreak 0 .entry] waits).laneAt 0).miss = none := by decide +kernel

/-- A TALLY PROGRAM and a TALLY CLEAR of a crossed PACE counter each report the end of the pacing to its lanes alone. -/
theorem test_PacingReleased :
    let crossed := (counting 5 (passages 5 .pace)).updTally fun t => { t with
      counters := t.counters.set 0 { t.counters[0] with crossed := true }, inbox := [] }
    let told := fun s : State => (List.finRange 8).map fun l => (s.laneAt l).pacing
    let programmed := asked .station (.tallyProgram 0 (List.replicate 16 0)) crossed
    let cleared := asked .office (.tallyClear 1) crossed
    (List.finRange 8).map crossed.tally.paces = (List.finRange 8).map (fun l => (passages 5 .pace).lanes.getLsbD l)
      ∧ crossed.tally.paces 0 = true
      ∧ told (run [.tallyProgram .station] programmed) =
          (List.finRange 8).map (fun l => if (passages 5 .pace).lanes.getLsbD l then [.stop] else [])
      ∧ told (run [.tallyClear .office] cleared) = told (run [.tallyProgram .station] programmed) := by decide +kernel

end Sys2Proof.Tests
end

/-! ## The orders of the pass table

What each operation of the pass table keeps of the record ranges, of the two orders and of the revocation list (R1, R2, R8,
R9, R96), and the list of the moves that the table engine makes of these operations. -/

namespace Sys2Proof.Machine

/-! ### Resident passes -/

/-- The resident passes, in the sorted index's order (R8). -/
def Table.passes (t : Table) : List Nat := t.records.map (·.pass)

theorem Table.mem_passes {t : Table} {p : Nat} : p ∈ t.passes ↔ ∃ r ∈ t.records, r.pass = p := by
  simp [passes]

theorem Table.find_isSome_iff {t : Table} {p : Nat} : (t.find p).isSome = true ↔ p ∈ t.passes := by
  simp [find, mem_passes, List.find?_isSome]

theorem Table.find_eq_none_iff {t : Table} {p : Nat} : t.find p = none ↔ p ∉ t.passes := by
  rw [← find_isSome_iff]; cases t.find p <;> simp

theorem Table.mem_passes_of_find {t : Table} {p : Nat} {r : PassRecord} (h : t.find p = some r) : p ∈ t.passes :=
  find_isSome_iff.1 (by simp [h])

/-- The two orders agree exactly when both list the same passes, the sorted index ascending (R2, R8, R9). -/
theorem Table.indexOk_iff {t : Table} :
    t.IndexOk ↔ t.passes.Pairwise (· < ·) ∧ t.passes.length ≤ 8192 ∧ (∀ p ∈ t.passes, badPass p = false)
      ∧ t.recency.Nodup ∧ ∀ p, p ∈ t.recency ↔ p ∈ t.passes := by
  have hrec : (∀ r ∈ t.records, r.pass ∈ t.recency) ↔ ∀ p ∈ t.passes, p ∈ t.recency := by simp [passes]
  have hbad : (∀ r ∈ t.records, badPass r.pass = false) ↔ ∀ p ∈ t.passes, badPass p = false := by simp [passes]
  have hlen : t.records.length = t.passes.length := by simp [passes]
  have hpair : t.records.Pairwise (fun a b => a.pass < b.pass) ↔ t.passes.Pairwise (· < ·) := by
    simp [passes, List.pairwise_map]
  simp only [IndexOk, find_isSome_iff, hrec, hbad, hlen, hpair, iff_def, forall_and]

/-! ### The operations -/

/-- The passes of a table whose records are changed one by one, none in its pass number. -/
theorem Table.passes_mapRecords (t : Table) {f : PassRecord → PassRecord} (hf : ∀ r, (f r).pass = r.pass) :
    ({ t with records := t.records.map f } : Table).passes = t.passes := by
  simp [passes, Function.comp_def, hf]

/-- Changing the record of one pass, as a change of every record. -/
theorem Table.update_eq_map (t : Table) (p : Nat) (f : PassRecord → PassRecord) :
    t.update p f = { t with records := t.records.map fun r => if r.pass = p then f r else r } := rfl

theorem Table.passes_remove (t : Table) (p : Nat) : (t.remove p).passes = t.passes.filter (· != p) := by
  simp [passes, remove, List.filter_map, Function.comp_def]

@[simp] theorem Table.passes_toHead (t : Table) (p : Nat) : (t.toHead p).passes = t.passes := rfl

theorem mem_insertRecord {r x : PassRecord} {rs : List PassRecord} : x ∈ insertRecord r rs ↔ x = r ∨ x ∈ rs := by
  induction rs with
  | nil => simp [insertRecord]
  | cons y ys ih =>
    unfold insertRecord
    split
    · simp
    · simp only [List.mem_cons, ih]; tauto

theorem length_insertRecord (r : PassRecord) (rs : List PassRecord) : (insertRecord r rs).length = rs.length + 1 := by
  induction rs with
  | nil => rfl
  | cons y ys ih => unfold insertRecord; split <;> simp [ih]

/-- A record of a new pass joins the sorted index at its place (R8). -/
theorem insertRecord_sorted {r : PassRecord} {rs : List PassRecord}
    (hs : rs.Pairwise fun a b => a.pass < b.pass) (hnew : ∀ x ∈ rs, x.pass ≠ r.pass) :
    (insertRecord r rs).Pairwise fun a b => a.pass < b.pass := by
  induction rs with
  | nil => simp [insertRecord]
  | cons y ys ih =>
    obtain ⟨hy, hys⟩ := List.pairwise_cons.1 hs
    have hne : y.pass ≠ r.pass := hnew y (by simp)
    unfold insertRecord
    split
    · rename_i hlt
      refine List.pairwise_cons.2 ⟨fun x hx => ?_, hs⟩
      rcases List.mem_cons.1 hx with rfl | hx
      · exact hlt
      · exact hlt.trans (hy x hx)
    · refine List.pairwise_cons.2 ⟨fun x hx => ?_, ih hys fun x hx => hnew x (by simp [hx])⟩
      rcases mem_insertRecord.1 hx with rfl | hx
      · omega
      · exact hy x hx

theorem Table.mem_passes_create {t : Table} {r : PassRecord} {p : Nat} :
    p ∈ (t.create r).passes ↔ p = r.pass ∨ p ∈ t.passes := by
  simp only [mem_passes, create, toHead, mem_insertRecord]
  constructor
  · rintro ⟨x, rfl | hx, rfl⟩
    · exact .inl rfl
    · exact .inr ⟨x, hx, rfl⟩
  · rintro (rfl | ⟨x, hx, rfl⟩)
    · exact ⟨r, .inl rfl, rfl⟩
    · exact ⟨x, .inr hx, rfl⟩

/-! ### What the operations keep -/

/-- What a change of the table keeps: the records' ranges, the agreement of the two orders, the revocation list's order
(R1, R2, R8, R9, R96). -/
structure Table.Keeps (t t' : Table) : Prop where
  records : (∀ r ∈ t.records, r.Ok) → ∀ r ∈ t'.records, r.Ok
  index : t.IndexOk → t'.IndexOk
  list : t.ListOk → t'.ListOk

namespace Table.Keeps

theorem refl (t : Table) : t.Keeps t := ⟨id, id, id⟩

theorem trans {a b c : Table} (h₁ : a.Keeps b) (h₂ : b.Keeps c) : a.Keeps c :=
  ⟨h₂.records ∘ h₁.records, h₂.index ∘ h₁.index, h₂.list ∘ h₁.list⟩

/-- A change that leaves both orders and the revocation list. -/
theorem of_eq {t t' : Table} (hr : t'.records = t.records) (hc : t'.recency = t.recency) (hv : t'.revoked = t.revoked)
    (hg : t'.generation = t.generation) : t.Keeps t' where
  records h := by rwa [hr]
  index h := by simpa [IndexOk, find, hr, hc] using h
  list h := by simpa [ListOk, hv, hg] using h

/-- A change of each record that keeps its pass and its ranges. -/
theorem mapRecords (t : Table) {f : PassRecord → PassRecord} (hp : ∀ r, (f r).pass = r.pass)
    (hok : ∀ r, r.Ok → (f r).Ok) : t.Keeps { t with records := t.records.map f } where
  records h r hr := by
    obtain ⟨x, hx, rfl⟩ := List.mem_map.1 hr
    exact hok x (h x hx)
  index h := by
    rw [indexOk_iff] at h ⊢
    rwa [passes_mapRecords t hp]
  list h := h

/-- A change of one record that keeps its pass and its ranges. -/
theorem update (t : Table) (p : Nat) {f : PassRecord → PassRecord} (hp : ∀ r, (f r).pass = r.pass)
    (hok : ∀ r, r.Ok → (f r).Ok) : t.Keeps (t.update p f) := by
  rw [update_eq_map]
  refine mapRecords t (fun r => ?_) fun r hr => ?_
  · split <;> simp [hp]
  · split
    · exact hok r hr
    · exact hr

/-- A resident pass moves to the head of the recency list (R9). -/
theorem toHead {t : Table} {p : Nat} (h : p ∈ t.passes) : t.Keeps (t.toHead p) where
  records h := h
  index hi := by
    rw [indexOk_iff] at hi ⊢
    obtain ⟨hsort, hlen, hgood, hnodup, hmem⟩ := hi
    refine ⟨hsort, hlen, hgood, ?_, fun q => ?_⟩
    · exact List.nodup_cons.2 ⟨by simp, hnodup.filter _⟩
    · by_cases hq : q = p
      · simp [Table.toHead, Table.passes, hq] at h ⊢; exact h
      · simp [Table.toHead, hq, hmem q, Table.passes]
  list h := h

/-- A record leaves both orders (R2, R8, R9). -/
theorem remove (t : Table) (p : Nat) : t.Keeps (t.remove p) where
  records h r hr := h r (List.mem_filter.1 hr).1
  index hi := by
    rw [indexOk_iff] at hi ⊢
    obtain ⟨hsort, hlen, hgood, hnodup, hmem⟩ := hi
    rw [passes_remove]
    refine ⟨hsort.filter _, (List.length_filter_le _ _).trans hlen, fun q hq => hgood q (List.mem_filter.1 hq).1,
      hnodup.filter _, fun q => ?_⟩
    simp [Table.remove, hmem q]
  list h := h

/-- A record of a new pass enters both orders, the table having room (R2, R15). -/
theorem create {t : Table} {r : PassRecord} (hroom : t.IndexOk → t.records.length < 8192) (hnew : t.find r.pass = none)
    (hgood : badPass r.pass = false) (hok : r.Ok) : t.Keeps (t.create r) where
  records h x hx := by
    rcases mem_insertRecord.1 hx with rfl | hx
    · exact hok
    · exact h x hx
  index hi := by
    have hlt := hroom hi
    rw [find_eq_none_iff] at hnew
    obtain ⟨hsort, hlen, hbad, hnodup, hmem⟩ := indexOk_iff.1 hi
    refine indexOk_iff.2 ⟨?_, ?_, fun q hq => ?_, ?_, fun q => ?_⟩
    · exact List.pairwise_map.2 (insertRecord_sorted hi.1 fun x hx he => hnew (mem_passes.2 ⟨x, hx, he⟩))
    · simp [Table.passes, Table.create, Table.toHead, length_insertRecord]; omega
    · rcases mem_passes_create.1 hq with rfl | hq
      · exact hgood
      · exact hbad q hq
    · exact List.nodup_cons.2 ⟨by simp, hnodup.filter _⟩
    · rw [mem_passes_create, ← hmem q]
      by_cases hq : q = r.pass <;> simp [Table.create, Table.toHead, hq]
  list h := h

/-- One record gives its place to a new one (R16). -/
theorem evict {t : Table} {p : Nat} {r : PassRecord} (hp : p ∈ t.passes) (hnew : t.find r.pass = none)
    (hgood : badPass r.pass = false) (hok : r.Ok) : t.Keeps ((t.remove p).create r) := by
  have hshort : (t.remove p).records.length < t.records.length := by
    obtain ⟨x, hx, hxp⟩ := mem_passes.1 hp
    exact List.length_filter_lt_length_iff_exists.2 ⟨x, hx, by simp [hxp]⟩
  have hnew' : (t.remove p).find r.pass = none := by rw [find_remove, hnew]; simp
  have hcreate (hroom : t.records.length ≤ 8192) : (t.remove p).Keeps ((t.remove p).create r) :=
    create (fun _ => by omega) hnew' hgood hok
  refine ⟨fun h x hx => ?_, fun hi => (hcreate hi.2.1).index ((remove t p).index hi), id⟩
  rcases mem_insertRecord.1 hx with rfl | hx
  · exact hok
  · exact h x (List.mem_filter.1 hx).1

end Table.Keeps

/-! ### The revocation list -/

theorem mem_insertPass {p q : Nat} {l : List Nat} : q ∈ insertPass p l ↔ q = p ∨ q ∈ l := by
  induction l with
  | nil => simp [insertPass]
  | cons x xs ih =>
    unfold insertPass
    split
    · simp
    · split
      · simp_all
      · simp only [List.mem_cons, ih]; tauto

theorem insertPass_sorted {p : Nat} {l : List Nat} (h : l.Pairwise (· < ·)) : (insertPass p l).Pairwise (· < ·) := by
  induction l with
  | nil => simp [insertPass]
  | cons x xs ih =>
    obtain ⟨hx, hxs⟩ := List.pairwise_cons.1 h
    unfold insertPass
    split
    · rename_i hlt
      refine List.pairwise_cons.2 ⟨fun q hq => ?_, h⟩
      rcases List.mem_cons.1 hq with rfl | hq
      · exact hlt
      · exact hlt.trans (hx q hq)
    · split
      · exact h
      · refine List.pairwise_cons.2 ⟨fun q hq => ?_, ih hxs⟩
        rcases mem_insertPass.1 hq with rfl | hq
        · omega
        · exact hx q hq

/-- The union that a merge makes holds the passes of both lists (R99). -/
theorem mem_joinPasses {held carried : List Nat} {p : Nat} :
    p ∈ joinPasses held carried ↔ p ∈ held ∨ p ∈ carried := by
  unfold joinPasses
  induction carried with
  | nil => simp
  | cons x xs ih => simp only [List.foldr_cons, mem_insertPass, ih, List.mem_cons]; tauto

/-- The union that a merge makes is ascending where the list held is (R96, R99). -/
theorem joinPasses_sorted {held : List Nat} (carried : List Nat) (h : held.Pairwise (· < ·)) :
    (joinPasses held carried).Pairwise (· < ·) := by
  unfold joinPasses
  induction carried with
  | nil => exact h
  | cons x xs ih => exact insertPass_sorted ih

/-- A carried list without a bad entry is ascending and names pass numbers only (R98). -/
theorem badEntry_eq_none {i : Nat} {prev : Option Nat} {es : List Nat} (h : badEntry i prev es = none) :
    es.Pairwise (· < ·) ∧ ∀ e ∈ es, badPass e = false ∧ ∀ d ∈ prev, d < e := by
  induction es generalizing i prev with
  | nil => simp
  | cons x xs ih =>
    unfold badEntry at h
    split at h
    · simp at h
    · rename_i hx
      obtain ⟨hgood, hprev⟩ : badPass x = false ∧ ∀ d ∈ prev, d < x := by
        cases prev <;> simp_all
      obtain ⟨hsort, hall⟩ := ih h
      refine ⟨List.pairwise_cons.2 ⟨fun e he => (hall e he).2 x rfl, hsort⟩, fun e he => ?_⟩
      rcases List.mem_cons.1 he with rfl | he
      · exact ⟨hgood, hprev⟩
      · exact ⟨(hall e he).1, fun d hd => (hprev d hd).trans ((hall e he).2 x rfl)⟩

/-- A list that a load is accepted with is a revocation list, where the list held is one (R96, R97, R98, R99). -/
theorem judgeLoad_accepted {held list : List Nat} {a : LoadArgs} (h : judgeLoad held a = .accepted list)
    (hsort : held.Pairwise (· < ·)) (hgood : ∀ p ∈ held, badPass p = false) :
    list.Pairwise (· < ·) ∧ list.length ≤ 2048 ∧ ∀ p ∈ list, badPass p = false := by
  unfold judgeLoad at h
  split at h
  · simp at h
  · split at h
    · simp at h
    · rename_i hentries
      obtain ⟨hcarried, hall⟩ := badEntry_eq_none hentries
      have hlist : (if a.merge then joinPasses held a.entries else a.entries).Pairwise (· < ·)
          ∧ ∀ p ∈ (if a.merge then joinPasses held a.entries else a.entries), badPass p = false := by
        split
        · refine ⟨joinPasses_sorted _ hsort, fun p hp => ?_⟩
          rcases mem_joinPasses.1 hp with hp | hp
          · exact hgood p hp
          · exact (hall p hp).1
        · exact ⟨hcarried, fun p hp => (hall p hp).1⟩
      generalize (if a.merge then joinPasses held a.entries else a.entries) = new at h hlist
      dsimp only at h
      split at h
      · simp at h
      · obtain rfl : new = list := by simpa using h
        exact ⟨hlist.1, by omega, hlist.2⟩

/-- An accepted load (R96, R100). -/
theorem Table.Keeps.load {t : Table} {a : LoadArgs} {list : List Nat} (h : judgeLoad t.revoked a = .accepted list) :
    t.Keeps (t.load list) where
  records := id
  index := id
  list := by
    rintro ⟨hsort, _, hgood, _⟩
    obtain ⟨hsort', hlen', hgood'⟩ := judgeLoad_accepted h hsort hgood
    refine ⟨hsort', hlen', hgood', ?_⟩
    simp only [Table.load, nextGeneration]
    split <;> omega

/-! ### The moves of the table engine -/

/-- One move of the table engine that marks no record and takes no mark away: the changes of the table that every command makes
but the claims of the lanes, the resets and the beginning of a TABLE CLEAR. -/
inductive TableMove : Table → Table → Prop where
  /-- The arbitration: who was served last, and the claims of the office that wait (R12). -/
  | claims (t : Table) (l : LaneNo) (o : Origin) (cs : List OfficeClaim) :
      TableMove t { t with lastLane := l, lastOrigin := o, officeClaims := cs }
  /-- A change of records one by one, their passes, their ranges and their in-flight marks kept. -/
  | edit (t : Table) (f : PassRecord → PassRecord) (hpass : ∀ r, (f r).pass = r.pass) (hok : ∀ r, r.Ok → (f r).Ok)
      (hmark : ∀ r, (f r).inFlight = r.inFlight) : TableMove t { t with records := t.records.map f }
  /-- A resident pass moves to the recency head (R9). -/
  | toHead (t : Table) (p : Nat) (hp : p ∈ t.passes) : TableMove t (t.toHead p)
  /-- A record is created, the table having room (R15). -/
  | create (t : Table) (r : PassRecord) (hroom : t.records.length < 8192) (hnew : t.find r.pass = none)
      (hgood : badPass r.pass = false) (hok : r.Ok) (hmark : r.inFlight = none) : TableMove t (t.create r)
  /-- A record is created in the place of one that is not in flight (R16). -/
  | evict (t : Table) (x r : PassRecord) (p : Nat) (hx : t.find p = some x) (hfree : x.inFlight = none)
      (hnew : t.find r.pass = none) (hgood : badPass r.pass = false) (hok : r.Ok) (hmark : r.inFlight = none) :
      TableMove t ((t.remove p).create r)
  /-- A record that is not in flight is removed (R18). -/
  | remove (t : Table) (x : PassRecord) (p : Nat) (hx : t.find p = some x) (hfree : x.inFlight = none) :
      TableMove t (t.remove p)
  /-- A load of the revocation list is accepted, no TABLE CLEAR running (R97, R100). -/
  | load (t : Table) (a : LoadArgs) (list : List Nat) (hclear : t.clear = none)
      (h : judgeLoad t.revoked a = .accepted list) : TableMove t (t.load list)
  /-- A sweep goes on or ends (R103, R104). -/
  | sweep (t : Table) (w : Sweep) (hw : w.running = true → t.sweep.running = true) : TableMove t { t with sweep := w }
  /-- A TABLE CLEAR that runs goes on (R24). -/
  | clearOn (t : Table) (c : Clear) (hclear : t.clear.isSome = true) : TableMove t { t with clear := some c }
  /-- A TABLE CLEAR ends (R24, R25). -/
  | unclear (t : Table) : TableMove t { t with clear := none }

/-- Every move keeps the records' ranges, both orders and the revocation list. -/
theorem TableMove.keeps {t t' : Table} (h : TableMove t t') : t.Keeps t' := by
  cases h with
  | claims => exact .of_eq rfl rfl rfl rfl
  | edit f hpass hok => exact .mapRecords t hpass hok
  | toHead p hp => exact .toHead hp
  | create r hroom hnew hgood hok => exact .create (fun _ => hroom) hnew hgood hok
  | evict x r p hx hfree hnew hgood hok => exact .evict (Table.mem_passes_of_find hx) hnew hgood hok
  | remove x p => exact .remove t p
  | load a list hclear h => exact .load h
  | sweep => exact .of_eq rfl rfl rfl rfl
  | clearOn => exact .of_eq rfl rfl rfl rfl
  | unclear => exact .of_eq rfl rfl rfl rfl

/-- Several moves one after the other. -/
abbrev TableMoves : Table → Table → Prop := Relation.ReflTransGen TableMove

theorem TableMoves.keeps {t t' : Table} (h : TableMoves t t') : t.Keeps t' := by
  induction h with
  | refl => exact .refl t
  | tail _ hm ih => exact ih.trans hm.keeps

end Sys2Proof.Machine

/-! ## In-flight marks and admissions

The agreement of the records' in-flight marks with the lanes' admissions (R79, R80), said of the table and of the riders the
lanes have admitted, and that no move of the table engine breaks it. -/

namespace Sys2Proof.Machine

/-- The pass and the decision day of the rider that a lane has admitted. -/
def Lane.rider (ln : Lane) : Option (Nat × Nat) := ln.admission.map fun a => (a.pass, a.day)

/-- The table's records are in flight exactly with these riders, each of a resident pass (R79, R80). -/
def Table.Carries (t : Table) (riders : LaneNo → Option (Nat × Nat)) : Prop :=
  (∀ r ∈ t.records, ∀ l, r.inFlight = some l ↔ ∃ d, riders l = some (r.pass, d))
    ∧ ∀ l p d, riders l = some (p, d) → p ∈ t.passes ∧ d ≤ 239

theorem Lane.rider_eq_some {ln : Lane} {p d : Nat} :
    ln.rider = some (p, d) ↔ ∃ a ∈ ln.admission, a.pass = p ∧ a.day = d := by
  simp [rider]

theorem State.flightOk_iff {s : State} : s.FlightOk ↔ s.table.Carries fun l => (s.laneAt l).rider := by
  have hnames (l : LaneNo) (p : Nat) :
      (s.laneAt l).admission.any (·.pass == p) = true ↔ ∃ d, (s.laneAt l).rider = some (p, d) := by
    cases h : (s.laneAt l).admission <;> simp [Lane.rider, h]
  have hday (l : LaneNo) : (∀ a ∈ (s.laneAt l).admission, (s.record a.pass).isSome = true ∧ a.day ≤ 239)
      ↔ ∀ p d, (s.laneAt l).rider = some (p, d) → p ∈ s.table.passes ∧ d ≤ 239 := by
    simp only [Lane.rider_eq_some, State.record, Table.find_isSome_iff]
    constructor
    · rintro h p d ⟨a, ha, rfl, rfl⟩
      exact h a ha
    · exact fun h a ha => h a.pass a.day ⟨a, ha, rfl, rfl⟩
  simp only [FlightOk, Table.Carries, hnames, hday]

namespace Table.Carries

variable {t : Table} {riders : LaneNo → Option (Nat × Nat)}

/-- A record that is not in flight has no rider. -/
theorem no_rider_of_find (h : t.Carries riders) {p : Nat} {x : PassRecord} (hx : t.find p = some x)
    (hfree : x.inFlight = none) (l : LaneNo) (d : Nat) : riders l ≠ some (p, d) := by
  intro hl
  have hpx := find_pass hx
  have := (h.1 x (find_mem hx) l).2 ⟨d, hpx ▸ hl⟩
  simp [hfree] at this

/-- A change of records one by one that keeps their passes and their marks. -/
theorem mapRecords (h : t.Carries riders) {f : PassRecord → PassRecord} (hp : ∀ r, (f r).pass = r.pass)
    (hm : ∀ r, (f r).inFlight = r.inFlight) : Table.Carries { t with records := t.records.map f } riders := by
  refine ⟨fun r hr l => ?_, fun l p d hl => ?_⟩
  · obtain ⟨x, hx, rfl⟩ := List.mem_map.1 hr
    rw [hm, hp]
    exact h.1 x hx l
  · rw [passes_mapRecords t hp]
    exact h.2 l p d hl

/-- A record without a mark of a pass that is not resident. -/
theorem create (h : t.Carries riders) {r : PassRecord} (hnew : t.find r.pass = none) (hm : r.inFlight = none) :
    (t.create r).Carries riders := by
  have hno (l : LaneNo) (d : Nat) : riders l ≠ some (r.pass, d) := fun hl =>
    find_eq_none_iff.1 hnew (h.2 l _ d hl).1
  refine ⟨fun x hx l => ?_, fun l p d hl => ⟨mem_passes_create.2 (.inr (h.2 l p d hl).1), (h.2 l p d hl).2⟩⟩
  rcases mem_insertRecord.1 hx with rfl | hx
  · simp [hm, hno]
  · exact h.1 x hx l

/-- A record without a mark leaves. -/
theorem remove (h : t.Carries riders) {p : Nat} {x : PassRecord} (hx : t.find p = some x) (hfree : x.inFlight = none) :
    (t.remove p).Carries riders := by
  refine ⟨fun r hr l => h.1 r (List.mem_filter.1 hr).1 l, fun l q d hl => ⟨?_, (h.2 l q d hl).2⟩⟩
  rw [passes_remove]
  refine List.mem_filter.2 ⟨(h.2 l q d hl).1, ?_⟩
  have hq : q ≠ p := fun e => h.no_rider_of_find hx hfree l d (e ▸ hl)
  simpa using hq

/-- A rider is admitted: the record, free until then, is marked with the lane, which had no rider (R78, R80). -/
theorem markRider (h : t.Carries riders) {p d : Nat} {x : PassRecord} {l : LaneNo} (hx : t.find p = some x)
    (hfree : x.inFlight = none) (hl : riders l = none) (hd : d ≤ 239) :
    (t.update p fun r => { r with inFlight := some l }).Carries (Function.update riders l (some (p, d))) := by
  have hno := h.no_rider_of_find hx hfree
  refine ⟨fun r hr m => ?_, fun m q e hm => ?_⟩
  · obtain ⟨y, hy, rfl⟩ := List.mem_map.1 hr
    have hyes := h.1 y hy m
    by_cases hp : y.pass = p <;> by_cases hml : m = l
    · simp [hp, hml]
    · simp [hp, hml, hno, Ne.symm hml]
    · simp [hp, hml, Ne.symm hp] at hyes ⊢
      simp [hyes, hl]
    · simpa [hp, hml] using hyes
  · rw [update_eq_map, passes_mapRecords t fun r => by split <;> rfl]
    by_cases hml : m = l
    · obtain ⟨rfl, rfl⟩ : p = q ∧ d = e := by simpa [hml] using hm
      exact ⟨mem_passes_of_find hx, hd⟩
    · exact h.2 m q e (by simpa [hml] using hm)

/-- A rider's admission ends: the record's mark is taken away, and the lane has no rider (R79, R87, R89). -/
theorem release (h : t.Carries riders) {p d : Nat} {l : LaneNo} {f : PassRecord → PassRecord}
    (hpass : ∀ r, (f r).pass = r.pass) (hf : ∀ r, (f r).inFlight = none) (hl : riders l = some (p, d)) :
    (t.update p f).Carries (Function.update riders l none) := by
  refine ⟨fun r hr m => ?_, fun m q e hm => ?_⟩
  · obtain ⟨y, hy, rfl⟩ := List.mem_map.1 hr
    have hyl := h.1 y hy l
    have hym := h.1 y hy m
    by_cases hp : y.pass = p <;> by_cases hml : m = l
    · simp [hp, hml, hf]
    · simp only [hp, hl, Option.some.injEq, Prod.mk.injEq, true_and, exists_eq', iff_true] at hyl
      simp only [hp, hyl, Option.some.injEq, Ne.symm hml, false_iff] at hym
      simpa [hp, hml, hf, hpass] using hym
    · simp [hp, hml, hyl, hl, Ne.symm hp]
    · simpa [hp, hml] using hym
  · have hml : m ≠ l := fun e => by simp [e] at hm
    rw [update_eq_map, passes_mapRecords t fun r => by split <;> simp [hpass]]
    exact h.2 m q e (by simpa [hml] using hm)

end Table.Carries

/-- No move of the table engine breaks the agreement of marks and riders. -/
theorem TableMove.carries {t t' : Table} (h : TableMove t t') {riders : LaneNo → Option (Nat × Nat)}
    (hc : t.Carries riders) : t'.Carries riders := by
  cases h with
  | claims => exact hc
  | edit f hpass _ hmark => exact hc.mapRecords hpass hmark
  | toHead p hp => exact hc
  | create r _ hnew _ _ hmark => exact hc.create hnew hmark
  | evict x r p hx hfree hnew _ _ hmark =>
    exact (hc.remove hx hfree).create (by rw [Table.find_remove, hnew]; simp) hmark
  | remove x p hx hfree => exact hc.remove hx hfree
  | load => exact hc
  | sweep => exact hc
  | clearOn => exact hc
  | unclear => exact hc

theorem TableMoves.carries {t t' : Table} (h : TableMoves t t') {riders : LaneNo → Option (Nat × Nat)}
    (hc : t.Carries riders) : t'.Carries riders := by
  induction h with
  | refl => exact hc
  | tail _ hm ih => exact hm.carries ih

/-- No move begins a TABLE CLEAR, and none starts a sweep while one runs (R23, R97). -/
theorem TableMove.clearing {t t' : Table} (h : TableMove t t') (hc : t'.clear.isSome = true) :
    t.clear.isSome = true ∧ (t.sweep.running = false → t'.sweep.running = false) := by
  cases h with
  | load a list hclear => simp [Table.load, hclear] at hc
  | sweep w hw => exact ⟨hc, fun h => by cases hr : w.running <;> simp_all⟩
  | clearOn c hclear => exact ⟨hclear, id⟩
  | unclear => simp at hc
  | claims => exact ⟨hc, id⟩
  | edit => exact ⟨hc, id⟩
  | toHead => exact ⟨hc, id⟩
  | create => exact ⟨hc, id⟩
  | evict => exact ⟨hc, id⟩
  | remove => exact ⟨hc, id⟩

theorem TableMoves.clearing {t t' : Table} (h : TableMoves t t') (hc : t'.clear.isSome = true) :
    t.clear.isSome = true ∧ (t.sweep.running = false → t'.sweep.running = false) := by
  induction h with
  | refl => exact ⟨hc, id⟩
  | tail _ hm ih =>
    obtain ⟨hb, hsweep⟩ := hm.clearing hc
    obtain ⟨ha, hsweep'⟩ := ih hb
    exact ⟨ha, hsweep ∘ hsweep'⟩

end Sys2Proof.Machine

/-! ## What a lane's event does to its rider, and to a lane that is shut

A lane's events but a decision that admits and an ending claim keep the rider it has admitted; and a CLOSED lane without a miss
stays so, but for a LANE OPEN. -/

namespace Sys2Proof.Machine

/-- A lane that is CLOSED, no miss of its own waiting. -/
def Lane.Shut (ln : Lane) : Prop := ln.state = .closed ∧ ln.miss = none

theorem Lane.Ok.shut {ln : Lane} (h : ln.Ok) (hc : ln.state = .closed) : ln.Shut := by
  obtain ⟨-, hmiss, -⟩ := h
  refine ⟨hc, ?_⟩
  cases hm : ln.miss <;> simp_all

namespace LaneRun

variable (env : LaneEnv) (r : LaneRun)

/-! ### Riders -/

@[simp] theorem rider_hand (e : Event) : (r.hand e).lane.rider = r.lane.rider := rfl
@[simp] theorem rider_send (p : Nat) (k : VerdictKind) : (r.send env p k).lane.rider = r.lane.rider := rfl
@[simp] theorem rider_enter (st : LaneState) : (r.enter env st).lane.rider = r.lane.rider := rfl
@[simp] theorem rider_finishSlot : r.finishSlot.lane.rider = r.lane.rider := rfl
@[simp] theorem rider_endMiss : (r.endMiss env).lane.rider = r.lane.rider := rfl
@[simp] theorem rider_submitEnding (e : Ending) : (r.submitEnding e).lane.rider = r.lane.rider := rfl
@[simp] theorem rider_mark (k : EventKind) (m : FaultMark) : (r.mark env k m).lane.rider = r.lane.rider := rfl
@[simp] theorem rider_heard : (r.heard env).lane.rider = r.lane.rider := rfl
@[simp] theorem rider_beginMiss (p : Nat) : (r.beginMiss env p).lane.rider = r.lane.rider := rfl

/-- A change of a lane that leaves its admission leaves its rider. -/
theorem rider_upd {f : Lane → Lane} (hf : ∀ ln, (f ln).admission = ln.admission) :
    (r.upd f).lane.rider = r.lane.rider := by simp [upd, Lane.rider, hf]

@[simp] theorem rider_closeSlots : (r.closeSlots env).lane.rider = r.lane.rider := by
  unfold closeSlots
  cases r.lane.current <;> dsimp only <;> split <;> rfl

@[simp] theorem rider_notifyRead (p : Presentation) : (r.notifyRead env p).lane.rider = r.lane.rider := by
  unfold notifyRead
  split
  · cases p.status <;> rfl
  · rfl

@[simp] theorem rider_takeUp (n : Nat) : (r.takeUp env n).lane.rider = r.lane.rider := by
  induction n generalizing r with
  | zero => rfl
  | succ n ih =>
    unfold takeUp
    split
    · split
      · rfl
      · dsimp only
        split <;> simp [ih]
    · rfl

@[simp] theorem rider_toReady : (r.toReady env).lane.rider = r.lane.rider := by simp [toReady]

@[simp] theorem rider_toPaused : (r.toPaused env).lane.rider = r.lane.rider := by
  unfold toPaused; dsimp only; split <;> simp

@[simp] theorem rider_resume : (r.resume env).lane.rider = r.lane.rider := by
  unfold resume; split <;> simp

@[simp] theorem rider_refuseMiss (before : List Event) : (r.refuseMiss env before).lane.rider = r.lane.rider := by
  unfold refuseMiss
  split
  · rfl
  · rw [rider_resume]; rfl

@[simp] theorem rider_toFault (m : FaultMark) : (r.toFault env m).lane.rider = r.lane.rider := by
  unfold toFault
  refine (rider_closeSlots env _).trans ?_
  split <;> rfl

@[simp] theorem rider_entryBreak : (r.entryBreak env).lane.rider = r.lane.rider := by
  unfold entryBreak
  split
  · rfl
  · rfl
  iterate 4 simp
  iterate 3
    split
    · simp
    · split
      · cases h : r.lane.admission <;> simp [upd, Lane.rider, h]
      · simp

@[simp] theorem rider_exitBreak : (r.exitBreak env).lane.rider = r.lane.rider := by
  unfold exitBreak
  split
  · rfl
  · rfl
  iterate 4 simp
  iterate 3
    split
    · simp
    · split <;> rfl

@[simp] theorem rider_exitRestore : r.exitRestore.lane.rider = r.lane.rider := by
  unfold exitRestore
  split
  · split <;> rfl
  · rfl

@[simp] theorem rider_present (pass : Nat) (p : Option Presentation) :
    (r.present env pass p).lane.rider = r.lane.rider := by
  unfold present
  split
  · simp
  · split
    · simp
    · split
      · rfl
      · split
        · simp
        · refine (rider_takeUp env _ 2).trans ?_
          have hplaced (q : Presentation) := rider_upd r (f := fun ln =>
            if ln.current.isNone then { ln with current := some q } else { ln with next := some q })
            fun ln => by split <;> rfl
          split
          · exact hplaced _
          · exact hplaced _

@[simp] theorem rider_silent : (r.silent env).lane.rider = r.lane.rider := by
  unfold silent
  dsimp only
  split
  · rfl
  iterate 4 exact rider_toFault env _ _
  iterate 3 rfl
  · rfl

@[simp] theorem rider_paceStart : (r.paceStart env).lane.rider = r.lane.rider := by
  unfold paceStart
  dsimp only
  split
  iterate 2 exact rider_toPaused env _
  iterate 7 rfl

@[simp] theorem rider_paceEnd : (r.paceEnd env).lane.rider = r.lane.rider := by
  unfold paceEnd
  dsimp only
  split
  · exact rider_toReady env _
  · rfl

@[simp] theorem rider_openLane : (r.openLane env).lane.rider = r.lane.rider := by
  unfold openLane
  dsimp only
  split
  · split
    · exact rider_toFault env _ _
    · split
      · exact rider_toFault env _ _
      · split
        · exact rider_toPaused env _
        · exact rider_toReady env _
  · rfl

@[simp] theorem rider_closeLane : (r.closeLane env).lane.rider = r.lane.rider := by
  unfold closeLane
  split
  iterate 3 exact rider_closeSlots env r
  · dsimp only
    rw [rider_enter, rider_closeSlots]
    cases r.lane.current <;> rfl
  iterate 2 exact rider_closeSlots env r
  iterate 3 rfl

@[simp] theorem rider_resetLane : (r.resetLane env).lane.rider = r.lane.rider := by
  unfold resetLane; split <;> rfl

@[simp] theorem rider_missInserted : (r.missInserted env).lane.rider = r.lane.rider := by
  unfold missInserted; dsimp only; split <;> simp

@[simp] theorem rider_refuseRider (p : Nat) (reason : Reason) :
    (r.refuseRider env p reason).lane.rider = r.lane.rider := by simp [refuseRider]

/-- An admission's end leaves no rider (R57). -/
theorem rider_endAdmission : (r.endAdmission env).lane.rider = none := by
  unfold endAdmission
  dsimp only
  split
  · exact rider_toFault env _ _
  · split
    · rfl
    · exact rider_resume env _

/-- The rider of an admission is the pass decided, on its decision day (R53, R80). -/
theorem rider_admitRider (p day : Nat) (consume : Bool) (left : Option Nat) (rides : Nat) :
    (r.admitRider env p day consume left rides).lane.rider = some (p, day) := rfl

end LaneRun

/-! ### Shut lanes -/

namespace Lane.Shut

variable {env : LaneEnv} {r : LaneRun}

/-- A change of a lane that leaves its state and its miss keeps it shut. -/
theorem upd (h : r.lane.Shut) {f : Lane → Lane} (hs : ∀ ln, (f ln).state = ln.state)
    (hm : ∀ ln, (f ln).miss = ln.miss) : (r.upd f).lane.Shut := ⟨(hs _).trans h.1, (hm _).trans h.2⟩

theorem mark (h : r.lane.Shut) (k : EventKind) (m : FaultMark) : (r.mark env k m).lane.Shut := h

theorem heard (h : r.lane.Shut) : (r.heard env).lane.Shut := h

theorem submitEnding (h : r.lane.Shut) (e : Ending) : (r.submitEnding e).lane.Shut := h

theorem refuseMiss (h : r.lane.Shut) (before : List Event) : (r.refuseMiss env before).lane.Shut := by
  simpa [LaneRun.refuseMiss, h.2] using h

theorem entryBreak (h : r.lane.Shut) : (r.entryBreak env).lane.Shut := by
  simpa [LaneRun.entryBreak, h.1] using h

theorem exitBreak (h : r.lane.Shut) : (r.exitBreak env).lane.Shut := by
  simpa [LaneRun.exitBreak, h.1] using h

theorem exitRestore (h : r.lane.Shut) : r.exitRestore.lane.Shut := by
  unfold LaneRun.exitRestore
  split
  · split
    · exact h
    · exact h
  · exact h

theorem present (h : r.lane.Shut) (pass : Nat) (p : Option Presentation) : (r.present env pass p).lane.Shut := by
  simp only [LaneRun.present, h.1, LaneState.answersClosed, if_true]
  exact h

theorem silent (h : r.lane.Shut) : (r.silent env).lane.Shut := by
  simp only [LaneRun.silent, LaneRun.upd, h.1]
  exact ⟨rfl, h.2⟩

theorem paceStart (h : r.lane.Shut) : (r.paceStart env).lane.Shut := by
  simp only [LaneRun.paceStart, LaneRun.upd, h.1]
  exact ⟨rfl, h.2⟩

theorem paceEnd (h : r.lane.Shut) : (r.paceEnd env).lane.Shut := by
  simp only [LaneRun.paceEnd, LaneRun.upd, h.1, reduceCtorEq, if_false]
  exact ⟨rfl, h.2⟩

theorem closeLane (h : r.lane.Shut) : (r.closeLane env).lane.Shut := by
  simpa [LaneRun.closeLane, h.1] using h

theorem resetLane (h : r.lane.Shut) : (r.resetLane env).lane.Shut := by
  simpa [LaneRun.resetLane, h.1] using h

end Lane.Shut
end Sys2Proof.Machine

/-! ## Ordinary changes

What all commands but the two resets, an admitting decision, the ending claims and the work of a TABLE CLEAR do: moves of the
table engine, every rider kept, and a part at rest left at rest while a TABLE CLEAR runs. One rule for each shared operation. -/

namespace Sys2Proof.Machine

/-! ### The strap of the lane count -/

@[simp] theorem Port.present_eightLanes (p : Port) : p.present.eightLanes = p.eightLanes := by
  unfold present; split <;> rfl

@[simp] theorem Port.takeAnswer_eightLanes (a : Answer) (p : Port) : (p.takeAnswer a).eightLanes = p.eightLanes :=
  present_eightLanes _

@[simp] theorem Port.grantIfPending_eightLanes (p : Port) : p.grantIfPending.eightLanes = p.eightLanes := by
  unfold grantIfPending; split <;> rfl

@[simp] theorem Port.taken_eightLanes (p : Port) : p.taken.eightLanes = p.eightLanes := by
  unfold taken
  split
  · rfl
  · rw [grantIfPending_eightLanes, present_eightLanes]

@[simp] theorem Port.abort_eightLanes (p : Port) : p.abort.eightLanes = p.eightLanes := by
  unfold abort; dsimp only; split <;> rfl

@[simp] theorem Port.request_eightLanes (p : Port) : p.request.eightLanes = p.eightLanes := by
  unfold request; (repeat' split) <;> rfl

@[simp] theorem Port.readWindow_eightLanes (p : Port) : p.readWindow.eightLanes = p.eightLanes := by
  unfold readWindow; dsimp only; (repeat' split) <;> rfl

namespace State

@[simp] theorem handAnswer_eightLanes (s : State) (o : Origin) (b : Bool) (a : Answer) :
    (s.handAnswer o b a).port.eightLanes = s.port.eightLanes := by
  cases o
  · exact Port.takeAnswer_eightLanes a s.port
  · rfl

@[simp] theorem endWith_eightLanes (s : State) (o : Origin) (a : Answer) :
    (s.endWith o a).port.eightLanes = s.port.eightLanes := by
  unfold endWith
  split
  · rfl
  · dsimp only; split <;> simp

@[simp] theorem complete_eightLanes (s : State) (o : Origin) (d : List Byte) :
    (s.complete o d).port.eightLanes = s.port.eightLanes := endWith_eightLanes s o _

@[simp] theorem answerPending_eightLanes (s : State) (p : Nat) :
    (s.answerPending p).port.eightLanes = s.port.eightLanes := by
  unfold answerPending; (repeat' split) <;> simp

@[simp] theorem placeFor_eightLanes (s : State) (o : Origin) (n : Notice) :
    (s.placeFor o n).port.eightLanes = s.port.eightLanes := by
  cases o
  · exact Port.present_eightLanes _
  · rfl

theorem lanePresent_congr {s t : State} (h : t.port.eightLanes = s.port.eightLanes) (l : LaneNo) :
    t.lanePresent l = s.lanePresent l := by simp [lanePresent, h]

/-! ### A part at rest -/

/-- What a TABLE CLEAR needs of the part and finds until it ends (R23): no sweep, every present lane shut, nothing unreported or
collected. -/
def AtRest (s : State) : Prop :=
  s.table.sweep.running = false ∧ (∀ l, s.lanePresent l = true → (s.laneAt l).Shut) ∧ s.settlement.queue = []
    ∧ s.settlement.collection = none

theorem AtRest.clearOk {s : State} (h : s.clearing = true → s.AtRest) : s.ClearOk := fun hc => by
  obtain ⟨hsweep, hshut, hqueue, hcoll⟩ := h hc
  exact ⟨hsweep, fun l hl => (hshut l hl).1, hqueue, hcoll⟩

theorem Sound.atRest {s : State} (h : s.Sound) (hc : s.clearing = true) : s.AtRest := by
  obtain ⟨hsweep, hclosed, hqueue, hcoll⟩ := h.clear hc
  exact ⟨hsweep, fun l hl => (h.lanes l).shut (hclosed l hl), hqueue, hcoll⟩

/-- An ordinary change of the part. -/
structure Ordinary (s t : State) : Prop where
  table : TableMoves s.table t.table
  rider : ∀ l, (t.laneAt l).rider = (s.laneAt l).rider
  rest : t.clearing = true → s.AtRest → t.AtRest

/-- An ordinary change keeps marks and admissions naming each other. -/
theorem Ordinary.flightOk {s t : State} (h : Ordinary s t) (hf : s.FlightOk) : t.FlightOk := by
  rw [flightOk_iff] at hf ⊢
  simpa only [h.rider] using h.table.carries hf

/-- An ordinary change keeps what a TABLE CLEAR needs. -/
theorem Ordinary.clearOk {s t : State} (h : Ordinary s t) (hs : s.Sound) : t.ClearOk :=
  AtRest.clearOk fun hc => h.rest hc (hs.atRest (h.table.clearing hc).1)

/-- A lane's event that keeps the rider of a lane keeps every lane's. -/
theorem runLane_rider {f : LaneEnv → LaneRun → LaneRun} (hf : ∀ env r, (f env r).lane.rider = r.lane.rider) (s : State)
    (l m : LaneNo) : ((s.runLane l f).laneAt m).rider = (s.laneAt m).rider := by
  cases hp : s.lanePresent l with
  | false => rw [runLane_absent f hp]
  | true =>
    by_cases hm : m = l
    · subst hm
      rw [runLane_laneAt f hp, hf]
    · rw [runLane_other f hm]

theorem runLanes_rider {f : LaneEnv → LaneRun → LaneRun} (hf : ∀ env r, (f env r).lane.rider = r.lane.rider) (s : State)
    (ls : List LaneNo) (m : LaneNo) : ((s.runLanes ls f).laneAt m).rider = (s.laneAt m).rider := by
  unfold runLanes
  induction ls generalizing s with
  | nil => rfl
  | cons l ls ih => exact (ih _).trans (runLane_rider hf s l m)

/-- A lane's event keeps a shut lane shut, where it does so of its own. -/
theorem runLane_shut {f : LaneEnv → LaneRun → LaneRun} {s : State} {l : LaneNo}
    (hf : (s.laneAt l).Shut → (f (s.laneEnv l) { lane := s.laneAt l, events := [], msgs := [] }).lane.Shut) {m : LaneNo}
    (hm : (s.laneAt m).Shut) : ((s.runLane l f).laneAt m).Shut := by
  cases hp : s.lanePresent l with
  | false => rwa [runLane_absent f hp]
  | true =>
    by_cases he : m = l
    · subst he
      rw [runLane_laneAt f hp]
      exact hf hm
    · rwa [runLane_other f he]

namespace Ordinary

variable {s u t : State}

theorem refl : Ordinary s s := ⟨.refl, fun _ => rfl, fun _ h => h⟩

theorem trans (h₁ : Ordinary s u) (h₂ : Ordinary u t) : Ordinary s t where
  table := h₁.table.trans h₂.table
  rider l := (h₂.rider l).trans (h₁.rider l)
  rest hc hs := h₂.rest hc (h₁.rest (h₂.table.clearing hc).1 hs)

/-! ### Rules for the blocks -/

/-- A change that leaves the table, the settlement unit, the lanes and the lane-count strap. -/
theorem aside (h : Ordinary s u) (htable : t.table = u.table) (hsettle : t.settlement = u.settlement)
    (hlanes : t.lanes = u.lanes) (hport : t.port.eightLanes = u.port.eightLanes) : Ordinary s t where
  table := htable ▸ h.table
  rider l := by rw [laneAt_congr (congrArg _ hlanes), h.rider]
  rest hc hs := by
    obtain ⟨hsweep, hshut, hqueue, hcoll⟩ := h.rest (by simpa [clearing, htable] using hc) hs
    refine ⟨by rwa [htable], fun l hl => ?_, by rwa [hsettle], by rwa [hsettle]⟩
    rw [laneAt_congr (congrArg _ hlanes)]
    exact hshut l (lanePresent_congr hport l ▸ hl)

theorem updTable_moves (h : Ordinary s u) {f : Table → Table} (hm : TableMoves u.table (f u.table)) :
    Ordinary s (u.updTable f) := h.trans
  { table := hm
    rider := fun _ => rfl
    rest := fun hc ⟨hsweep, hshut, hqueue, hcoll⟩ => ⟨(hm.clearing hc).2 hsweep, hshut, hqueue, hcoll⟩ }

theorem updTable (h : Ordinary s u) {f : Table → Table} (hm : TableMove u.table (f u.table)) :
    Ordinary s (u.updTable f) := h.updTable_moves (.single hm)

theorem updRecord (h : Ordinary s u) {p : Nat} {f : PassRecord → PassRecord} (hpass : ∀ r, (f r).pass = r.pass)
    (hok : ∀ r, r.Ok → (f r).Ok) (hmark : ∀ r, (f r).inFlight = r.inFlight) : Ordinary s (u.updRecord p f) := by
  refine h.updTable (.edit _ _ (fun r => ?_) (fun r hr => ?_) fun r => ?_)
  · split <;> simp [hpass]
  · split
    · exact hok r hr
    · exact hr
  · split <;> simp [hmark]

theorem updSettlement (h : Ordinary s u) {f : Settlement → Settlement}
    (hf : u.settlement.queue = [] → u.settlement.collection = none →
      (f u.settlement).queue = [] ∧ (f u.settlement).collection = none) : Ordinary s (u.updSettlement f) := h.trans
  { table := .refl
    rider := fun _ => rfl
    rest := fun _ ⟨hsweep, hshut, hqueue, hcoll⟩ => ⟨hsweep, hshut, hf hqueue hcoll⟩ }

/-- A change of the lanes, the strap kept. -/
theorem updLanes (h : Ordinary s u) {f : LaneController → LaneController}
    (hrider : ∀ l, ((f u.lanes).lane[l]).rider = (u.laneAt l).rider)
    (hshut : ∀ l, u.lanePresent l = true → (u.laneAt l).Shut → ((f u.lanes).lane[l]).Shut) :
    Ordinary s (u.updLanes f) := h.trans
  { table := .refl
    rider := hrider
    rest := fun _ ⟨hsweep, hl, hqueue, hcoll⟩ => ⟨hsweep, fun l hp => hshut l hp (hl l hp), hqueue, hcoll⟩ }

/-! ### Rules for the shared operations -/

theorem updClock (h : Ordinary s u) (f : Clock → Clock) : Ordinary s (u.updClock f) := h.aside rfl rfl rfl rfl
theorem updTally (h : Ordinary s u) (f : Tally → Tally) : Ordinary s (u.updTally f) := h.aside rfl rfl rfl rfl
theorem updDecoder (h : Ordinary s u) (f : Decoder → Decoder) : Ordinary s (u.updDecoder f) := h.aside rfl rfl rfl rfl
theorem updLink (h : Ordinary s u) (f : Link → Link) : Ordinary s (u.updLink f) := h.aside rfl rfl rfl rfl
theorem updPort (h : Ordinary s u) {f : Port → Port} (hf : (f u.port).eightLanes = u.port.eightLanes) :
    Ordinary s (u.updPort f) := h.aside rfl rfl rfl hf
theorem updContext (h : Ordinary s u) (o : Origin) (f : Context → Context) : Ordinary s (u.updContext o f) :=
  h.aside rfl rfl rfl rfl
theorem setStage (h : Ordinary s u) (o : Origin) (st : Stage) : Ordinary s (u.setStage o st) := h.aside rfl rfl rfl rfl
theorem handEvents (h : Ordinary s u) (es : List Event) : Ordinary s (u.handEvents es) :=
  h.aside (by simp) (by simp) (by simp) (by simp)
theorem raiseLane (h : Ordinary s u) (ms : List LaneMsg) : Ordinary s (u.raiseLane ms) := h.updDecoder _
theorem raiseTally (h : Ordinary s u) (ns : List Notice) : Ordinary s (u.raiseTally ns) := h.updDecoder _
theorem raiseLapse (h : Ordinary s u) (n : OwnedNotice) : Ordinary s (u.raiseLapse n) := h.updDecoder _
theorem raiseLink (h : Ordinary s u) (n : Notice) : Ordinary s (u.raiseLink n) := h.updDecoder _
theorem raiseSweep (h : Ordinary s u) (n : Notice) : Ordinary s (u.raiseSweep n) := h.updDecoder _
theorem handAnswer (h : Ordinary s u) (o : Origin) (b : Bool) (a : Answer) : Ordinary s (u.handAnswer o b a) :=
  h.aside (by simp) (by simp) (by simp) (by simp)
theorem endWith (h : Ordinary s u) (o : Origin) (a : Answer) : Ordinary s (u.endWith o a) :=
  h.aside (by simp) (by simp) (by simp) (by simp)
theorem complete (h : Ordinary s u) (o : Origin) (d : List Byte) : Ordinary s (u.complete o d) := h.endWith o _
theorem found (h : Ordinary s u) (o : Origin) (d : List Byte) : Ordinary s (u.found o d) := h.endWith o _
theorem fail (h : Ordinary s u) (o : Origin) (c : ConditionCode) (p : Option Nat) (f : Option FieldRef) :
    Ordinary s (u.fail o c p f) := h.endWith o _
theorem busy (h : Ordinary s u) (o : Origin) : Ordinary s (u.busy o) := h.endWith o _
theorem placeFor (h : Ordinary s u) (o : Origin) (n : Notice) : Ordinary s (u.placeFor o n) :=
  h.aside (by simp) (by simp) (by simp) (by simp)

/-- A change of who was served last and of the claims that wait. -/
theorem updClaims (h : Ordinary s u) (l : LaneNo) (o : Origin) (cs : List OfficeClaim) :
    Ordinary s (u.updTable fun t => { t with lastLane := l, lastOrigin := o, officeClaims := cs }) :=
  h.updTable (.claims _ l o cs)

theorem submitClaim (h : Ordinary s u) (o : Origin) : Ordinary s (u.submitClaim o) := by
  cases o
  · exact h
  · exact h.updClaims _ _ _

theorem dropClaim (h : Ordinary s u) (o : Origin) : Ordinary s (u.dropClaim o) := by
  cases o
  · exact h
  · exact h.updClaims _ _ _

theorem serve (h : Ordinary s u) (o : Origin) : Ordinary s (u.serve o) := by
  cases o
  · exact h.updClaims _ _ _
  · exact h.updClaims _ _ _

theorem serveLane (h : Ordinary s u) (l : LaneNo) : Ordinary s (u.serveLane l) := h.updClaims l _ _

/-- A table request of one claim, by what it does at its turn. -/
theorem tableClaim {o : Origin} {k : State → State} (hk : Ordinary s (k (s.serve o))) :
    Ordinary s (s.tableClaim o k) := by
  unfold State.tableClaim
  split
  · exact hk
  · exact .refl

/-- The start of a table request of several claims, by what it does at its turn. -/
theorem tableBegin {o : Origin} {k : State → State} (hk : Ordinary s (k s)) : Ordinary s (s.tableBegin o k) := by
  unfold State.tableBegin
  split
  · exact hk
  · exact .refl

/-! ### Rules for the lanes -/

/-- One lane's event: it keeps the rider, and the lane shut where it is. -/
theorem runLane (h : Ordinary s u) (l : LaneNo) {f : LaneEnv → LaneRun → LaneRun}
    (hrider : ∀ env r, (f env r).lane.rider = r.lane.rider)
    (hshut : (u.laneAt l).Shut → (f (u.laneEnv l) { lane := u.laneAt l, events := [], msgs := [] }).lane.Shut) :
    Ordinary s (u.runLane l f) := h.trans
  { table := by rw [(runLane_frame u l f).2.1]
    rider := runLane_rider hrider u l
    rest := fun _ ⟨hsweep, hl, hqueue, hcoll⟩ => by
      refine ⟨by simpa using hsweep, fun m hp => runLane_shut hshut (hl m ?_), by simpa using hqueue, by simpa using hcoll⟩
      rwa [lanePresent_congr (s := u) (by simp)] at hp }

/-- An event on several lanes. -/
theorem runLanes (h : Ordinary s u) (ls : List LaneNo) {f : LaneEnv → LaneRun → LaneRun}
    (hrider : ∀ env r, (f env r).lane.rider = r.lane.rider)
    (hshut : ∀ env r, r.lane.Shut → (f env r).lane.Shut) : Ordinary s (u.runLanes ls f) := by
  unfold State.runLanes
  induction ls generalizing u with
  | nil => exact h
  | cons l ls ih => exact ih (h.runLane l hrider fun hl => hshut _ _ hl)

/-- Changes of the part that leave the table and keep the riders, no TABLE CLEAR running. -/
theorem of_not_clearing (h : Ordinary s u) (hc : u.clearing = false) (ht : t.table = u.table)
    (hrider : ∀ l, (t.laneAt l).rider = (u.laneAt l).rider) : Ordinary s t := h.trans
  { table := ht ▸ .refl
    rider := hrider
    rest := fun hc' => by simp [clearing, ht] at hc hc'; simp [hc] at hc' }

theorem setTally (h : Ordinary s u) (v : Tally) : Ordinary s (u.setTally v) := by
  have hadmission (l : LaneNo) : ((u.setTally v).laneAt l).admission = (u.laneAt l).admission := by
    simpa using congrArg Lane.admission (setTally_laneAt v u l)
  have hstate (l : LaneNo) : ((u.setTally v).laneAt l).state = (u.laneAt l).state := by
    simpa using congrArg Lane.state (setTally_laneAt v u l)
  have hmiss (l : LaneNo) : ((u.setTally v).laneAt l).miss = (u.laneAt l).miss := by
    simpa using congrArg Lane.miss (setTally_laneAt v u l)
  refine h.trans ⟨by rw [(setTally_frame u v).2.1], fun l => ?_, fun _ ⟨hsweep, hshut, hqueue, hcoll⟩ => ?_⟩
  · simp [Lane.rider, hadmission]
  · refine ⟨by simpa using hsweep, fun l hp => ?_, by simpa using hqueue, by simpa using hcoll⟩
    obtain ⟨hclosed, hno⟩ := hshut l (by rwa [lanePresent_congr (s := u) (by simp)] at hp)
    exact ⟨(hstate l).trans hclosed, (hmiss l).trans hno⟩

end Ordinary
end State
end Sys2Proof.Machine

/-! ## The ordinary commands

That every command but the two resets, the lanes' claims, the beginning of a TABLE CLEAR and its steps makes an ordinary change. -/

namespace Sys2Proof.Machine

/-! ### Record ranges -/

theorem withoutDays_joinDays {a b : DaySet} (h : withoutDays a b = 0) (c : DaySet) : withoutDays a (joinDays b c) = 0 := by
  have : withoutDays a (joinDays b c) = withoutDays a b &&& ~~~c := by
    ext i; simp [withoutDays, joinDays, Bool.and_assoc]
  simp [this, h]

theorem withoutDays_withoutDays {a b : DaySet} (h : withoutDays a b = 0) (c : DaySet) :
    withoutDays (withoutDays a c) b = 0 := by
  have : withoutDays (withoutDays a c) b = withoutDays a b &&& ~~~c := by
    ext i; simp only [withoutDays, BitVec.getElem_and]; ac_rfl
  simp [this, h]

@[simp] theorem zero_withoutDays (a : DaySet) : withoutDays 0 a = 0 := by simp [withoutDays]

/-- A chain of tests names no field exactly when no test of it fails. -/
theorem ite_some_eq_none {c : Prop} [Decidable c] {x : Nat} {y : Option Nat} :
    (if c then some x else y) = none ↔ ¬ c ∧ y = none := by
  split <;> simp [*]

/-- What the argument checks of PASS INSERT leave of the arguments (R14). -/
theorem checkInsert_none {a : InsertArgs} (h : checkInsert a = none) :
    badPass a.pass = false ∧ (a.passKind = .days → 1 ≤ a.entitled ∧ a.entitled ≤ 30) ∧ a.first ≤ a.last ∧ a.last ≤ 239 := by
  simp only [checkInsert, ite_some_eq_none] at h
  obtain ⟨hpass, -, hkind, hentitled, -, hlast, hwindow, -⟩ := h
  refine ⟨by simpa using hpass, fun hdays => ?_, by omega, by omega⟩
  have : kindOfCode a.kind = some .days := by
    cases hk : kindOfCode a.kind <;> simp_all [InsertArgs.passKind]
  simp only [this, true_and] at hentitled
  omega

theorem InsertArgs.heldEntitled_days {a : InsertArgs} (h : a.passKind = .days) : a.heldEntitled = a.entitled := by
  simp [heldEntitled, h]

theorem InsertArgs.heldEntitled_season {a : InsertArgs} (h : a.passKind = .season) : a.heldEntitled = 0 := by
  simp [heldEntitled, h]

theorem InsertArgs.newRecord_ok {a : InsertArgs} (h : checkInsert a = none) (st : RecordState) : (a.newRecord st).Ok := by
  obtain ⟨-, hdays, hwindow, hlast⟩ := checkInsert_none h
  refine ⟨hwindow, hlast, by simp [newRecord], by simp [newRecord], fun hk => ?_, fun hk => ?_, zero_withoutDays _⟩
  · rw [show (a.newRecord st).entitled = a.entitled from heldEntitled_days hk]
    exact hdays hk
  · exact heldEntitled_season hk

theorem InsertArgs.replace_ok {a : InsertArgs} (h : checkInsert a = none) {r : PassRecord} (hr : r.Ok) : (a.replace r).Ok := by
  obtain ⟨-, hdays, hwindow, hlast⟩ := checkInsert_none h
  obtain ⟨-, -, hseason, htoday, -, -, hused⟩ := hr
  refine ⟨hwindow, hlast, hseason, htoday, fun hk => ?_, fun hk => ?_, withoutDays_joinDays hused _⟩
  · rw [show (a.replace r).entitled = a.entitled from heldEntitled_days hk]
    exact hdays hk
  · exact heldEntitled_season hk

theorem PassRecord.Ok.merge {r : PassRecord} (h : r.Ok) (ds : DaySet) : (r.merge ds).Ok := by
  obtain ⟨hwindow, hlast, hseason, htoday, hdays, hzero, hused⟩ := h
  exact ⟨hwindow, hlast, hseason, htoday, hdays, hzero, withoutDays_joinDays hused ds⟩

theorem PassRecord.Ok.reported {r : PassRecord} (h : r.Ok) (ds : DaySet) : (r.reported ds).Ok := by
  obtain ⟨hwindow, hlast, hseason, htoday, hdays, hzero, hused⟩ := h
  exact ⟨hwindow, hlast, hseason, htoday, hdays, hzero, withoutDays_withoutDays hused ds⟩

theorem PassRecord.Ok.settled {r : PassRecord} (h : r.Ok) : ({ r with state := .settled, unreported := 0 } : PassRecord).Ok := by
  obtain ⟨hwindow, hlast, hseason, htoday, hdays, hzero, -⟩ := h
  exact ⟨hwindow, hlast, hseason, htoday, hdays, hzero, zero_withoutDays _⟩

namespace State
namespace Ordinary

variable {s u t : State}

theorem ite {c : Prop} [Decidable c] {a b : State} (ha : c → Ordinary s a) (hb : ¬ c → Ordinary s b) :
    Ordinary s (if c then a else b) := by
  split
  · exact ha ‹_›
  · exact hb ‹_›

/-! ### The clock and the tally interval -/

theorem settleClose (h : Ordinary s u) : Ordinary s u.settleClose := .ite (fun _ => h.setTally _) fun _ => h

theorem finishSecond (h : Ordinary s u) : Ordinary s u.finishSecond := h.updClock _

theorem rollOver (h : Ordinary s u) : Ordinary s u.rollOver :=
  .ite (fun _ => (h.settleClose.updClock _).setTally _) fun _ => h.settleClose.updClock _

theorem advanceSecond (h : Ordinary s u) : Ordinary s u.advanceSecond :=
  .ite (fun _ => (h.settleClose.updClock _).updTally _) fun _ => h.settleClose.updClock _

theorem applyClockSet (h : Ordinary s u) (a : ClockSetArgs) : Ordinary s (u.applyClockSet a) := by
  refine .ite (fun _ => (h.updClock _).updTally _) fun _ => .ite (fun _ => (h.updClock _).updTally _) fun _ => ?_
  exact ((ite (fun _ => (h.updClock _).setTally _) fun _ => h.updClock _).updClock _).updTally _

/-- A millisecond that passes on an empty queue. -/
theorem tick (s : State) : Ordinary s (Machine.tick s) :=
  .ite (fun _ => refl.updClock _) fun _ => .ite (fun _ => refl.updClock _) fun _ =>
    .ite (fun _ => refl.finishSecond.advanceSecond) fun _ => refl.finishSecond.rollOver

end Ordinary

/-! ### Lanes that wait for a pass -/

/-- A lane that waits for a pass is present, and its miss record names the pass (R82). -/
theorem missLane_some {s : State} {p : Nat} {l : LaneNo} (h : s.missLane p = some l) :
    s.lanePresent l = true ∧ ∃ m, (s.laneAt l).miss = some m ∧ m.pass = p := by
  have hmem := List.mem_of_find?_eq_some h
  have hany := List.find?_some h
  refine ⟨(List.mem_filter.1 hmem).2, ?_⟩
  cases hm : (s.laneAt l).miss <;> simp_all

/-- Where no lane waits for a pass, no present lane's miss record names it (R82). -/
theorem missLane_none {s : State} {p : Nat} (h : s.missLane p = none) {l : LaneNo} {m : Miss}
    (hl : s.lanePresent l = true) (hm : (s.laneAt l).miss = some m) : m.pass ≠ p := by
  have := List.find?_eq_none.1 h l (List.mem_filter.2 ⟨List.mem_finRange l, hl⟩)
  simpa [hm] using this

/-- The record evicted is resident and evictable (R10, R16). -/
theorem evictee_some {s : State} {p : Nat} (h : s.evictee = some p) :
    ∃ r, s.record p = some r ∧ s.evictable r = true := by
  have := List.find?_some h
  cases hr : s.record p <;> simp_all

theorem evictable_inFlight {s : State} {r : PassRecord} (h : s.evictable r = true) : r.inFlight = none := by
  simp [evictable] at h; exact h.1.1.2

namespace Ordinary

variable {s u t : State}

/-- An event at the lane that waits for a pass. -/
theorem tellMiss (h : Ordinary s u) (p : Nat) {f : LaneEnv → LaneRun → LaneRun}
    (hrider : ∀ env r, (f env r).lane.rider = r.lane.rider) : Ordinary s (u.tellMiss p f) := by
  unfold State.tellMiss
  split
  · rename_i l hl
    obtain ⟨-, m, hm, -⟩ := missLane_some hl
    exact h.runLane l hrider fun hshut => by simp [hshut.2] at hm
  · exact h

/-! ### The pass table's requests -/

theorem failHeld (h : Ordinary s u) (o : Origin) (p : Nat) : Ordinary s (u.failHeld o p) :=
  .ite (fun _ => h.fail ..) fun _ => h.fail ..

theorem createPass (h : Ordinary s u) (o : Origin) {a : InsertArgs} (ev : Option Nat) {f : Table → Table}
    (hm : ∀ st, TableMove u.table ((f u.table).create (a.newRecord st))) :
    Ordinary s ((u.updTable f).createPass o a ev) :=
  ((h.updTable (f := fun t => (f t).create (a.newRecord ((f u.table).listState a.pass))) (hm _)).tellMiss a.pass fun env r => by simp).complete _ _

theorem insertNew (h : Ordinary s u) (o : Origin) {a : InsertArgs} (ha : checkInsert a = none)
    (hnew : u.record a.pass = none) : Ordinary s (u.insertNew o a) := by
  unfold State.insertNew
  split
  · rename_i hroom
    exact h.createPass (f := id) o none fun st =>
      .create _ _ hroom hnew (checkInsert_none ha).1 (a.newRecord_ok ha st) rfl
  · split
    · rename_i p hp
      obtain ⟨x, hx, hev⟩ := evictee_some hp
      exact h.createPass o (some p) fun st =>
        .evict _ x _ p hx (evictable_inFlight hev) hnew (checkInsert_none ha).1 (a.newRecord_ok ha st) rfl
    · exact (h.tellMiss a.pass fun env r => by simp).fail ..

theorem insertOver (h : Ordinary s u) (o : Origin) {a : InsertArgs} (ha : checkInsert a = none) {r : PassRecord}
    (hr : u.record a.pass = some r) : Ordinary s (u.insertOver o a r) := by
  have hreplaced : Ordinary s ((u.updRecord a.pass a.replace).updTable (Table.toHead a.pass)) := by
    refine (h.updRecord (f := a.replace) (fun _ => rfl) (fun _ => a.replace_ok ha) fun _ => rfl).updTable (.toHead _ _ ?_)
    exact Table.mem_passes_of_find (Table.find_update_same (fun _ => rfl) hr)
  unfold State.insertOver
  split
  · exact h.busy o
  · split
    · exact h.failHeld o a.pass
    · exact h.fail ..
    · exact hreplaced.complete o _
    · exact hreplaced.complete o _

end Ordinary

/-- A command goes on, and makes an ordinary change. -/
def GoesOrdinary (s : State) (out : Host.Outcome State Fault Refusal) : Prop := ∃ t, out = .next t ∧ Ordinary s t

theorem GoesOrdinary.next {s t : State} (h : Ordinary s t) : GoesOrdinary s (.next t) := ⟨t, rfl, h⟩

end State

section

open State (Ordinary GoesOrdinary)

variable (o : Origin) (s : State)

theorem ordinary_execPassInsert : GoesOrdinary s (execPassInsert o s) := by
  refine .next ?_
  split
  · rename_i a _
    refine .tableClaim ?_
    split
    · exact (Ordinary.refl.serve o).fail ..
    · rename_i ha
      split
      · exact (Ordinary.refl.serve o).insertNew o ha ‹_›
      · exact (Ordinary.refl.serve o).insertOver o ha ‹_›
  · exact .refl

theorem ordinary_execPassDrop : GoesOrdinary s (execPassDrop o s) := by
  refine .next ?_
  split
  · rename_i p _
    have hserve : Ordinary s (s.serve o) := Ordinary.refl.serve o
    refine .tableClaim (.ite (fun _ => hserve.fail ..) fun _ => ?_)
    split
    · exact hserve.fail ..
    · rename_i r hr
      refine .ite (fun _ => hserve.busy o) fun hfree => .ite (fun _ => hserve.failHeld o p) fun _ =>
        .ite (fun _ => hserve.fail ..) fun _ => .ite (fun _ => hserve.fail ..) fun _ => ?_
      exact (hserve.updTable (.remove _ r p hr (by simpa using hfree))).complete o _
  · exact .refl

theorem ordinary_execPassRead : GoesOrdinary s (execPassRead o s) := by
  refine .next ?_
  split
  · refine .tableClaim (.ite (fun _ => (Ordinary.refl.serve o).fail ..) fun _ => ?_)
    split
    · exact (Ordinary.refl.serve o).fail ..
    · exact (Ordinary.refl.serve o).complete ..
  · exact .refl

theorem ordinary_execPassFind : GoesOrdinary s (execPassFind o s) := by
  refine .next ?_
  split
  · refine .tableBegin ?_
    split
    · exact (Ordinary.refl.dropClaim o).fail ..
    · exact Ordinary.refl.setStage ..
  · exact .refl

theorem ordinary_execPassFindStep : GoesOrdinary s (execPassFindStep o s) := by
  refine .next ?_
  have hserve : Ordinary s (s.serve o) := Ordinary.refl.serve o
  split
  · refine .ite (fun _ => ?_) fun _ => .refl
    dsimp only
    split
    · exact hserve.found ..
    · split
      · exact hserve.complete ..
      · exact .ite (fun _ => hserve.complete ..) fun _ => (hserve.setStage ..).submitClaim o
  · exact .refl

theorem ordinary_execTableSize : GoesOrdinary s (execTableSize o s) := by
  refine .next ?_
  split
  · exact .tableClaim ((Ordinary.refl.serve o).complete ..)
  · exact .refl

end

end Sys2Proof.Machine

namespace Sys2Proof.Machine

namespace State
namespace Ordinary

variable {s u t : State}

/-! ### Holds -/

/-- A change of the settlement unit that leaves its queue and its collection. -/
theorem updHolds (h : Ordinary s u) {f : Settlement → Settlement} (hq : (f u.settlement).queue = u.settlement.queue)
    (hc : (f u.settlement).collection = u.settlement.collection) : Ordinary s (u.updSettlement f) :=
  h.updSettlement fun hqueue hcoll => ⟨hq.trans hqueue, hc.trans hcoll⟩

/-- A change of a record's state or of its hold lapsed flag alone. -/
theorem updState (h : Ordinary s u) (p : Nat) (f : PassRecord → RecordState) (g : PassRecord → Bool) :
    Ordinary s (u.updRecord p fun r => { r with state := f r, holdLapsed := g r }) :=
  h.updRecord (fun _ => rfl) (fun _ hr => hr) fun _ => rfl

theorem reachHeld (h : Ordinary s u) (p : Nat) (o : Origin) (n : Nat) : Ordinary s (u.reachHeld p o n) :=
  (h.updHolds rfl rfl).updState p _ _

theorem placeHold (h : Ordinary s u) (o : Origin) (p : Nat) : Ordinary s (u.placeHold o p) := by
  refine .ite (fun _ => h.fail ..) fun _ => ?_
  split
  · exact h.fail ..
  · split
    · exact .ite (fun _ => h.fail ..) fun _ => h.fail ..
    · refine .ite (fun _ => h.fail ..) fun _ => .ite (fun _ => h.fail ..) fun _ => .ite (fun _ => h.fail ..) fun _ =>
        .ite (fun _ => ?_) fun _ => ((h.reachHeld ..).handEvents _).complete ..
      exact .ite (fun _ => (h.updHolds rfl rfl).setStage ..) fun _ => (h.updHolds rfl rfl).updContext ..

theorem heldByMe (h : Ordinary s u) (o : Origin) (p : Nat) {k : PassRecord → State → State}
    (hk : ∀ r, Ordinary s (k r u)) : Ordinary s (u.heldByMe o p k) := by
  unfold State.heldByMe
  split
  · exact h.fail ..
  · split
    · refine .ite (fun _ => h.fail ..) fun _ => ?_
      split
      · exact h.busy o
      · exact hk _
    · exact .ite (fun _ => h.fail ..) fun _ => .ite (fun _ => h.fail ..) fun _ =>
        .ite (fun _ => h.fail ..) fun _ => h.fail ..

theorem settleHeld (h : Ordinary s u) (o : Origin) (p n : Nat) (r : PassRecord) : Ordinary s (u.settleHeld o p n r) := by
  refine .ite (fun _ => h.fail ..) fun _ => .ite (fun _ => h.fail ..) fun _ => ?_
  have hrecord := h.updRecord (p := p) (f := fun r => { r with state := .settled, unreported := 0 }) (fun _ => rfl)
    (fun _ hr => hr.settled) fun _ => rfl
  exact ((hrecord.updSettlement (f := Settlement.settle p) fun hq hc => by simp_all [Settlement.settle]).handEvents _).complete ..

theorem lapse (h : Ordinary s u) (e : HoldEntry) : Ordinary s (u.lapse e) := by
  have hdropped : Ordinary s (u.updSettlement (Settlement.dropHold e.pass)) := h.updHolds rfl rfl
  exact (hdropped.updState e.pass (fun _ => u.table.listState e.pass) fun _ => true).raiseLapse _

/-! ### The revocation list -/

theorem load (h : Ordinary s u) {a : LoadArgs} {list : List Nat} (hclear : u.clearing = false)
    (hlist : judgeLoad u.table.revoked a = .accepted list) : Ordinary s (u.updTable (Table.load list)) :=
  h.updTable (.load _ a list (by simpa [clearing] using hclear) hlist)

theorem loadFor (h : Ordinary s u) (o : Origin) (a : LoadArgs) : Ordinary s (u.loadFor o a) := by
  refine .ite (fun _ => h.busy o) fun hbusy => ?_
  split
  · exact h.fail ..
  · exact h.fail ..
  · exact (h.load (by simp_all) ‹_›).complete ..

theorem loadBroadcast (h : Ordinary s u) (a : LoadArgs) : Ordinary s (u.loadBroadcast a) := by
  refine .ite (fun _ => h) fun hbusy => ?_
  split
  · exact h
  · exact h
  · exact h.load (by simp_all) ‹_›

/-- A sweep goes on or ends. -/
theorem updSweep (h : Ordinary s u) {w : Table → Sweep} (hw : (w u.table).running = true → u.table.sweep.running = true) :
    Ordinary s (u.updTable fun t => { t with sweep := w t }) :=
  h.updTable (.sweep _ _ hw)

theorem sweepRecord (h : Ordinary s u) (r : PassRecord) : Ordinary s (u.sweepRecord r) := by
  have hstate := h.updState r.pass
    (fun _ => sweptState (u.table.listed r.pass) (u.settlement.pending r.pass) r.state) PassRecord.holdLapsed
  exact hstate.updSweep (w := fun t => t.sweep.advance r.pass r.state _) id

theorem sweepEnd (h : Ordinary s u) : Ordinary s u.sweepEnd := by
  have hended := h.updSweep (w := fun t => { t.sweep with running := false, position := none }) nofun
  exact hended.raiseSweep _

/-! ### Usage -/

theorem collect (h : Ordinary s u) (o : Origin) (n : Nat) : Ordinary s (u.collect o n) := by
  refine .ite (fun _ => h.fail ..) fun _ => .ite (fun _ => h.fail ..) fun _ => .ite (fun _ => h.fail ..) fun _ =>
    .ite (fun _ => h.complete ..) fun hqueue => ?_
  exact (h.updSettlement fun hq _ => absurd hq hqueue).complete ..

end Ordinary
end State

/-- An entry of a confirm edits the record it names (R138). -/
theorem Confirming.entry_moves (c : Confirming) (e : CollectionEntry) : TableMoves c.table (c.entry e).table := by
  have hedit : TableMove c.table (c.table.update e.pass (PassRecord.reported e.carried)) := by
    refine .edit _ _ (fun r => ?_) (fun r hr => ?_) fun r => ?_
    · split <;> rfl
    · split
      · exact hr.reported _
      · exact hr
    · split <;> rfl
  unfold entry
  split
  · exact .refl
  · split
    · exact .refl
    · dsimp only
      split
      · exact .single hedit
      · exact .single hedit

/-- The entries of a confirm edit the records (R138). -/
theorem foldl_entry_moves (es : List CollectionEntry) (c : Confirming) :
    TableMoves c.table (es.foldl Confirming.entry c).table := by
  induction es generalizing c with
  | nil => exact .refl
  | cons e es ih => exact (c.entry_moves e).trans (ih _)

theorem State.confirmEntries_moves (s : State) (es : List CollectionEntry) :
    TableMoves s.table (s.confirmEntries es).table :=
  foldl_entry_moves es { table := s.table, queue := s.settlement.queue, left := 0, moved := 0 }

namespace State.Ordinary

variable {s u t : State}

theorem confirm (h : Ordinary s u) (o : Origin) {c : Collection} (hc : u.settlement.collection = some c) :
    Ordinary s (u.confirm o c) := by
  have htable := h.updTable_moves (f := fun _ => (u.confirmEntries c.entries).table) (u.confirmEntries_moves _)
  refine (htable.updSettlement fun _ hnone => ?_).complete ..
  simp [hc] at hnone

theorem discard (h : Ordinary s u) (o : Origin) (c : Collection) : Ordinary s (u.discard o c) :=
  (h.updSettlement fun hq _ => ⟨hq, rfl⟩).complete ..

theorem applyMerge (h : Ordinary s u) (e : MergeEntry) : Ordinary s (u.applyMerge e) :=
  .ite (fun _ => h) fun _ => h.updRecord (f := PassRecord.merge (mergeDays e.days)) (fun _ => rfl)
    (fun _ hr => hr.merge _) fun _ => rfl

/-! ### The decoder -/

theorem clearCondition (h : Ordinary s u) (o : Origin) (n : Nat) : Ordinary s (u.clearCondition o n) :=
  .ite (fun _ => h) fun _ => h.updContext ..

theorem failBlock (h : Ordinary s u) (o : Origin) (a : Answer) : Ordinary s (u.failBlock o a) :=
  (h.updContext ..).handAnswer ..

theorem takeRequest (h : Ordinary s u) (o : Origin) (r : Request) : Ordinary s (u.takeRequest o r) :=
  have htaken := h.updContext o fun c => { c with inFlight := some { request := r, answerable := true, stage := .waiting } }
  .ite (fun _ => .ite (fun _ => htaken.busy o) fun _ => htaken.submitClaim o) fun _ => htaken

theorem deliver (h : Ordinary s u) (o : Origin) (block : List Byte) : Ordinary s (u.deliver o block) := by
  refine .ite (fun _ => h.handAnswer ..) fun _ => ?_
  split
  · exact (h.clearCondition ..).failBlock ..
  · exact (h.clearCondition ..).takeRequest ..

theorem deliverBroadcast (h : Ordinary s u) (block : List Byte) : Ordinary s (u.deliverBroadcast block) := by
  unfold State.deliverBroadcast
  split
  · exact h.updClock _
  · exact .ite (fun _ => h) fun _ => h.updClaims ..
  · exact h

theorem abortEvent (h : Ordinary s u) (o : Origin) : Ordinary s (u.abortEvent o) := by
  unfold State.abortEvent
  split
  · exact (h.dropClaim o).fail ..
  · exact (h.updHolds rfl rfl).fail ..
  · exact (h.dropClaim o).fail ..
  · exact (h.updTable (.unclear _)).fail ..
  · exact h

theorem placeWatched (h : Ordinary s u) (n : Notice) : Ordinary s (u.placeWatched n) := by
  have hstation : Ordinary s (if u.decoder.station.watch.selects n then u.placeFor .station n else u) :=
    .ite (fun _ => h.placeFor ..) fun _ => h
  exact .ite (fun _ => hstation.placeFor ..) fun _ => hstation

/-! ### The station port -/

theorem writeControl (h : Ordinary s u) (w : Word) : Ordinary s (u.writeControl w) := by
  have hclear : Ordinary s (if w.getLsbD 3 then u.updPort Port.clearError else u) :=
    .ite (fun _ => h.updPort rfl) fun _ => h
  unfold State.writeControl
  generalize (if w.getLsbD 3 then u.updPort Port.clearError else u) = v at hclear ⊢
  have htaken : Ordinary s (if w.getLsbD 2 then v.updPort Port.taken else v) :=
    .ite (fun _ => hclear.updPort (by simp)) fun _ => hclear
  dsimp only
  generalize (if w.getLsbD 2 then v.updPort Port.taken else v) = x at htaken ⊢
  have habort : Ordinary s (if w.getLsbD 1 then (x.updPort Port.abort).abortEvent .station else x) :=
    .ite (fun _ => (htaken.updPort (by simp)).abortEvent _) fun _ => htaken
  exact .ite (fun _ => habort.updPort (by simp)) fun _ => habort

/-! ### The office link -/

theorem enterDropping (h : Ordinary s u) (why : DropReason) : Ordinary s (u.enterDropping why) :=
  (((h.updLink _).updContext ..).updLanes (f := fun c => { c with drops := c.drops + 1 }) (fun _ => rfl)
    fun _ _ hl => hl).updHolds rfl rfl

theorem lineEvent {f : State → State} (hf : Ordinary s (f u)) : Ordinary s (u.lineEvent f) :=
  .updLink (.ite (fun _ => hf.raiseLink _) fun _ => hf) _

theorem lineReadyLow (h : Ordinary s u) : Ordinary s u.lineReadyLow := by
  unfold State.lineReadyLow
  split
  iterate 3 exact h.enterDropping _
  · exact .ite (fun _ => h.updLink _) fun _ => h
  iterate 2 exact h

theorem carrierChange (h : Ordinary s u) (high : Bool) : Ordinary s (u.carrierChange high) := by
  unfold State.carrierChange
  split
  iterate 3 exact h.updLink _
  exact h

theorem receive (h : Ordinary s u) (r : Received) : Ordinary s (u.receive r) := by
  refine .ite (fun _ => ?_) fun _ => h
  unfold State.takeFrame
  split
  iterate 3 exact h
  · exact h.handEvents _
  · exact h.deliver ..
  · exact h.deliverBroadcast _
  · exact h.abortEvent _

end State.Ordinary

end Sys2Proof.Machine

namespace Sys2Proof.Machine

section

open State (Ordinary GoesOrdinary)

variable (o : Origin) (l : LaneNo) (s : State)

/-! ### Commands of the clock and the tally unit -/

theorem ordinary_execOperatingSecondAdvance : GoesOrdinary s (execOperatingSecondAdvance s) :=
  .next (.ite (fun _ => Ordinary.refl.finishSecond.advanceSecond) fun _ => .refl)

theorem ordinary_execRollover : GoesOrdinary s (execRollover s) :=
  .next (.ite (fun _ => Ordinary.refl.finishSecond.rollOver) fun _ => .refl)

theorem ordinary_execIntervalClose : GoesOrdinary s (execIntervalClose s) := .next Ordinary.refl.settleClose

theorem ordinary_execClockSet (src : Source) : GoesOrdinary s (execClockSet src s) := by
  refine .next ?_
  split
  · split
    · refine .ite (fun _ => Ordinary.refl.fail ..) fun _ => ?_
      split
      · exact Ordinary.refl.fail ..
      · exact (Ordinary.refl.applyClockSet _).complete ..
    · exact .refl
  · split
    · dsimp only
      split
      · exact Ordinary.refl.updClock _
      · exact (Ordinary.refl.updClock _).applyClockSet _
    · exact .refl

theorem ordinary_execTallyEvent (batch : Nat) : GoesOrdinary s (execTallyEvent batch s) := by
  refine .next ?_
  split
  · exact (Ordinary.refl.raiseTally _).setTally _
  · exact .refl

theorem ordinary_execTallyProgram : GoesOrdinary s (execTallyProgram o s) := by
  refine .next ?_
  split
  · split
    · split
      · exact Ordinary.refl.fail ..
      · exact (Ordinary.refl.setTally _).complete ..
    · exact Ordinary.refl.fail ..
  · exact .refl

theorem ordinary_execTallyClear : GoesOrdinary s (execTallyClear o s) := by
  refine .next ?_
  split
  · exact .ite (fun _ => Ordinary.refl.fail ..) fun _ => (Ordinary.refl.setTally _).complete ..
  · exact .refl

theorem ordinary_execTallyRead : GoesOrdinary s (execTallyRead o s) := by
  refine .next ?_
  split
  · exact .ite (fun _ => Ordinary.refl.fail ..) fun _ => Ordinary.refl.complete ..
  · exact .refl

theorem ordinary_execHistoryRead : GoesOrdinary s (execHistoryRead o s) := by
  refine .next ?_
  split
  · refine .ite (fun _ => Ordinary.refl.fail ..) fun _ => ?_
    dsimp only
    exact .complete (.ite (fun _ => .refl) fun _ => Ordinary.refl.updTally _) ..
  · exact .refl

/-! ### Commands of the lanes -/

/-- An event that a lane takes where a condition holds. -/
theorem ordinary_laneEvent (l : LaneNo) (s : State) {c : Prop} [Decidable c] {f : LaneEnv → LaneRun → LaneRun}
    (hrider : ∀ env r, (f env r).lane.rider = r.lane.rider) (hshut : ∀ env r, r.lane.Shut → (f env r).lane.Shut) :
    GoesOrdinary s (.next (if c then s.runLane l f else s)) :=
  .next (.ite (fun _ => Ordinary.refl.runLane l hrider fun h => hshut _ _ h) fun _ => .refl)

theorem ordinary_execPresence : GoesOrdinary s (execPresence l s) :=
  .next (Ordinary.refl.runLane l (fun _ _ => rfl) id)

theorem Ordinary.takePresentation (pass : BitVec 32) (media status attempt : Byte) :
    Ordinary s (s.takePresentation l pass media status attempt) :=
  Ordinary.refl.runLane l (fun _ _ => by simp) fun h => Lane.Shut.present h _ _

theorem ordinary_execPresentation (pass : BitVec 32) (media status attempt : Byte) :
    GoesOrdinary s (execPresentation l pass media status attempt s) := .next (Ordinary.takePresentation ..)

theorem ordinary_execDiscardedReaderMessage (burst : List Byte) :
    GoesOrdinary s (execDiscardedReaderMessage l burst s) := by
  refine .next ?_
  split
  · exact .refl
  · exact Ordinary.refl.runLane l (fun _ _ => rfl) id
  · exact Ordinary.takePresentation ..

theorem ordinary_execReaderSilence : GoesOrdinary s (execReaderSilence l s) :=
  ordinary_laneEvent l s (fun _ _ => by simp) fun _ _ h => h.silent

theorem ordinary_execBeamSettle (entry exit : LaneMask) : GoesOrdinary s (execBeamSettle entry exit s) := by
  refine .next (.ite (fun _ => Ordinary.refl.updLanes (fun l => ?_) fun l _ hl => ?_) fun _ => .refl)
  · simp only [Fin.getElem_fin, Vector.getElem_ofFn]
    split <;> rfl
  · simp only [Fin.getElem_fin, Vector.getElem_ofFn]
    split <;> exact hl

theorem ordinary_execBeamBreak (b : Beam) : GoesOrdinary s (execBeamBreak l b s) := by
  refine ordinary_laneEvent l s (fun env r => ?_) fun env r h => ?_
  · cases b
    · exact LaneRun.rider_entryBreak env _
    · exact LaneRun.rider_exitBreak env _
  · cases b
    · exact Lane.Shut.entryBreak h
    · exact Lane.Shut.exitBreak h

theorem ordinary_execBeamRestore (b : Beam) : GoesOrdinary s (execBeamRestore l b s) := by
  refine ordinary_laneEvent l s (fun env r => ?_) fun env r h => ?_
  · cases b
    · rfl
    · exact LaneRun.rider_exitRestore _
  · cases b
    · exact h
    · exact Lane.Shut.exitRestore h

theorem ordinary_execPassageWindowExpiry : GoesOrdinary s (execPassageWindowExpiry l s) :=
  ordinary_laneEvent l s (fun _ _ => rfl) fun _ _ h => h

theorem ordinary_execPassingLimitExpiry : GoesOrdinary s (execPassingLimitExpiry l s) :=
  ordinary_laneEvent l s (fun _ _ => rfl) fun _ _ h => h

theorem ordinary_execMissWaitExpiry : GoesOrdinary s (execMissWaitExpiry l s) :=
  ordinary_laneEvent l s (fun _ _ => by simp) fun _ _ h => h.refuseMiss _

theorem ordinary_execToneEnd : GoesOrdinary s (execToneEnd l s) :=
  ordinary_laneEvent l s (fun _ _ => rfl) fun _ _ h => h

theorem ordinary_execLampBlink : GoesOrdinary s (execLampBlink l s) :=
  ordinary_laneEvent l s (fun _ _ => rfl) fun _ _ h => h

theorem ordinary_execPacingStart : GoesOrdinary s (execPacingStart l s) := by
  refine .next ?_
  split
  · exact Ordinary.refl.runLane l (fun env _ => LaneRun.rider_paceStart env _) fun h => Lane.Shut.paceStart h
  · exact .refl

theorem ordinary_execPacingEnd : GoesOrdinary s (execPacingEnd l s) := by
  refine .next ?_
  split
  · exact Ordinary.refl.runLane l (fun env _ => LaneRun.rider_paceEnd env _) fun h => Lane.Shut.paceEnd h
  · exact .refl

theorem ordinary_execLineDropAtLanes : GoesOrdinary s (execLineDropAtLanes s) := by
  refine .next (.ite (fun _ => .refl) fun _ => ?_)
  have htaken := (Ordinary.refl (s := s)).updLanes (f := fun c => { c with drops := c.drops - 1 }) (fun _ => rfl)
    fun _ _ h => h
  exact htaken.runLanes _ (fun _ _ => by simp) fun _ _ h => h.refuseMiss _

/-- LANE OPEN finds no TABLE CLEAR running (R63). -/
theorem ordinary_execLaneOpen : GoesOrdinary s (execLaneOpen o s) := by
  refine .next ?_
  split
  · refine .ite (fun _ => Ordinary.refl.fail ..) fun _ => .ite (fun _ => Ordinary.refl.fail ..) fun hready => ?_
    refine Ordinary.complete (.of_not_clearing .refl (by simp_all) (by simp) fun l => ?_) ..
    exact State.runLanes_rider (fun _ _ => by simp) s _ l
  · exact .refl

theorem ordinary_execLaneClose : GoesOrdinary s (execLaneClose o s) := by
  refine .next ?_
  split
  · exact .ite (fun _ => Ordinary.refl.fail ..) fun _ =>
      (Ordinary.refl.runLanes _ (fun _ _ => by simp) fun _ _ h => h.closeLane).complete ..
  · exact .refl

theorem ordinary_execLaneReset : GoesOrdinary s (execLaneReset o s) := by
  refine .next ?_
  split
  · exact .ite (fun _ => Ordinary.refl.fail ..) fun _ =>
      (Ordinary.refl.runLanes _ (fun _ _ => by simp) fun _ _ h => h.resetLane).complete ..
  · exact .refl

theorem ordinary_execLaneStatus : GoesOrdinary s (execLaneStatus o s) := by
  refine .next ?_
  split
  · exact .ite (fun _ => Ordinary.refl.fail ..) fun _ => Ordinary.refl.complete ..
  · exact .refl

end
end Sys2Proof.Machine

namespace Sys2Proof.Machine

section

open State (Ordinary GoesOrdinary)

variable (o : Origin) (s : State)

/-- A request that only answers: with nothing done but its end. -/
theorem ordinary_execClockRead : GoesOrdinary s (execClockRead o s) := by
  refine .next ?_
  split
  · exact Ordinary.refl.complete ..
  · exact .refl

/-! ### Commands of holds -/

theorem ordinary_execRefundHold : GoesOrdinary s (execRefundHold o s) := by
  refine .next ?_
  split
  · exact .tableClaim ((Ordinary.refl.serve o).placeHold ..)
  · exact .refl

theorem ordinary_execRefundSettle : GoesOrdinary s (execRefundSettle o s) := by
  refine .next ?_
  have hserve : Ordinary s (s.serve o) := Ordinary.refl.serve o
  split
  · exact .tableClaim (.ite (fun _ => hserve.fail ..) fun _ => .ite (fun _ => hserve.fail ..) fun _ =>
      hserve.heldByMe _ _ fun r => hserve.settleHeld ..)
  · exact .refl

theorem ordinary_execRefundRelease : GoesOrdinary s (execRefundRelease o s) := by
  refine .next ?_
  have hserve : Ordinary s (s.serve o) := Ordinary.refl.serve o
  split
  · rename_i p _
    refine .tableClaim (.ite (fun _ => hserve.fail ..) fun _ => hserve.heldByMe _ _ fun r => ?_)
    have hdropped : Ordinary s ((s.serve o).updSettlement (Settlement.dropHold p)) := hserve.updHolds rfl rfl
    exact (hdropped.updState p (fun _ => (s.serve o).table.listState p) PassRecord.holdLapsed).complete ..
  · exact .refl

theorem ordinary_execLapseTimerExpiry : GoesOrdinary s (execLapseTimerExpiry s) :=
  .next (.ite (fun _ => Ordinary.refl.updHolds rfl rfl) fun _ => .refl)

theorem ordinary_execLapseClaim : GoesOrdinary s (execLapseClaim s) := by
  refine .next ?_
  split
  · exact .refl
  · refine .ite (fun _ => ?_) fun _ => .refl
    refine Ordinary.updHolds ?_ rfl rfl
    split
    · exact .ite (fun _ => Ordinary.refl.lapse _) fun _ => .refl
    · exact .refl

theorem ordinary_execHoldListRead : GoesOrdinary s (execHoldListRead o s) := by
  refine .next ?_
  split
  · exact Ordinary.refl.complete ..
  · exact .refl

/-! ### Commands of the revocation list -/

theorem ordinary_execRevokeLoad (src : Source) : GoesOrdinary s (execRevokeLoad src s) := by
  refine .next ?_
  split
  · split
    · exact .tableClaim ((Ordinary.refl.serve _).loadFor ..)
    · exact .refl
  · split
    · exact .ite (fun _ => (Ordinary.refl.serve _).loadBroadcast _) fun _ => .refl
    · exact .refl

theorem ordinary_execSweepStep : GoesOrdinary s (execSweepStep s) := by
  refine .next (.ite (fun _ => ?_) fun _ => .refl)
  split
  · exact Ordinary.refl.sweepRecord _
  · exact Ordinary.refl.sweepEnd

theorem ordinary_execRevokeRead : GoesOrdinary s (execRevokeRead o s) := by
  refine .next ?_
  have hserve : Ordinary s (s.serve o) := Ordinary.refl.serve o
  split
  · exact .tableClaim (.ite (fun _ => hserve.fail ..) fun _ => .ite (fun _ => hserve.fail ..) fun _ => hserve.complete ..)
  · exact .refl

/-! ### Commands of usage -/

theorem ordinary_execUsageCollect : GoesOrdinary s (execUsageCollect o s) := by
  refine .next ?_
  split
  · exact .tableClaim ((Ordinary.refl.serve o).collect ..)
  · exact .refl

theorem ordinary_execUsageConfirm : GoesOrdinary s (execUsageConfirm o s) := by
  refine .next ?_
  have hserve : Ordinary s (s.serve o) := Ordinary.refl.serve o
  split
  · refine .tableClaim ?_
    split
    · exact hserve.fail ..
    · exact .ite (fun _ => hserve.fail ..) fun _ => .ite (fun _ => hserve.discard ..) fun _ => hserve.confirm o ‹_›
  · exact .refl

theorem ordinary_execCollectionVoid : GoesOrdinary s (execCollectionVoid s) :=
  .next (.ite (fun _ => .refl) fun _ => Ordinary.refl.updSettlement fun hqueue _ => ⟨hqueue, rfl⟩)

theorem ordinary_execDayMerge : GoesOrdinary s (execDayMerge o s) := by
  refine .next ?_
  split
  · exact .tableBegin (.ite (fun _ => (Ordinary.refl.dropClaim o).fail ..) fun _ => Ordinary.refl.setStage ..)
  · exact .refl

theorem ordinary_execDayMergeEntry : GoesOrdinary s (execDayMergeEntry o s) := by
  refine .next ?_
  split
  · have hmerged := fun e => (Ordinary.refl (s := s)).serve o |>.applyMerge e
    exact .ite (fun _ => .ite (fun _ => (hmerged _).complete ..) fun _ => ((hmerged _).setStage ..).submitClaim o)
      fun _ => .refl
  · exact .refl

/-! ### Commands of the decoder -/

theorem ordinary_execNoticePlacement (raiser : Raiser) : GoesOrdinary s (execNoticePlacement raiser s) := by
  refine .next ?_
  split
  · split
    · unfold State.placeLaneNotice
      split
      · exact (Ordinary.refl.updDecoder _).placeFor ..
      · exact (Ordinary.refl.updDecoder _).placeWatched _
    · exact .refl
  · split
    · exact (Ordinary.refl.updDecoder _).placeWatched _
    · exact .refl
  · split
    · exact (Ordinary.refl.updDecoder _).placeFor ..
    · exact .refl
  · split
    · exact .ite (fun _ => (Ordinary.refl.updDecoder _).placeFor ..) fun _ => Ordinary.refl.updDecoder _
    · exact .refl
  · split
    · exact (Ordinary.refl.updDecoder _).placeFor ..
    · exact .refl

theorem ordinary_execMissNoticeRemoval : GoesOrdinary s (execMissNoticeRemoval s) := by
  refine .next ?_
  split
  · exact (Ordinary.refl.updDecoder _).updLink _
  · exact .refl

theorem ordinary_execProfileSet : GoesOrdinary s (execProfileSet o s) := by
  refine .next ?_
  split
  · refine .ite (fun _ => Ordinary.refl.fail ..) fun _ => ?_
    split
    · exact Ordinary.refl.fail ..
    · exact (Ordinary.refl.updDecoder _).complete ..
  · exact .refl

theorem ordinary_execProfileRead : GoesOrdinary s (execProfileRead o s) := by
  refine .next ?_
  split
  · exact Ordinary.refl.complete ..
  · exact .refl

theorem ordinary_execWatchSet : GoesOrdinary s (execWatchSet o s) := by
  refine .next ?_
  split
  · exact .ite (fun _ => Ordinary.refl.fail ..) fun _ => (Ordinary.refl.updContext ..).complete ..
  · exact .refl

theorem ordinary_execReadyCheck : GoesOrdinary s (execReadyCheck o s) := by
  refine .next ?_
  split
  · exact Ordinary.refl.complete ..
  · exact .refl

theorem ordinary_execConditionRead : GoesOrdinary s (execConditionRead o s) := by
  refine .next ?_
  split
  · exact (Ordinary.refl.updContext ..).complete ..
  · exact .refl

theorem ordinary_execMarkWarm : GoesOrdinary s (execMarkWarm o s) := by
  refine .next ?_
  split
  · exact (Ordinary.refl.updDecoder _).complete ..
  · exact .refl

/-! ### Commands of the station port -/

theorem ordinary_execRequestWindow (word : Word) : GoesOrdinary s (execRequestWindow word s) := by
  refine .next (.ite (fun _ => ?_) fun _ => Ordinary.refl.updPort rfl)
  exact .ite (fun _ => (Ordinary.refl.updPort rfl).deliver ..) fun _ => Ordinary.refl.updPort rfl

theorem ordinary_execOutputWindow : GoesOrdinary s (execOutputWindow s) := .next (Ordinary.refl.updPort (by simp))

theorem ordinary_execShortTransfer : GoesOrdinary s (execShortTransfer s) :=
  .next (.ite (fun _ => Ordinary.refl.updPort rfl) fun _ => .refl)

theorem ordinary_execBadCommandByte (command : Byte) : GoesOrdinary s (execBadCommandByte command s) :=
  .next (.ite (fun _ => Ordinary.refl.updPort rfl) fun _ => .refl)

/-! ### Commands of the office link -/

theorem ordinary_execLinkOpen : GoesOrdinary s (execLinkOpen o s) := by
  refine .next ?_
  split
  · rename_i address rate source mode _
    have hopened : Ordinary s (s.lineEvent fun s => s.updLink (Link.opened s.now address rate source mode)) :=
      .lineEvent (Ordinary.refl.updLink _)
    split
    · exact Ordinary.refl.fail ..
    · exact .ite (fun _ => Ordinary.refl.fail ..) fun _ => hopened.complete ..
  · exact .refl

theorem ordinary_execLinkClose : GoesOrdinary s (execLinkClose o s) := by
  refine .next ?_
  split
  · have hclosed : Ordinary s (s.lineEvent fun s => (s.updLink Link.pendClose).enterDropping .close) :=
      .lineEvent ((Ordinary.refl.updLink _).enterDropping _)
    split
    · exact Ordinary.refl.fail ..
    iterate 4 exact hclosed.complete ..
    · exact .ite (fun _ => Ordinary.refl.fail ..) fun _ => (Ordinary.refl.updLink _).complete ..
  · exact .refl

theorem ordinary_execLinkStatus : GoesOrdinary s (execLinkStatus o s) := by
  refine .next ?_
  split
  · exact Ordinary.refl.complete ..
  · exact .refl

theorem ordinary_execLineReady (high : Bool) : GoesOrdinary s (execLineReady high s) := by
  refine .next (.ite (fun _ => .refl) fun _ => ?_)
  have hpin := fun f => (Ordinary.refl (s := s)).updLink f
  exact .ite (fun _ => hpin _) fun _ =>
    (hpin _).trans (.lineEvent (.ite (fun _ => Ordinary.refl.updLink _) fun _ => Ordinary.refl.lineReadyLow))

theorem ordinary_execCarrier (high : Bool) : GoesOrdinary s (execCarrier high s) := by
  refine .next (.ite (fun _ => .refl) fun _ => ?_)
  have hpin := fun f => (Ordinary.refl (s := s)).updLink f
  exact .ite (fun _ => hpin _) fun _ => (hpin _).trans (.lineEvent (Ordinary.refl.carrierChange _))

theorem ordinary_execClearToSend (high : Bool) : GoesOrdinary s (execClearToSend high s) := by
  refine .next (.ite (fun _ => .refl) fun _ => ?_)
  have hpin := fun f => (Ordinary.refl (s := s)).updLink f
  exact .ite (fun _ => hpin _) fun _ =>
    (hpin _).trans (.lineEvent (.ite (fun _ => Ordinary.refl.updLink _) fun _ => .refl))

theorem ordinary_execStartTimerExpiry : GoesOrdinary s (execStartTimerExpiry s) :=
  .next (.ite (fun _ => .lineEvent (Ordinary.refl.enterDropping _)) fun _ => .refl)

theorem ordinary_execFadeTimerExpiry : GoesOrdinary s (execFadeTimerExpiry s) :=
  .next (.ite (fun _ => .lineEvent (Ordinary.refl.enterDropping _)) fun _ => .refl)

theorem ordinary_execDropShortExpiry : GoesOrdinary s (execDropShortExpiry s) :=
  .next (.ite (fun _ => .lineEvent (Ordinary.refl.updLink _)) fun _ => .refl)

theorem ordinary_execDropLongExpiry : GoesOrdinary s (execDropLongExpiry s) :=
  .next (.ite (fun _ => .lineEvent (Ordinary.refl.updLink _)) fun _ => .refl)

end
end Sys2Proof.Machine

namespace Sys2Proof

open Machine

/-! ### Every ordinary command -/

/-- The commands whose change need not be ordinary: the resets, the lanes' claims, and those that begin and take the steps of a
TABLE CLEAR. -/
def Instr.special : Instr → Bool
  | .coldReset .. | .warmReset .. | .decisionClaim .. | .commitClaim .. | .withdrawClaim .. | .clearStep | .tableClear .. => true
  | _ => false

/-- Every other command makes an ordinary change. -/
theorem exec_ordinary {i : Instr} (hi : i.special = false) (s : State) : State.GoesOrdinary s (exec i s) := by
  cases i with
  | coldReset | warmReset | decisionClaim | commitClaim | withdrawClaim | clearStep | tableClear => simp [Instr.special] at hi
  | operatingSecondAdvance => exact ordinary_execOperatingSecondAdvance ..
  | rollover => exact ordinary_execRollover ..
  | intervalClose => exact ordinary_execIntervalClose ..
  | clockSet => exact ordinary_execClockSet ..
  | clockRead => exact ordinary_execClockRead ..
  | presence => exact ordinary_execPresence ..
  | presentation => exact ordinary_execPresentation ..
  | discardedReaderMessage => exact ordinary_execDiscardedReaderMessage ..
  | readerSilence => exact ordinary_execReaderSilence ..
  | beamSettle => exact ordinary_execBeamSettle ..
  | beamBreak => exact ordinary_execBeamBreak ..
  | beamRestore => exact ordinary_execBeamRestore ..
  | passageWindowExpiry => exact ordinary_execPassageWindowExpiry ..
  | passingLimitExpiry => exact ordinary_execPassingLimitExpiry ..
  | missWaitExpiry => exact ordinary_execMissWaitExpiry ..
  | toneEnd => exact ordinary_execToneEnd ..
  | lampBlink => exact ordinary_execLampBlink ..
  | lapseTimerExpiry => exact ordinary_execLapseTimerExpiry ..
  | lapseClaim => exact ordinary_execLapseClaim ..
  | sweepStep => exact ordinary_execSweepStep ..
  | passFindStep => exact ordinary_execPassFindStep ..
  | dayMergeEntry => exact ordinary_execDayMergeEntry ..
  | passInsert => exact ordinary_execPassInsert ..
  | passRead => exact ordinary_execPassRead ..
  | passDrop => exact ordinary_execPassDrop ..
  | passFind => exact ordinary_execPassFind ..
  | tableSize => exact ordinary_execTableSize ..
  | dayMerge => exact ordinary_execDayMerge ..
  | revokeLoad => exact ordinary_execRevokeLoad ..
  | revokeRead => exact ordinary_execRevokeRead ..
  | refundHold => exact ordinary_execRefundHold ..
  | refundSettle => exact ordinary_execRefundSettle ..
  | refundRelease => exact ordinary_execRefundRelease ..
  | holdListRead => exact ordinary_execHoldListRead ..
  | usageCollect => exact ordinary_execUsageCollect ..
  | usageConfirm => exact ordinary_execUsageConfirm ..
  | laneOpen => exact ordinary_execLaneOpen ..
  | laneClose => exact ordinary_execLaneClose ..
  | laneReset => exact ordinary_execLaneReset ..
  | laneStatus => exact ordinary_execLaneStatus ..
  | pacingStart => exact ordinary_execPacingStart ..
  | pacingEnd => exact ordinary_execPacingEnd ..
  | tallyEvent => exact ordinary_execTallyEvent ..
  | tallyProgram => exact ordinary_execTallyProgram ..
  | tallyRead => exact ordinary_execTallyRead ..
  | tallyClear => exact ordinary_execTallyClear ..
  | historyRead => exact ordinary_execHistoryRead ..
  | noticePlacement => exact ordinary_execNoticePlacement ..
  | missNoticeRemoval => exact ordinary_execMissNoticeRemoval ..
  | profileSet => exact ordinary_execProfileSet ..
  | profileRead => exact ordinary_execProfileRead ..
  | watchSet => exact ordinary_execWatchSet ..
  | readyCheck => exact ordinary_execReadyCheck ..
  | conditionRead => exact ordinary_execConditionRead ..
  | markWarm => exact ordinary_execMarkWarm ..
  | linkOpen => exact ordinary_execLinkOpen ..
  | linkClose => exact ordinary_execLinkClose ..
  | linkStatus => exact ordinary_execLinkStatus ..
  | request => exact .next (State.Ordinary.refl.writeControl _)
  | requestWindow => exact ordinary_execRequestWindow ..
  | outputWindow => exact ordinary_execOutputWindow ..
  | outputTaken => exact .next (State.Ordinary.refl.writeControl _)
  | abort => exact .next (State.Ordinary.refl.writeControl _)
  | errorClear => exact .next (State.Ordinary.refl.writeControl _)
  | ignoredWrite => exact .next .refl
  | shortTransfer => exact ordinary_execShortTransfer ..
  | badCommandByte => exact ordinary_execBadCommandByte ..
  | lineReady => exact ordinary_execLineReady ..
  | carrier => exact ordinary_execCarrier ..
  | clearToSend => exact ordinary_execClearToSend ..
  | startTimerExpiry => exact ordinary_execStartTimerExpiry ..
  | fadeTimerExpiry => exact ordinary_execFadeTimerExpiry ..
  | dropShortExpiry => exact ordinary_execDropShortExpiry ..
  | dropLongExpiry => exact ordinary_execDropLongExpiry ..
  | lineDropAtLanes => exact ordinary_execLineDropAtLanes ..
  | collectionVoid => exact ordinary_execCollectionVoid ..
  | requestFrame => exact .next (State.Ordinary.refl.receive _)
  | broadcast => exact .next (State.Ordinary.refl.receive _)
  | abortFrame => exact .next (State.Ordinary.refl.receive _)
  | frameDiscarded => exact .next (State.Ordinary.refl.receive _)
  | frameSent => exact .next (State.Ordinary.refl.updLink _)
  | broadcastAbort => exact .next (State.Ordinary.refl.receive _)

end Sys2Proof

/-! ## The commands that are not ordinary

The resets, the lanes' claims and the work of a TABLE CLEAR: what they keep of the table's orders in any state, and of marks,
admissions and a TABLE CLEAR's needs in a sound part. -/

namespace Sys2Proof.Machine

open State (Ordinary)

/-! ### Records that lanes and resets change -/

theorem nextRide_le (n : Nat) : nextRide n ≤ 65535 := by unfold nextRide; split <;> omega

theorem ridesAfter_le (day : Nat) (r : PassRecord) : ridesAfter day r ≤ 65535 := by
  unfold ridesAfter
  split
  · decide
  · split
    · exact nextRide_le _
    · decide

theorem withoutDays_joinDays_joinDays {a b : DaySet} (h : withoutDays a b = 0) (ds : DaySet) :
    withoutDays (joinDays a ds) (joinDays b ds) = 0 := by
  have : withoutDays (joinDays a ds) (joinDays b ds) = withoutDays a b &&& ~~~ds := by
    ext i hi
    simp only [withoutDays, joinDays, BitVec.getElem_and, BitVec.getElem_or, BitVec.getElem_not]
    cases ds[i] <;> simp
  simp [this, h]

theorem PassRecord.Ok.commit {r : PassRecord} (h : r.Ok) (l : LaneNo) (at_ : Stamp) (a : Admission) :
    (r.commit l at_ a).Ok := by
  obtain ⟨hwindow, hlast, -, -, hdays, hzero, hused⟩ := h
  refine ⟨hwindow, hlast, nextRide_le _, ridesAfter_le _ _, hdays, hzero, ?_⟩
  unfold PassRecord.commit
  dsimp only
  split
  · exact withoutDays_joinDays_joinDays hused _
  · exact withoutDays_joinDays hused _

/-! ### Resets -/

theorem Table.initial_indexOk : Table.initial.IndexOk := by simp [Table.initial, IndexOk]

theorem Table.initial_listOk : Table.initial.ListOk := by simp [Table.initial, ListOk]

theorem Table.Keeps.initial (t : Table) : t.Keeps Table.initial where
  records _ := by simp [Table.initial]
  index _ := initial_indexOk
  list _ := initial_listOk

theorem Table.Keeps.warm (t : Table) (u : Settlement) : t.Keeps (t.warm u) :=
  (mapRecords t (f := fun r => r.warm (u.pending r.pass)) (fun _ => rfl) fun _ hr => hr).trans (.of_eq rfl rfl rfl rfl)

/-- A part without riders and without marks keeps them naming each other. -/
theorem State.FlightOk.of_none {s : State} (hmark : ∀ r ∈ s.table.records, r.inFlight = none)
    (hrider : ∀ l, (s.laneAt l).rider = none) : s.FlightOk :=
  State.flightOk_iff.2 ⟨fun r hr l => by simp [hmark r hr, hrider], fun l p d h => by simp [hrider] at h⟩

/-- Every lane after a warm reset is shut and has no rider (R68). -/
theorem Lane.warm_shut (now : Nat) (present paced : Bool) (ln : Lane) :
    (ln.warm now present paced).Shut ∧ (ln.warm now present paced).rider = none := by
  cases present <;> exact ⟨⟨rfl, rfl⟩, rfl⟩

theorem State.laneAt_warm {s t : State} {eight spi : Bool} (h : execWarmReset eight spi s = .next t) (l : LaneNo) :
    t.laneAt l = (s.laneAt l).warm s.now (decide (l.val < 4) || eight) (s.tally.paces l) := by
  injection h with h
  subst h
  simp [State.laneAt, LaneController.warm]

theorem warmReset_flightOk {s t : State} {eight spi : Bool} (h : execWarmReset eight spi s = .next t) : t.FlightOk := by
  refine .of_none (fun r hr => ?_) fun l => by rw [State.laneAt_warm h]; exact (Lane.warm_shut ..).2
  injection h with h
  subst h
  obtain ⟨x, -, rfl⟩ := List.mem_map.1 hr
  rfl

theorem warmReset_clearOk {s t : State} {eight spi : Bool} (h : execWarmReset eight spi s = .next t) (hs : s.ClearOk) :
    t.ClearOk := by
  intro hc
  have hlanes (l : LaneNo) : (t.laneAt l).state = .closed := by rw [State.laneAt_warm h]; exact (Lane.warm_shut ..).1.1
  injection h with h
  subst h
  obtain ⟨hsweep, -, hqueue, -⟩ := hs (by simpa [State.clearing, Table.warm] using hc)
  exact ⟨by simp [Table.warm, hsweep], fun l _ => hlanes l, hqueue, rfl⟩

theorem coldReset_flightOk {s t : State} {eight spi : Bool} (h : execColdReset eight spi s = .next t) : t.FlightOk := by
  injection h with h
  subst h
  refine .of_none (by simp [State.afterColdReset, Table.initial]) fun l => ?_
  simp only [State.afterColdReset, State.laneAt, LaneController.initial, Fin.getElem_fin, Vector.getElem_ofFn]
  split <;> rfl

theorem coldReset_clearOk {s t : State} {eight spi : Bool} (h : execColdReset eight spi s = .next t) : t.ClearOk := by
  injection h with h
  subst h
  exact fun hc => by simp [State.clearing, State.afterColdReset, Table.initial] at hc

/-! ### Decisions -/

/-- An admission is decided only of an ACTIVE record that is not in flight (R73). -/
theorem State.decision_admitted {s : State} {l : LaneNo} {p : Nat} {c : Bool} (h : s.decision l p = .admitted c) :
    ∃ r, s.record p = some r ∧ r.inFlight = none := by
  unfold decision at h
  cases hr : s.record p with
  | none => simp only [hr, decideAbsent] at h; (repeat' split at h) <;> simp at h
  | some r =>
    refine ⟨r, rfl, ?_⟩
    simp only [hr, decideRecord] at h
    cases hm : r.inFlight <;> (repeat' split at h) <;> simp_all

/-- A refusal at a lane that is not shut. -/
theorem State.Ordinary.refusePass {s u : State} (h : Ordinary s u) {l : LaneNo} (hopen : ¬ (u.laneAt l).Shut) (p : Nat)
    (reason : Reason) : Ordinary s (u.refusePass l p reason) := by
  unfold State.refusePass
  dsimp only
  have hhead : Ordinary s (if ((u.record p).map (·.cls)).isSome then u.updTable (Table.toHead p) else u) :=
    .ite (fun hres => h.updTable (.toHead _ _ (Table.find_isSome_iff.1 (by simpa [State.record] using hres)))) fun _ => h
  have hlanes : (if ((u.record p).map (·.cls)).isSome then u.updTable (Table.toHead p) else u).lanes = u.lanes := by
    split <;> rfl
  generalize (if ((u.record p).map (·.cls)).isSome then u.updTable (Table.toHead p) else u) = v at hhead hlanes ⊢
  refine (hhead.handEvents _).runLane l (fun _ _ => by simp) fun hshut => absurd ?_ hopen
  rwa [State.laneAt_congr (s := u) (by simp [hlanes])] at hshut

/-- What a DECISION CLAIM does: an ordinary change, or the admission of a free record by a lane in DECIDING (R70, R78). -/
theorem decisionClaim_cases {s t : State} {l : LaneNo} (h : execDecisionClaim l s = .next t) :
    Ordinary s t ∨ ∃ p r c, (s.laneAt l).state = .deciding ∧ s.lanePresent l = true ∧ s.record p = some r
      ∧ r.inFlight = none ∧ t = (s.serveLane l).admitPass l p c r := by
  injection h with h
  subst h
  split
  · rename_i hturn
    obtain ⟨hturn, hstate⟩ := hturn
    have hpresent : s.lanePresent l = true := by
      rw [State.laneHasTurn, Bool.and_eq_true] at hturn; exact hturn.1
    have hserve : Ordinary s (s.serveLane l) := Ordinary.refl.serveLane l
    have hopen : ¬ (s.laneAt l).Shut := fun hshut => by simp [hshut.1] at hstate
    split
    · rename_i pr _
      cases hd : s.decision l pr.pass with
      | admitted c =>
        obtain ⟨r, hr, hfree⟩ := State.decision_admitted hd
        refine .inr ⟨pr.pass, r, c, hstate, hpresent, hr, hfree, ?_⟩
        simp [State.actOn, hr]
      | refuse reason => exact .inl (hserve.refusePass hopen pr.pass reason)
      | miss =>
        exact .inl (hserve.runLane l (f := fun env run => run.beginMiss env pr.pass) (fun _ _ => rfl)
          fun hshut => absurd hshut hopen)
    · exact .inl .refl
  · exact .inl .refl

/-- A sound part with a present lane that is not CLOSED runs no TABLE CLEAR (R23). -/
theorem State.Sound.clearing_eq_false {s : State} (hs : s.Sound) {l : LaneNo} (hl : s.lanePresent l = true)
    (hopen : (s.laneAt l).state ≠ .closed) : s.clearing = false := by
  cases hc : s.clearing with
  | false => rfl
  | true => exact absurd ((hs.clear hc).2.1 l hl) hopen

theorem State.ClearOk.of_not_clearing {s : State} (h : s.clearing = false) : s.ClearOk := fun hc => by simp [h] at hc

/-! ### Admissions -/

theorem State.admitPass_table (s : State) (l : LaneNo) (p : Nat) (c : Bool) (r : PassRecord) :
    (s.admitPass l p c r).table = (s.table.update p fun r => { r with inFlight := some l }).toHead p := by
  rw [admitPass, (runLane_frame ..).2.1]; rfl

theorem State.admitPass_rider {s : State} {l : LaneNo} (hl : s.lanePresent l = true) (p : Nat) (c : Bool) (r : PassRecord) :
    (fun m => ((s.admitPass l p c r).laneAt m).rider)
      = Function.update (fun m => (s.laneAt m).rider) l (some (p, s.clock.day)) := by
  funext m
  rw [admitPass]
  by_cases hm : m = l
  · subst hm
    rw [runLane_laneAt _ (by exact hl), LaneRun.rider_admitRider, Function.update_self]
  · rw [runLane_other _ hm, Function.update_of_ne hm]
    rfl

theorem admitPass_keeps {s : State} {p : Nat} {r : PassRecord} (hr : s.record p = some r) (l : LaneNo) (c : Bool) :
    s.table.Keeps (s.admitPass l p c r).table := by
  rw [State.admitPass_table]
  refine (Table.Keeps.update s.table p (f := fun r => { r with inFlight := some l }) (fun _ => rfl) fun _ h => h).trans
    (.toHead ?_)
  exact Table.mem_passes_of_find (Table.find_update_same (fun _ => rfl) hr)

/-- An admission marks its record with the lane, which had no rider (R78, R80). -/
theorem admitPass_flightOk {s : State} (hs : s.Sound) {l : LaneNo} {p : Nat} {r : PassRecord}
    (hl : s.lanePresent l = true) (hstate : (s.laneAt l).state = .deciding) (hr : s.record p = some r)
    (hfree : r.inFlight = none) (c : Bool) : ((s.serveLane l).admitPass l p c r).FlightOk := by
  have hrider : (s.laneAt l).rider = none := by
    have hadmission := (hs.lanes l).1
    cases ha : (s.laneAt l).admission <;> simp_all [Lane.rider, LaneState.holdsAdmission]
  rw [State.flightOk_iff, State.admitPass_rider (by exact hl), State.admitPass_table]
  exact (State.flightOk_iff.1 hs.flight).markRider (t := s.table) hr hfree hrider hs.clock.1

/-! ### Ending claims -/

/-- What the table's part of an ending claim does with the record of the admission: it takes its mark away, keeping its pass and
its ranges, and the rest are moves of the table engine (R87, R88, R89). -/
def TakesMark (k : Admission → PassRecord → State → State) : Prop :=
  ∀ a r s, s.record a.pass = some r → (k a r s).lanes = s.lanes
    ∧ (k a r s).port.eightLanes = s.port.eightLanes ∧ ∃ f : PassRecord → PassRecord,
    (∀ r, (f r).pass = r.pass) ∧ (∀ r, r.Ok → (f r).Ok) ∧ (∀ r, (f r).inFlight = none)
      ∧ TableMoves (s.table.update a.pass f) (k a r s).table

theorem State.Ordinary.pendingToHeld {s u : State} (h : Ordinary s u) (p : Nat) : Ordinary s (u.pendingToHeld p) := by
  unfold State.pendingToHeld
  split
  · exact .ite (fun _ => h.reachHeld ..) fun _ => h
  · exact h

theorem takesMark_commitRecord (l : LaneNo) : TakesMark fun a r s => s.commitRecord l a r := by
  intro a r s hr
  refine ⟨by simp, by simp [State.commitRecord], PassRecord.commit l s.stamp a, fun _ => rfl, fun _ h => h.commit .., fun _ => rfl, ?_⟩
  have hhead : TableMove (s.table.update a.pass (PassRecord.commit l s.stamp a))
      ((s.table.update a.pass (PassRecord.commit l s.stamp a)).toHead a.pass) :=
    .toHead _ _ (Table.mem_passes_of_find (Table.find_update_same (fun _ => rfl) hr))
  have hheld := (Ordinary.refl (s := ((s.updRecord a.pass (PassRecord.commit l s.stamp a)).updTable
    (Table.toHead a.pass)).updSettlement fun u => { u with queue := queueAfterCommit a r u.queue })).pendingToHeld a.pass
  dsimp only [State.commitRecord]
  rw [(State.answerPending_frame ..).2.1, State.handEvents_table]
  exact (Relation.ReflTransGen.single hhead).trans hheld.table

theorem takesMark_withdrawRecord (l : LaneNo) : TakesMark fun a r s => s.withdrawRecord l a r := by
  intro a r s hr
  refine ⟨by simp, by simp [State.withdrawRecord], fun r => { r with inFlight := none }, fun _ => rfl, fun _ h => h, fun _ => rfl, ?_⟩
  have hheld := (Ordinary.refl (s := s.updRecord a.pass fun r => { r with inFlight := none })).pendingToHeld a.pass
  dsimp only [State.withdrawRecord]
  rw [(State.answerPending_frame ..).2.1, State.handEvents_table]
  exact hheld.table

/-- The part after the table's part of an ending claim. -/
def State.endPart (l : LaneNo) (k : Admission → PassRecord → State → State) (s : State) : State :=
  match (s.laneAt l).admission with
  | some a => match s.record a.pass with
    | some r => k a r s
    | none => s
  | none => s

theorem State.endingClaim_eq (l : LaneNo) (k : Admission → PassRecord → State → State) (s : State) :
    s.endingClaim l k = ((s.serveLane l).endPart l k).runLane l fun env run => run.endAdmission env := rfl

/-- The table's part of an ending claim: nothing where no resident rider is found, else its record's mark is taken away. -/
theorem endPart_cases {k : Admission → PassRecord → State → State} (hk : TakesMark k) (s : State) (l : LaneNo) :
    (s.endPart l k = s ∧ ∀ p d, (s.laneAt l).rider = some (p, d) → s.record p = none)
      ∨ (s.endPart l k).lanes = s.lanes ∧ (s.endPart l k).port.eightLanes = s.port.eightLanes ∧ ∃ p d, ∃ f : PassRecord → PassRecord, (s.laneAt l).rider = some (p, d)
        ∧ (∀ r, (f r).pass = r.pass) ∧ (∀ r, r.Ok → (f r).Ok) ∧ (∀ r, (f r).inFlight = none)
        ∧ TableMoves (s.table.update p f) (s.endPart l k).table := by
  unfold State.endPart Lane.rider
  cases ha : (s.laneAt l).admission with
  | none => exact .inl ⟨rfl, by simp⟩
  | some a =>
    cases hr : s.record a.pass with
    | none => exact .inl ⟨by simp [hr], by simp [hr]⟩
    | some r =>
      obtain ⟨hlanes, hstrap, f, hpass, hok, hmark, hmoves⟩ := hk a r s hr
      exact .inr ⟨by simpa [hr] using hlanes, by simpa [hr] using hstrap, a.pass, a.day, f, rfl, hpass, hok, hmark, by simpa [hr] using hmoves⟩

theorem endingClaim_keeps {k : Admission → PassRecord → State → State} (hk : TakesMark k) (s : State) (l : LaneNo) :
    s.table.Keeps (s.endingClaim l k).table := by
  rw [State.endingClaim_eq, (State.runLane_frame ..).2.1]
  have hserve : s.table.Keeps (s.serveLane l).table := .of_eq rfl rfl rfl rfl
  rcases endPart_cases hk (s.serveLane l) l with ⟨heq, -⟩ | ⟨-, -, p, d, f, -, hpass, hok, -, hmoves⟩
  · rwa [heq]
  · exact hserve.trans ((Table.Keeps.update _ p hpass hok).trans hmoves.keeps)

/-- An ending claim ends its admission: its record's mark goes, and the lane has no rider (R57, R79, R87, R89). -/
theorem endingClaim_flightOk {k : Admission → PassRecord → State → State} (hk : TakesMark k) {s : State} (hf : s.FlightOk)
    {l : LaneNo} (hl : s.lanePresent l = true) (hrider : (s.laneAt l).rider ≠ none) : (s.endingClaim l k).FlightOk := by
  rw [State.flightOk_iff] at hf
  rcases endPart_cases hk (s.serveLane l) l with ⟨-, hnone⟩ | ⟨hlanes, hstrap, p, d, f, hpd, hpass, -, hmark, hmoves⟩
  · obtain ⟨⟨p, d⟩, hpd⟩ := Option.ne_none_iff_exists'.1 hrider
    have hres := (hf.2 l p d hpd).1
    exact absurd hres (Table.find_eq_none_iff.1 (hnone p d hpd))
  · have hriders : (fun m => ((s.endingClaim l k).laneAt m).rider) = Function.update (fun m => (s.laneAt m).rider) l none := by
      funext m
      rw [State.endingClaim_eq]
      by_cases hm : m = l
      · subst hm
        rw [Function.update_self, State.runLane_laneAt _ ((State.lanePresent_congr hstrap m).trans hl)]
        exact LaneRun.rider_endAdmission ..
      · rw [Function.update_of_ne hm, State.runLane_other _ hm, State.laneAt_congr (congrArg _ hlanes)]
        rfl
    rw [State.flightOk_iff, hriders, State.endingClaim_eq, (State.runLane_frame ..).2.1]
    exact hmoves.carries (hf.release hpass hmark hpd)

end Sys2Proof.Machine

namespace Sys2Proof.Machine

open State (Ordinary)

/-- What a COMMIT CLAIM or WITHDRAW CLAIM does: nothing, or the ending claim of a present lane whose ending is submitted. -/
theorem endingClaims_cases {s t : State} {l : LaneNo} {e : Ending} (he : e ≠ .none)
    {k : Admission → PassRecord → State → State}
    (h : t = if s.laneHasTurn l ∧ (s.laneAt l).ending = e then s.endingClaim l k else s) :
    t = s ∨ s.lanePresent l = true ∧ (s.laneAt l).ending ≠ .none ∧ t = s.endingClaim l k := by
  split at h
  · rename_i hturn
    rw [State.laneHasTurn, Bool.and_eq_true] at hturn
    exact .inr ⟨hturn.1.1, hturn.2 ▸ he, h⟩
  · exact .inl h

/-- What a lane whose ending is submitted holds (R57, R80). -/
theorem Lane.Ok.of_ending {ln : Lane} (h : ln.Ok) (he : ln.ending ≠ .none) : ln.rider ≠ none ∧ ln.state ≠ .closed := by
  obtain ⟨hadmission, -, -, hending, -⟩ := h
  have hholds := (hending he).1
  have hsome := hadmission.2 hholds
  refine ⟨?_, fun hc => by simp [hc, LaneState.holdsAdmission] at hholds⟩
  cases ha : ln.admission <;> simp_all [Lane.rider]

/-- An ending claim runs only where no TABLE CLEAR does, and begins none. -/
theorem endingClaim_clearing {k : Admission → PassRecord → State → State} (hk : TakesMark k) {s : State} {l : LaneNo}
    (hc : s.clearing = false) : (s.endingClaim l k).clearing = false := by
  have hclear : (s.endingClaim l k).table.clear.isSome = true → s.table.clear.isSome = true := by
    rw [State.endingClaim_eq, (State.runLane_frame ..).2.1]
    rcases endPart_cases hk (s.serveLane l) l with ⟨heq, -⟩ | ⟨-, -, p, d, f, -, -, -, -, hmoves⟩
    · rw [heq]; exact id
    · exact fun h => (hmoves.clearing h).1
  simp only [State.clearing] at hc ⊢
  cases h : (s.endingClaim l k).table.clear <;> simp_all

/-! ### The work of a TABLE CLEAR -/

/-- What a CLEAR STEP does: an ordinary change, or it removes the lowest record while a clear runs (R24). -/
theorem clearStep_cases {s t : State} (h : execClearStep s = .next t) :
    Ordinary s t ∨ ∃ c r, s.table.clear = some c ∧ r ∈ s.table.records ∧ t = s.clearRecord c r.pass := by
  injection h with h
  subst h
  split
  · exact .inl .refl
  · rename_i c hclear
    split
    · split
      · rename_i r rest hrecords
        exact .inr ⟨c, r, hclear, by simp [hrecords], rfl⟩
      · have hended : Ordinary s (s.updTable fun t => { t with clear := none }) := Ordinary.refl.updTable (.unclear _)
        exact .inl (.ite (fun _ => hended) fun _ => hended.complete ..)
    · exact .inl .refl

theorem clearRecord_keeps (s : State) (c : Clear) (p : Nat) : s.table.Keeps (s.clearRecord c p).table :=
  (Table.Keeps.remove s.table p).trans (.of_eq rfl rfl rfl rfl)

/-- While a TABLE CLEAR runs in a sound part, no lane has a rider: the present ones are CLOSED, the absent ones empty (R23, R43). -/
theorem State.Sound.no_rider {s : State} (hs : s.Sound) (hc : s.clearing = true) (l : LaneNo) : (s.laneAt l).rider = none := by
  cases hl : s.lanePresent l with
  | true =>
    have hadmission := (hs.lanes l).1
    rw [(hs.clear hc).2.1 l hl] at hadmission
    cases ha : (s.laneAt l).admission <;> simp_all [Lane.rider, LaneState.holdsAdmission]
  | false =>
    have := congrArg Lane.rider (hs.absent l hl)
    exact this

/-- In a sound part the step of a TABLE CLEAR removes a record that is not in flight: an ordinary change (R24). -/
theorem State.Sound.ordinary_clearRecord {s : State} (hs : s.Sound) {c : Clear} (hc : s.table.clear = some c)
    {r : PassRecord} (hr : r ∈ s.table.records) : Ordinary s (s.clearRecord c r.pass) := by
  have hclearing : s.clearing = true := by simp [State.clearing, hc]
  obtain ⟨x, hx⟩ := Option.isSome_iff_exists.1 (Table.find_isSome_iff.2 (Table.mem_passes.2 ⟨r, hr, rfl⟩))
  have hfree : x.inFlight = none := by
    refine Option.eq_none_iff_forall_ne_some.2 fun l hl => ?_
    have hcarries := State.flightOk_iff.1 hs.flight
    simpa [hs.no_rider hclearing] using (hcarries.1 x (Table.find_mem hx) l).1 hl
  have hremoved : Ordinary s (s.updTable (Table.remove r.pass)) := Ordinary.refl.updTable (.remove _ x _ hx hfree)
  have hcounted := hremoved.updTable (f := fun t => { t with clear := some { c with removed := c.removed + 1 } })
    (.clearOn _ _ (by simp [Table.remove, hc]))
  exact hcounted.updHolds rfl rfl

/-- What a TABLE CLEAR does: an ordinary change, or it begins, all its conditions met (R23). -/
theorem tableClear_cases {s t : State} {o : Origin} (h : execTableClear o s = .next t) :
    Ordinary s t ∨ s.table.sweep.running = false ∧ (∀ l, s.lanePresent l = true → (s.laneAt l).state = .closed)
      ∧ s.settlement.queue = [] ∧ s.settlement.collection = none
      ∧ t = ((s.serve o).updTable fun t => { t with clear := some { removed := 0, orphan := false } }).setStage o .clearing := by
  injection h with h
  subst h
  have hserve : Ordinary s (s.serve o) := Ordinary.refl.serve o
  have hsweep : (s.serve o).table.sweep = s.table.sweep := by cases o <;> rfl
  have hlane (l : LaneNo) : (s.serve o).laneAt l = s.laneAt l := by cases o <;> rfl
  split
  · unfold State.tableClaim
    split
    · dsimp only
      split
      · exact .inl (hserve.busy o)
      · rename_i hidle
        split
        · exact .inl (hserve.fail ..)
        · rename_i hclosed
          split
          · exact .inl (hserve.fail ..)
          · rename_i hqueue
            split
            · exact .inl (hserve.fail ..)
            · split
              · exact .inl (hserve.fail ..)
              · rename_i hcoll
                simp only [hlane, List.any_eq_true, State.presentLanes, List.mem_filter] at hclosed
                refine .inr ⟨by simpa [hsweep] using hidle, fun l hl => ?_, by simpa using hqueue, by simpa using hcoll, rfl⟩
                by_contra hopen
                exact hclosed ⟨l, ⟨List.mem_finRange l, hl⟩, by simpa using hopen⟩
    · exact .inl .refl
  · exact .inl .refl

/-- A TABLE CLEAR that begins finds what it needs (R23). -/
theorem tableClear_begun {s : State} (o : Origin) (hsweep : s.table.sweep.running = false)
    (hclosed : ∀ l, s.lanePresent l = true → (s.laneAt l).state = .closed) (hqueue : s.settlement.queue = [])
    (hcoll : s.settlement.collection = none) (c : Clear) :
    (((s.serve o).updTable fun t => { t with clear := some c }).setStage o .clearing).ClearOk
      ∧ (s.FlightOk → (((s.serve o).updTable fun t => { t with clear := some c }).setStage o .clearing).FlightOk) := by
  cases o <;> exact ⟨fun _ => ⟨hsweep, hclosed, hqueue, hcoll⟩, id⟩

/-! ### Every command -/

/-- Every command keeps the records' ranges, both orders of the table and the revocation list. -/
theorem exec_keeps {i : Instr} {s t : State} (h : exec i s = .next t) : s.table.Keeps t.table := by
  have hordinary (hi : i.special = false) : s.table.Keeps t.table := by
    obtain ⟨u, hu, hord⟩ := exec_ordinary hi s
    rw [hu] at h
    injection h with h
    exact h ▸ hord.table.keeps
  cases i with
  | coldReset eight spi =>
    injection h with h
    exact h ▸ .initial _
  | warmReset eight spi =>
    injection h with h
    exact h ▸ .warm _ _
  | decisionClaim l =>
    rcases decisionClaim_cases h with hord | ⟨p, r, c, -, -, hr, -, rfl⟩
    · exact hord.table.keeps
    · have hserve : s.table.Keeps (s.serveLane l).table := .of_eq rfl rfl rfl rfl
      exact hserve.trans (admitPass_keeps (s := s.serveLane l) hr l c)
  | commitClaim l =>
    injection h with h
    rcases endingClaims_cases (e := .commit) (by decide) h.symm with rfl | ⟨-, -, rfl⟩
    · exact .refl _
    · exact endingClaim_keeps (takesMark_commitRecord l) s l
  | withdrawClaim l =>
    injection h with h
    rcases endingClaims_cases (e := .withdraw) (by decide) h.symm with rfl | ⟨-, -, rfl⟩
    · exact .refl _
    · exact endingClaim_keeps (takesMark_withdrawRecord l) s l
  | clearStep =>
    rcases clearStep_cases h with hord | ⟨c, r, -, -, rfl⟩
    · exact hord.table.keeps
    · exact clearRecord_keeps s c r.pass
  | tableClear o =>
    rcases tableClear_cases h with hord | ⟨-, -, -, -, rfl⟩
    · exact hord.table.keeps
    · cases o <;> exact .of_eq rfl rfl rfl rfl
  | _ => exact hordinary rfl

/-- An ending claim of a sound part keeps marks and admissions, and finds no TABLE CLEAR running. -/
theorem endingClaims_keep {s t : State} (hs : s.Sound) {l : LaneNo} {k : Admission → PassRecord → State → State}
    (hk : TakesMark k)
    (h : t = s ∨ s.lanePresent l = true ∧ (s.laneAt l).ending ≠ .none ∧ t = s.endingClaim l k) : t.FlightOk ∧ t.ClearOk := by
  rcases h with rfl | ⟨hl, he, rfl⟩
  · exact ⟨hs.flight, hs.clear⟩
  · obtain ⟨hrider, hopen⟩ := (hs.lanes l).of_ending he
    exact ⟨endingClaim_flightOk hk hs.flight hl hrider,
      .of_not_clearing (endingClaim_clearing hk (hs.clearing_eq_false hl hopen))⟩

/-- Every command of a sound part keeps marks and admissions naming each other, and what a TABLE CLEAR needs. -/
theorem exec_flightOk_clearOk {i : Instr} {s t : State} (hs : s.Sound) (h : exec i s = .next t) : t.FlightOk ∧ t.ClearOk := by
  have hordinary (hord : Ordinary s t) : t.FlightOk ∧ t.ClearOk := ⟨hord.flightOk hs.flight, hord.clearOk hs⟩
  have hspecial (hi : i.special = false) : t.FlightOk ∧ t.ClearOk := by
    obtain ⟨u, hu, hord⟩ := exec_ordinary hi s
    rw [hu] at h
    injection h with h
    exact hordinary (h ▸ hord)
  cases i with
  | coldReset eight spi => exact ⟨coldReset_flightOk h, coldReset_clearOk h⟩
  | warmReset eight spi => exact ⟨warmReset_flightOk h, warmReset_clearOk h hs.clear⟩
  | decisionClaim l =>
    rcases decisionClaim_cases h with hord | ⟨p, r, c, hstate, hl, hr, hfree, rfl⟩
    · exact hordinary hord
    · refine ⟨admitPass_flightOk hs hl hstate hr hfree c, .of_not_clearing ?_⟩
      rw [State.clearing, State.admitPass_table]
      exact hs.clearing_eq_false hl (by simp [hstate])
  | commitClaim l =>
    injection h with h
    exact endingClaims_keep hs (takesMark_commitRecord l) (endingClaims_cases (e := .commit) (by decide) h.symm)
  | withdrawClaim l =>
    injection h with h
    exact endingClaims_keep hs (takesMark_withdrawRecord l) (endingClaims_cases (e := .withdraw) (by decide) h.symm)
  | clearStep =>
    rcases clearStep_cases h with hord | ⟨c, r, hc, hr, rfl⟩
    · exact hordinary hord
    · exact hordinary (hs.ordinary_clearRecord hc hr)
  | tableClear o =>
    rcases tableClear_cases h with hord | ⟨hsweep, hclosed, hqueue, hcoll, rfl⟩
    · exact hordinary hord
    · obtain ⟨hclear, hflight⟩ := tableClear_begun o hsweep hclosed hqueue hcoll { removed := 0, orphan := false }
      exact ⟨hflight hs.flight, hclear⟩
  | _ => exact hspecial rfl

/-! ### Every step -/

/-- Soundness does not speak of the queue of commands. -/
theorem State.Sound.pending {s : State} (h : s.Sound) (rest : List Instr) : ({ s with pending := rest } : State).Sound where
  clock := h.clock
  records := h.records
  index := h.index
  list := h.list
  lanes := h.lanes
  absent := h.absent
  clear := h.clear
  flight := h.flight
  queue := h.queue
  holds := h.holds
  collection := h.collection
  tally := h.tally
  notices := h.notices
  port := h.port
  officeAnswers := h.officeAnswers
  link := h.link

theorem step_keeps {s t : State} (h : step s = .next t) : s.table.Keeps t.table := by
  unfold step at h
  split at h
  · injection h with h
    exact h ▸ (Ordinary.tick s).table.keeps
  · rename_i rest _
    exact exec_keeps (s := { s with pending := rest }) h

theorem step_flightOk_clearOk {s t : State} (hs : s.Sound) (h : step s = .next t) : t.FlightOk ∧ t.ClearOk := by
  unfold step at h
  split at h
  · injection h with h
    have hord : Ordinary s t := h ▸ Ordinary.tick s
    exact ⟨hord.flightOk hs.flight, hord.clearOk hs⟩
  · rename_i rest _
    exact exec_flightOk_clearOk (hs.pending rest) h

end Sys2Proof.Machine

namespace Sys2Proof

open Machine

/-- Settles O52: every step is a run of operations of the table that each keep its ranges, its two orders and its list. -/
theorem theTableStaysOrdered : Obligations.TheTableStaysOrdered := by
  intro s t h
  have hkeeps := step_keeps h
  exact ⟨hkeeps.records, hkeeps.index, hkeeps.list⟩

/-- Settles O57: a step is ordinary and keeps riders and marks, or it is one of the few that marks, releases, resets or clears. -/
theorem admissionsMatchTheirRecords : Obligations.AdmissionsMatchTheirRecords := by
  intro s t hs h
  exact step_flightOk_clearOk hs h

end Sys2Proof

/-! ## The resets -/

namespace Sys2Proof

open Machine

/-- No lane's machine waits for a claim after a cold reset (R67). -/
theorem Machine.State.laneWaits_afterColdReset (eight spi ready carrier clear : Bool) (pending : List Instr) (l : LaneNo) :
    (State.afterColdReset eight spi ready carrier clear pending).laneWaits l = false := by
  have hlane : ((State.afterColdReset eight spi ready carrier clear pending).laneAt l).state = .closed
      ∧ ((State.afterColdReset eight spi ready carrier clear pending).laneAt l).ending = .none := by
    simp only [State.afterColdReset, State.laneAt, LaneController.initial, Fin.getElem_fin, Vector.getElem_ofFn]
    split <;> exact ⟨rfl, rfl⟩
  simp [State.laneWaits, hlane]

/-- Settles O5. -/
theorem coldResetEmptiesTableAndHolds : Obligations.ColdResetEmptiesTableAndHolds := by
  intro eight spi s
  refine ⟨_, rfl, rfl, rfl, rfl, rfl, rfl, fun l => State.laneWaits_afterColdReset .., fun o => ?_, rfl, rfl, rfl, rfl, rfl,
    fun o => ?_, fun r hr => ?_⟩
  · cases o <;> rfl
  · cases o <;> rfl
  · simp [State.afterColdReset, Table.initial] at hr

namespace Machine

theorem Clock.initial_ok : Clock.initial.Ok := by
  simp [Clock.Ok, Clock.initial]

theorem Lane.initial_ok (now : Nat) (pause : Bool) : (Lane.initial now pause).Ok := by
  simp [Lane.Ok, Lane.initial, LaneState.holdsAdmission]

theorem Lane.absent_ok : Lane.absent.Ok := Lane.initial_ok 0 false

theorem Counter.disabled_ok : (Counter.zeroed .disabled).Ok := by
  simp [Counter.Ok, Counter.zeroed, Program.disabled, Counter.enabled]

theorem Tally.initial_ok : Tally.initial.Ok := by
  refine ⟨fun c hc => ?_, by simp [Tally.initial], by simp [Tally.initial], by simp [Tally.initial], by simp [Tally.initial]⟩
  have : c = Counter.zeroed .disabled := by simpa [Tally.initial] using hc
  exact this ▸ Counter.disabled_ok

theorem Link.initial_ok (ready carrier clear : Bool) : (Link.initial ready carrier clear).Ok := by
  simp [Link.Ok, Link.initial]

end Machine

/-- Settles O50. -/
theorem resetIsSound : Obligations.ResetIsSound := by
  intro eight spi ready carrier clear pending
  have hlane (l : LaneNo) : (State.afterColdReset eight spi ready carrier clear pending).laneAt l
      = if l.val < 4 ∨ eight then Lane.initial 0 false else Lane.absent := by
    simp [State.afterColdReset, State.laneAt, LaneController.initial]
  exact
    { clock := Clock.initial_ok
      records := by simp [State.RecordsOk, State.afterColdReset, Table.initial]
      index := Table.initial_indexOk
      list := Table.initial_listOk
      lanes := fun l => by rw [hlane]; split; exacts [Lane.initial_ok .., Lane.absent_ok]
      absent := fun l hl => by
        have hpresent : ¬ (l.val < 4 ∨ eight = true) := by
          simpa [State.lanePresent, State.afterColdReset, Port.initial] using hl
        rw [hlane, if_neg hpresent]
        rfl
      clear := coldReset_clearOk (s := State.afterColdReset eight spi ready carrier clear pending) rfl
      flight := coldReset_flightOk (s := State.afterColdReset eight spi ready carrier clear pending) rfl
      queue := by simp [State.QueueOk, State.afterColdReset, Settlement.initial, Table.initial]
      holds := by
        refine ⟨Nat.zero_le _, List.Pairwise.nil, List.nodup_nil, nofun, nofun, nofun, fun o p h => ?_⟩
        cases o <;> simp [State.stage, State.context, Decoder.context, State.afterColdReset, Decoder.initial,
          Context.initial] at h
      collection := ⟨Nat.zero_le _, nofun⟩
      tally := Tally.initial_ok
      notices := ⟨List.Pairwise.nil, List.Pairwise.nil⟩
      port := ⟨Nat.zero_le _, fun _ => ⟨rfl, rfl⟩, nofun, nofun, le_refl 16, show 16 ≤ 1040 by decide⟩
      officeAnswers := by
        simp [State.OfficeAnswersOk, State.afterColdReset, Link.initial, Decoder.initial, Context.initial, flagCode]
      link := Link.initial_ok .. }

/-! ### The warm reset -/

/-- Every block of the part after a warm reset. -/
theorem Machine.warmReset_blocks {s t : State} {eight spi : Bool} (h : execWarmReset eight spi s = .next t) :
    t.clock = s.clock ∧ t.tally = s.tally ∧ t.table = s.table.warm s.settlement ∧ t.settlement = s.settlement.warm
      ∧ t.lanes = s.lanes.warm s.now eight s.tally ∧ t.decoder = s.decoder.warm ∧ t.port = .initial eight spi
      ∧ t.link = s.link.warm := by
  injection h with h
  subst h
  exact ⟨rfl, rfl, rfl, rfl, rfl, rfl, rfl, rfl⟩

/-- A present lane after a warm reset (R68). -/
theorem Machine.warmReset_lane {s t : State} {eight spi : Bool} (h : execWarmReset eight spi s = .next t) {l : LaneNo}
    (hl : t.lanePresent l = true) :
    t.laneAt l = { Lane.initial s.now (s.tally.paces l) with readerOut := (s.laneAt l).readerOut } := by
  obtain ⟨-, -, -, -, -, -, hport, -⟩ := warmReset_blocks h
  have hpresent : (decide (l.val < 4) || eight) = true := by simpa [State.lanePresent, hport, Port.initial] using hl
  rw [State.laneAt_warm h, hpresent]
  rfl

/-- Settles O7. -/
theorem warmResetKeepsAndEnds : Obligations.WarmResetKeepsAndEnds := by
  intro eight spi s
  obtain ⟨t, h⟩ : ∃ t, execWarmReset eight spi s = .next t := ⟨_, rfl⟩
  obtain ⟨hclock, htally, htable, hsettle, hlanes, hdecoder, hport, hlink⟩ := warmReset_blocks h
  have hlamps (l : LaneNo) : t.lampsAt l = { red := t.lanePresent l, amber := false, green := false } := by
    unfold State.lampsAt
    split
    · rename_i hl
      rw [warmReset_lane h hl, hl]
      rfl
    · rename_i hl
      simp [hl]
  have hcontext (o : Origin) : t.context o = (s.context o).warm := by
    cases o <;> simp [State.context, Decoder.context, hdecoder, Decoder.warm]
  refine ⟨t, h, hclock, htally, ?_⟩
  simp only [htable, hsettle, hport, hlanes, hdecoder, hlink, hclock, htally, hcontext]
  have hwarm : ∀ o, (s.context o).warm.inFlight = none ∧ (s.context o).warm.condition = none
      ∧ (s.context o).warm.watch = (s.context o).watch := fun _ => ⟨rfl, rfl, rfl⟩
  refine ⟨rfl, rfl, rfl, rfl, fun h => ?_, fun h => ?_, rfl, rfl, rfl, rfl, rfl, rfl, rfl, rfl, rfl, rfl, rfl,
    fun l hl => ?_, hlamps, rfl, rfl, rfl, rfl, hwarm, ?_⟩
  · simp [Table.warm, h]
  · simp [Table.warm, h, Sweep.started]
  · rw [warmReset_lane h hl]
    exact ⟨rfl, rfl, rfl, rfl, rfl, rfl, rfl, rfl, rfl, rfl, rfl, rfl, rfl, rfl, rfl, rfl, rfl, rfl, rfl⟩

  · simp [Port.initial, Port.interruptHigh, LaneController.warm, Settlement.warm, Decoder.warm, Link.warm]

end Sys2Proof

/-! ## Requests at their turn

What serving an origin leaves, and what each request does once its owner takes it. -/

namespace Sys2Proof

open Machine Claims

namespace Machine.State

variable (s : State) (o : Origin)

theorem serve_eq : s.serve o = { s with table := served o s.table } := by cases o <;> rfl

@[simp] theorem serve_records : (s.serve o).table.records = s.table.records := by cases o <;> rfl
@[simp] theorem serve_recency : (s.serve o).table.recency = s.table.recency := by cases o <;> rfl
@[simp] theorem serve_revoked : (s.serve o).table.revoked = s.table.revoked := by cases o <;> rfl
@[simp] theorem serve_generation : (s.serve o).table.generation = s.table.generation := by cases o <;> rfl
@[simp] theorem serve_sweep : (s.serve o).table.sweep = s.table.sweep := by cases o <;> rfl
@[simp] theorem serve_lanePresent (l : LaneNo) : (s.serve o).lanePresent l = s.lanePresent l := by cases o <;> rfl
@[simp] theorem serve_presentLanes : (s.serve o).presentLanes = s.presentLanes := by cases o <;> rfl
@[simp] theorem serve_laneAt (l : LaneNo) : (s.serve o).laneAt l = s.laneAt l := by cases o <;> rfl
@[simp] theorem serve_evictable : (s.serve o).evictable = s.evictable := by cases o <;> rfl
@[simp] theorem serve_evictee : (s.serve o).evictee = s.evictee := by cases o <;> rfl
@[simp] theorem serve_holder (p : Nat) : (s.serve o).holder p = s.holder p := by cases o <;> rfl
@[simp] theorem serve_missLane (p : Nat) : (s.serve o).missLane p = s.missLane p := by cases o <;> rfl
@[simp] theorem serve_listed (p : Nat) : (s.serve o).table.listed p = s.table.listed p := by cases o <;> rfl

variable {s o}

/-- A table request of one claim at its turn (R11, R12). -/
theorem tableClaim_of_turn (h : s.hasTurn o = true) (k : State → State) : s.tableClaim o k = k (s.serve o) := by
  simp [tableClaim, h]

/-- A table request of one claim without the turn (R12). -/
theorem tableClaim_waits (h : s.hasTurn o = false) (k : State → State) : s.tableClaim o k = s := by
  simp [tableClaim, h]

/-- The start of a table request of several claims at its turn. -/
theorem tableBegin_of_turn (h : s.hasTurn o = true) (k : State → State) : s.tableBegin o k = k s := by
  simp [tableBegin, h]

/-- The start of a table request of several claims without the turn. -/
theorem tableBegin_waits (h : s.hasTurn o = false) (k : State → State) : s.tableBegin o k = s := by
  simp [tableBegin, h]

end Machine.State

open State

/-! ### Requests that only read -/

/-- Settles O12. -/
theorem readRequestsAnswer : Obligations.ReadRequestsAnswer := by
  intro o s
  refine ⟨fun h => ?_, fun mask h hmask => ?_, fun mask h hmask => ?_, fun h => ?_, fun h => ?_, fun h => ?_, fun h => ?_,
    fun p r ⟨h, hturn⟩ hp hr => ?_, fun ⟨h, hturn⟩ => ?_, fun h => ?_, fun start count ⟨h, hturn⟩ => ⟨fun hs => ?_, fun hs hc => ?_⟩,
    fun start count ⟨h, hturn⟩ hs hc => ?_⟩
  · simp only [exec, execClockRead, h]
  · simp [exec, execLaneStatus, h, hmask]
  · simp only [exec, execTallyRead, h, if_neg hmask]
  · simp only [exec, execHoldListRead, h]
  · simp only [exec, execLinkStatus, h]
  · simp only [exec, execReadyCheck, h]
  · simp only [exec, execProfileRead, h]
  · simp [exec, execPassRead, h, tableClaim_of_turn hturn, hp, hr]
  · simp [exec, execTableSize, h, tableClaim_of_turn hturn]
  · simp [exec, execTallyRead, h]
  · simp [exec, execRevokeRead, h, tableClaim_of_turn hturn, hs]
  · simp [exec, execRevokeRead, h, tableClaim_of_turn hturn, Nat.not_lt.2 hs, hc]
  · simp [exec, execRevokeRead, h, tableClaim_of_turn hturn, Nat.not_lt.2 hs, Nat.not_lt.2 hc]

/-! ### Requests that wait, or fail their checks -/

theorem badPass_iff {p : Nat} : badPass p = true ↔ p = 0 ∨ 4294967294 < p := by simp [badPass]

theorem classOfCode_eq_none_iff {n : Nat} : classOfCode n = none ↔ 3 < n := by
  unfold classOfCode; split <;> simp_all; omega

theorem kindOfCode_eq_none_iff {n : Nat} : kindOfCode n = none ↔ 1 < n := by
  unfold kindOfCode; split <;> simp_all; omega

theorem kindOfCode_eq_days_iff {n : Nat} : kindOfCode n = some .days ↔ n = 0 := by
  unfold kindOfCode; split <;> simp_all

/-- The argument checks of PASS INSERT, in their order (R14). -/
theorem checkInsert_eq (a : InsertArgs) : checkInsert a =
    if a.pass = 0 ∨ 4294967294 < a.pass then some 4
    else if 3 < a.cls then some 8
    else if 1 < a.kind then some 9
    else if a.kind = 0 ∧ (a.entitled < 1 ∨ 30 < a.entitled) then some 10
    else if 239 < a.first then some 11
    else if 239 < a.last then some 12
    else if a.last < a.first then some 11
    else none := by
  simp only [checkInsert, badPass_iff, classOfCode_eq_none_iff, kindOfCode_eq_none_iff, kindOfCode_eq_days_iff]

/-- TABLE CLEAR at its turn: BUSY while a sweep runs, FAILED by the first of its conditions that does not hold, else begun (R23). -/
theorem execTableClear_at_turn {o : Origin} {s : State} (h : HasClaim o .tableClear s) :
    (s.table.sweep.running = true → exec (.tableClear o) s = .next ((s.serve o).busy o))
    ∧ (s.table.sweep.running = false →
      ((∃ l, s.lanePresent l = true ∧ (s.laneAt l).state ≠ .closed) →
        exec (.tableClear o) s = .next ((s.serve o).fail o .notReady none none))
      ∧ ((∀ l, s.lanePresent l = true → (s.laneAt l).state = .closed) →
        (s.settlement.queue ≠ [] → exec (.tableClear o) s = .next ((s.serve o).fail o .unreported none none))
        ∧ (s.settlement.queue = [] → s.settlement.holds ≠ [] →
            exec (.tableClear o) s = .next ((s.serve o).fail o .heldByOther none none))
        ∧ (s.settlement.queue = [] → s.settlement.holds = [] → s.settlement.collection.isSome = true →
            exec (.tableClear o) s = .next ((s.serve o).fail o .collectionOpen none none))
        ∧ (s.settlement.queue = [] → s.settlement.holds = [] → s.settlement.collection = none →
            exec (.tableClear o) s = .next (((s.serve o).updTable fun t =>
              { t with clear := some { removed := 0, orphan := false } }).setStage o .clearing)))) := by
  obtain ⟨hwaits, hturn⟩ := h
  have hclosed (hc : ∀ l, s.lanePresent l = true → (s.laneAt l).state = .closed) :
      ∀ l ∈ s.presentLanes, (s.laneAt l).state = .closed := by
    simpa [presentLanes] using hc
  refine ⟨fun hrun => ?_, fun hidle => ⟨fun hopen => ?_, fun hc => ⟨fun hq => ?_, fun hq hh => ?_, fun hq hh hcoll => ?_,
    fun hq hh hcoll => ?_⟩⟩⟩
  · simp [exec, execTableClear, hwaits, tableClaim_of_turn hturn, hrun]
  · simp [exec, execTableClear, hwaits, tableClaim_of_turn hturn, hidle]
    obtain ⟨l, hl, hne⟩ := hopen
    exact fun hc => absurd (hc l (by simp [presentLanes, hl])) hne
  · simp +contextual [exec, execTableClear, hwaits, tableClaim_of_turn hturn, hidle, hclosed hc, hq]
  · simp +contextual [exec, execTableClear, hwaits, tableClaim_of_turn hturn, hidle, hclosed hc, hq, hh]
  · simp +contextual [exec, execTableClear, hwaits, tableClaim_of_turn hturn, hidle, hclosed hc, hq, hh, hcoll]
  · simp +contextual [exec, execTableClear, hwaits, tableClaim_of_turn hturn, hidle, hclosed hc, hq, hh, hcoll]

/-- A table request of whatever kind without the turn waits (R12). -/
theorem tableRequest_waits {o : Origin} {s : State} (hturn : s.hasTurn o = false) {r : Request} (h : s.waitingRequest o = some r)
    {i : Instr} (hi : (r, i) ∈ ([(.tableSize, .tableSize o), (.tableClear, .tableClear o)] : List (Request × Instr))
      ∨ (∃ a, r = .passInsert a ∧ i = .passInsert o) ∨ (∃ p, r = .passRead p ∧ i = .passRead o)
      ∨ (∃ p, r = .passDrop p ∧ i = .passDrop o) ∨ (∃ a, r = .passFind a ∧ i = .passFind o)
      ∨ (∃ n es, r = .dayMerge n es ∧ i = .dayMerge o) ∨ (∃ a, r = .revokeLoad a ∧ i = .revokeLoad (.own o))
      ∨ (∃ st n, r = .revokeRead st n ∧ i = .revokeRead o) ∨ (∃ p, r = .refundHold p ∧ i = .refundHold o)
      ∨ (∃ p n, r = .refundSettle p n ∧ i = .refundSettle o) ∨ (∃ p, r = .refundRelease p ∧ i = .refundRelease o)
      ∨ (∃ n, r = .usageCollect n ∧ i = .usageCollect o) ∨ (∃ n d, r = .usageConfirm n d ∧ i = .usageConfirm o)) :
    exec i s = .next s := by
  rcases hi with hi | ⟨a, rfl, rfl⟩ | ⟨p, rfl, rfl⟩ | ⟨p, rfl, rfl⟩ | ⟨a, rfl, rfl⟩ | ⟨n, es, rfl, rfl⟩ | ⟨a, rfl, rfl⟩
    | ⟨st, n, rfl, rfl⟩ | ⟨p, rfl, rfl⟩ | ⟨p, n, rfl, rfl⟩ | ⟨p, rfl, rfl⟩ | ⟨n, rfl, rfl⟩ | ⟨n, d, rfl, rfl⟩
  · simp only [List.mem_cons, Prod.mk.injEq, List.not_mem_nil, or_false] at hi
    rcases hi with ⟨rfl, rfl⟩ | ⟨rfl, rfl⟩
    · simp only [exec, execTableSize, h, tableClaim_waits hturn]
    · simp only [exec, execTableClear, h, tableClaim_waits hturn]
  · simp only [exec, execPassInsert, h, tableClaim_waits hturn]
  · simp only [exec, execPassRead, h, tableClaim_waits hturn]
  · simp only [exec, execPassDrop, h, tableClaim_waits hturn]
  · simp only [exec, execPassFind, h, tableBegin_waits hturn]
  · simp only [exec, execDayMerge, h, tableBegin_waits hturn]
  · simp only [exec, execRevokeLoad, h, tableClaim_waits hturn]
  · simp only [exec, execRevokeRead, h, tableClaim_waits hturn]
  · simp only [exec, execRefundHold, h, tableClaim_waits hturn]
  · simp only [exec, execRefundSettle, h, tableClaim_waits hturn]
  · simp only [exec, execRefundRelease, h, tableClaim_waits hturn]
  · simp only [exec, execUsageCollect, h, tableClaim_waits hturn]
  · simp only [exec, execUsageConfirm, h, tableClaim_waits hturn]

/-- Settles O30. -/
theorem tableRequestsWaitFailOrBeginAClear : Obligations.TableRequestsWaitFailOrBeginAClear := by
  refine ⟨fun o s h => ?_, checkInsert_eq, fun a => rfl, fun o s => ⟨?_, ?_, ?_, ?_, ?_, ?_, ?_, ?_,
    fun hturn r h i => tableRequest_waits hturn h⟩⟩
  · obtain ⟨hbusy, hidle⟩ := execTableClear_at_turn h
    refine ⟨hbusy, fun hrun => ⟨(hidle hrun).1, fun hc => ?_⟩⟩
    obtain ⟨hqueue, hholds, hcoll, hbegin⟩ := (hidle hrun).2 hc
    exact ⟨hqueue, hholds, hcoll, fun hq hh hn => ⟨_, hbegin hq hh hn, rfl⟩⟩
  · rintro a off ⟨h, hturn⟩ hoff
    simp [exec, execPassInsert, h, tableClaim_of_turn hturn, hoff]
  · rintro p ⟨h, hturn⟩ hbad
    simp [exec, execPassDrop, h, tableClaim_of_turn hturn, hbad]
  · rintro p ⟨h, hturn⟩ hbad hnone
    simp [exec, execPassDrop, h, tableClaim_of_turn hturn, hbad, hnone]
  · rintro p ⟨h, hturn⟩
    refine ⟨fun hbad => ?_, fun hbad hnone => ?_⟩
    · simp [exec, execPassRead, h, tableClaim_of_turn hturn, hbad]
    · simp [exec, execPassRead, h, tableClaim_of_turn hturn, hbad, hnone]
  · rintro a off ⟨h, hturn⟩ hoff
    simp [exec, execPassFind, h, tableBegin_of_turn hturn, hoff]
  · rintro p ⟨h, hturn⟩
    refine ⟨fun hbad => ?_, fun hbad hnone => ?_⟩
    · simp [exec, execRefundHold, h, tableClaim_of_turn hturn, placeHold, hbad]
    · simp [exec, execRefundHold, h, tableClaim_of_turn hturn, placeHold, hbad, hnone]
  · rintro p refunded ⟨h, hturn⟩
    refine ⟨fun hbad => ?_, fun hbad hover => ?_, fun hbad hover hnone => ?_⟩
    · simp [exec, execRefundSettle, h, tableClaim_of_turn hturn, hbad]
    · simp [exec, execRefundSettle, h, tableClaim_of_turn hturn, hbad, hover]
    · simp [exec, execRefundSettle, h, tableClaim_of_turn hturn, heldByMe, hbad, Nat.not_lt.2 hover, hnone]
  · rintro p ⟨h, hturn⟩
    refine ⟨fun hbad => ?_, fun hbad hnone => ?_⟩
    · simp [exec, execRefundRelease, h, tableClaim_of_turn hturn, hbad]
    · simp [exec, execRefundRelease, h, tableClaim_of_turn hturn, heldByMe, hbad, hnone]

end Sys2Proof

/-! ## Inserts over a record, and drops -/

namespace Sys2Proof

open Machine Claims

namespace Machine.State

/-- The condition code of a request refused by a HELD hold (R17, R18). -/
theorem failHeld_eq (s : State) (o : Origin) (p : Nat) :
    s.failHeld o p = s.fail o (if s.holder p = some o then .double else .heldByOther) (some p) none := by
  unfold failHeld; split_ifs <;> rfl

@[simp] theorem serve_settlement (s : State) (o : Origin) : (s.serve o).settlement = s.settlement := by cases o <;> rfl

end Machine.State

open State

/-- PASS INSERT of a resident pass at its turn, its arguments good. -/
theorem execPassInsert_resident {o : Origin} {a : InsertArgs} {r : PassRecord} {s : State} (h : HasClaim o (.passInsert a) s)
    (hok : checkInsert a = none) (hr : s.record a.pass = some r) :
    exec (.passInsert o) s = .next ((s.serve o).insertOver o a r) := by
  obtain ⟨hwaits, hturn⟩ := h
  simp only [exec, execPassInsert, hwaits, tableClaim_of_turn hturn, hok, record_serve, hr]

/-- PASS INSERT of a pass without a record at its turn, its arguments good. -/
theorem execPassInsert_new {o : Origin} {a : InsertArgs} {s : State} (h : HasClaim o (.passInsert a) s)
    (hok : checkInsert a = none) (hr : s.record a.pass = none) :
    exec (.passInsert o) s = .next ((s.serve o).insertNew o a) := by
  obtain ⟨hwaits, hturn⟩ := h
  simp only [exec, execPassInsert, hwaits, tableClaim_of_turn hturn, hok, record_serve, hr]

/-- PASS DROP of a resident pass at its turn, by the condition of the record (R18). -/
theorem execPassDrop_resident {o : Origin} {p : Nat} {r : PassRecord} {s : State} (h : HasClaim o (.passDrop p) s)
    (hok : badPass p = false) (hr : s.record p = some r) :
    exec (.passDrop o) s = .next (
      if r.inFlight.isSome then (s.serve o).busy o
      else if r.state = .held then (s.serve o).failHeld o p
      else if r.unreported ≠ 0 then (s.serve o).fail o .unreported (some p) none
      else if s.settlement.collected p then (s.serve o).fail o .collectionOpen (some p) none
      else ((s.serve o).updTable (Table.remove p)).complete o []) := by
  obtain ⟨hwaits, hturn⟩ := h
  simp only [exec, execPassDrop, hwaits, tableClaim_of_turn hturn, hok, record_serve, hr, serve_settlement, Bool.false_eq_true,
    if_false]

/-- The record that replaces r, its codes read (R17). -/
theorem InsertArgs.replace_eq {a : InsertArgs} {cls : PassClass} {kind : PassKind} (hcls : classOfCode a.cls = some cls)
    (hkind : kindOfCode a.kind = some kind) (r : PassRecord) :
    a.replace r = { r with
      cls := cls, kind := kind, entitled := if kind = .season then 0 else a.entitled, first := a.first,
      last := a.last, used := joinDays r.used a.used } := by
  cases kind <;> simp [InsertArgs.replace, InsertArgs.passClass, InsertArgs.heldEntitled, InsertArgs.passKind, hcls, hkind]

theorem InsertArgs.replace_pass (a : InsertArgs) (r : PassRecord) : (a.replace r).pass = r.pass := rfl

/-- The part once an insert has replaced the record: the answer aside. -/
def replaced (o : Origin) (a : InsertArgs) (s : State) : State :=
  ((s.serve o).updRecord a.pass a.replace).updTable (Table.toHead a.pass)

theorem insertOver_replaces {o : Origin} {a : InsertArgs} {r : PassRecord} {s : State} (hfree : r.inFlight = none)
    (hst : r.state = .active ∨ r.state = .revoked) :
    (s.serve o).insertOver o a r = (replaced o a s).complete o (img1 1 ++ img1 r.state.code) := by
  rcases hst with hst | hst <;> simp [State.insertOver, hfree, hst, replaced]

theorem record_replaced {o : Origin} {a : InsertArgs} {r : PassRecord} {s : State} (hr : s.record a.pass = some r) :
    (replaced o a s).record a.pass = some (a.replace r) :=
  Table.find_update_same (t := (s.serve o).table) (InsertArgs.replace_pass a) (by rwa [← record_serve s o] at hr)

theorem otherRecords_replaced (o : Origin) (a : InsertArgs) (s : State) : OtherRecords a.pass s (replaced o a s) := fun q hq =>
  (Table.find_update_ne (t := (s.serve o).table) (InsertArgs.replace_pass a) hq).trans (record_serve s o q)

/-- Settles O28, by the branches of insertOver and of PASS DROP. -/
theorem replaceAndDropByTheRecordsCondition : Obligations.ReplaceAndDropByTheRecordsCondition := by
  refine ⟨fun o a r s h hok hr => ?_, fun o p r s h hok hr => ?_, fun o s => serve_eq s o⟩
  · rw [execPassInsert_resident h hok hr]
    refine ⟨fun hin => ?_, fun hin hst => ?_, fun hin hst => ?_, fun hin hst cls kind hcls hkind =>
      ⟨replaced o a s, ?_, ?_, otherRecords_replaced o a s, ?_, ?_, ?_⟩⟩
    · simp [State.insertOver, hin]
    · simp [State.insertOver, hin, hst, failHeld_eq]
    · simp [State.insertOver, hin, hst]
    · rw [insertOver_replaces hin hst]
    · rw [record_replaced hr, InsertArgs.replace_eq hcls hkind]
    · simp [replaced, State.updRecord, Table.update, Table.toHead]
    · cases o <;> rfl
    · rfl
  · rw [execPassDrop_resident h hok hr]
    refine ⟨fun hin => ?_, fun hin hst => ?_, fun hin hst hun => ?_, fun hin hst hun hcoll => ?_, fun hin hst hun hcoll =>
      ⟨(s.serve o).updTable (Table.remove p), ?_, ?_, fun q hq => ?_, ?_, ?_, ?_⟩⟩
    · simp [hin]
    · simp [hin, hst, failHeld_eq]
    · simp [hin, hst]
      exact fun hz => absurd hz hun
    · simp [hin, hst, hun, hcoll]
    · simp [hin, hst, hun, hcoll]
    · simp [Table.find_remove]
    · exact ((Table.find_remove _ p q).trans (if_neg hq)).trans (record_serve s o q)
    · simp [Table.remove]
    · rfl
    · cases o <;> rfl

end Sys2Proof

/-! ## The search -/

namespace Sys2Proof

open Machine Claims State

/-- The records that one step of a walk examines are as many as the bound and the count leave, where records lie above them. -/
theorem walkStep_count_spent {left : Option Nat} {ahead : List PassRecord} {n : Nat} {r : PassRecord} {rest : List PassRecord}
    (hn : n = min 64 (left.getD 64)) (hrest : ahead.drop n = r :: rest) :
    left.map (· - (ahead.take n).length) = left.map (· - n) ∧ (left.map (· - n) = some 0 ↔ left = some n) := by
  have hlong : n < ahead.length := by
    by_contra hshort
    rw [List.drop_eq_nil_of_le (Nat.le_of_not_lt hshort)] at hrest
    exact List.cons_ne_nil _ _ hrest.symm
  refine ⟨by rw [List.length_take_of_le hlong.le], ?_⟩
  cases left with
  | none => simp
  | some k =>
    simp only [Option.getD_some] at hn
    simp only [Option.map_some, Option.some.injEq]
    omega

/-- One step of a walk at its turn (R21). -/
theorem execPassFindStep_at_turn {o : Origin} {a : FindArgs} {above : Nat} {left : Option Nat} {answerable : Bool}
    {ahead : List PassRecord} {n : Nat} {s : State}
    (hin : (s.context o).inFlight = some { request := .passFind a, answerable := answerable, stage := .finding above left })
    (hturn : s.hasTurn o = true) (hahead : ahead = s.table.records.filter fun r => decide (above ≤ r.pass))
    (hn : n = min 64 (left.getD 64)) :
    exec (.passFindStep o) s = .next (
      match (ahead.take n).find? fun r => a.matches s.clock.day r != a.invert with
      | some r => (s.serve o).found o (imgPass (some r.pass))
      | none =>
        match ahead.drop n with
        | [] => (s.serve o).complete o (imgPass none ++ imgPass none)
        | r :: _ =>
          if left.map (· - (ahead.take n).length) = some 0 then (s.serve o).complete o (imgPass none ++ imgPass (some r.pass))
          else ((s.serve o).setStage o
            (.finding (walkFrom above (ahead.take n)) (left.map (· - (ahead.take n).length)))).submitClaim o) := by
  subst hahead hn
  simp only [exec, execPassFindStep, hin, hturn, if_true, walkStep, serve_records, (serve_frame s o).1] <;> rfl

/-- Settles O29, by the outcomes of one step. -/
theorem searchExaminesInSteps : Obligations.SearchExaminesInSteps := by
  refine ⟨fun o a s ⟨hwaits, hturn⟩ hok => ?_, fun o a above left answerable ahead n s hin hturn hahead hn => ?_,
    fun a today r => ?_⟩
  · simp only [exec, execPassFind, hwaits, tableBegin_of_turn hturn, hok]
  · rw [execPassFindStep_at_turn hin hturn hahead hn]
    refine ⟨fun r hr => by rw [hr], fun hnone => ?_⟩
    have hfind : ((ahead.take n).find? fun r => a.matches s.clock.day r != a.invert) = none := by
      simpa using hnone
    rw [hfind]
    refine ⟨fun hend => by rw [hend], fun r rest hrest => ?_⟩
    obtain ⟨hspent, hcount⟩ := walkStep_count_spent hn hrest
    rw [hrest, hspent]
    refine ⟨fun hleft => ?_, fun hleft last hlast => ?_⟩
    · simp only [if_pos (hcount.2 hleft)]
    · simp only [if_neg (mt hcount.1 hleft), walkFrom, hlast, Option.map_some, Option.getD_some]
  · simp only [FindArgs.matches, Bool.and_eq_true, Bool.or_eq_true, and_assoc, decide_eq_true_eq, beq_iff_eq, bne_iff_ne,
      Bool.not_eq_true', ← Bool.not_eq_true, ← imp_iff_not_or]

end Sys2Proof

/-! ## The order of the claims, and the clear step -/

namespace Sys2Proof

open Machine Claims

namespace Machine.State

/-- No TABLE CLEAR left by a warm reset runs (R27). -/
theorem orphan_eq_false_iff {s : State} :
    s.table.clear.any (·.orphan) = false ↔ ∀ c, s.table.clear = some c → c.orphan = false := by
  cases s.table.clear <;> simp

/-- Of the waiting lanes the first after the last lane served, counting round (R12). -/
theorem nextLane_eq_some_iff {s : State} {l : LaneNo} : s.nextLane = some l ↔ s.laneWaits l = true
    ∧ ∃ i : Fin 8, l = s.table.lastLane + 1 + i ∧ ∀ j, j < i → s.laneWaits (s.table.lastLane + 1 + j) = false := by
  rw [nextLane, List.find?_eq_some_iff_getElem]
  refine and_congr_right fun _ => ⟨fun ⟨i, hi, hl, hbefore⟩ => ?_, fun ⟨i, hl, hbefore⟩ => ?_⟩
  · have hi8 : i < 8 := by simpa using hi
    exact ⟨⟨i, hi8⟩, by simpa using hl.symm, fun j hj => by simpa using hbefore j hj⟩
  · exact ⟨i, by simp, by simp [hl], fun j hj => by simpa using hbefore ⟨j, hj.trans i.isLt⟩ hj⟩

theorem nextLane_eq_none_iff {s : State} : s.nextLane = none ↔ ∀ l, s.laneWaits l = false := by
  rw [nextLane, List.find?_eq_none]
  refine ⟨fun h l => ?_, fun h l _ => by simp [h l]⟩
  have hround : s.table.lastLane + 1 + (l - (s.table.lastLane + 1)) = l := add_sub_cancel _ _
  simpa using h l (List.mem_map.2 ⟨_, List.mem_finRange _, hround⟩)

/-- A clear left by a warm reset comes before any other claim (R27). -/
theorem turn_eq_orphanClear_iff {s : State} : s.turn = .orphanClear ↔ s.table.clear.any (·.orphan) = true := by
  unfold turn; (repeat' split) <;> simp_all

section Turn

variable {s : State} (hc : s.table.clear.any (·.orphan) = false)
include hc

theorem turn_of_nextLane {l : LaneNo} (hn : s.nextLane = some l) : s.turn = .lane l := by
  simp [turn, hc, hn]

theorem turn_of_lapseClaim {p : Nat} (hn : s.nextLane = none) (hl : s.settlement.lapseClaim = some p) : s.turn = .settlement := by
  simp [turn, hc, hn, hl]

/-- Where neither a lane nor the settlement unit waits, the origins are looked at, the one not served last first (R12). -/
theorem turn_of_origins (hn : s.nextLane = none) (hl : s.settlement.lapseClaim = none) : s.turn =
    if s.originWaits (otherOrigin s.table.lastOrigin) then .origin (otherOrigin s.table.lastOrigin)
    else if s.originWaits s.table.lastOrigin then .origin s.table.lastOrigin
    else .background := by
  simp [turn, hc, hn, hl]

theorem turn_eq_lane_iff {l : LaneNo} : s.turn = .lane l ↔ s.nextLane = some l := by
  cases hn : s.nextLane with
  | some m => simp [turn_of_nextLane hc hn]
  | none =>
    cases hl : s.settlement.lapseClaim with
    | some p => simp [turn_of_lapseClaim hc hn hl]
    | none => rw [turn_of_origins hc hn hl]; split_ifs <;> simp

theorem turn_eq_settlement_iff : s.turn = .settlement ↔ s.nextLane = none ∧ s.settlement.lapseClaim.isSome = true := by
  cases hn : s.nextLane with
  | some m => simp [turn_of_nextLane hc hn]
  | none =>
    cases hl : s.settlement.lapseClaim with
    | some p => simp [turn_of_lapseClaim hc hn hl]
    | none => rw [turn_of_origins hc hn hl]; split_ifs <;> simp

/-- Of two origins that wait, the turn is that of the one not served last (R12). -/
theorem turn_eq_origin_iff {o : Origin} : s.turn = .origin o ↔ s.nextLane = none ∧ s.settlement.lapseClaim = none
    ∧ s.originWaits o = true ∧ (s.originWaits (otherOrigin o) = true → s.table.lastOrigin = otherOrigin o) := by
  cases hn : s.nextLane with
  | some m => simp [turn_of_nextLane hc hn]
  | none =>
    cases hl : s.settlement.lapseClaim with
    | some p => simp [turn_of_lapseClaim hc hn hl]
    | none =>
      rw [turn_of_origins hc hn hl]
      cases hlast : s.table.lastOrigin <;> cases o <;> split_ifs <;> simp_all [otherOrigin]

theorem turn_eq_background_iff : s.turn = .background ↔ s.nextLane = none ∧ s.settlement.lapseClaim = none
    ∧ ∀ o, s.originWaits o = false := by
  cases hn : s.nextLane with
  | some m => simp [turn_of_nextLane hc hn]
  | none =>
    cases hl : s.settlement.lapseClaim with
    | some p => simp [turn_of_lapseClaim hc hn hl]
    | none =>
      rw [turn_of_origins hc hn hl]
      refine ⟨fun h => ⟨rfl, rfl, fun o => ?_⟩, fun ⟨_, _, h⟩ => by simp [h]⟩
      cases hlast : s.table.lastOrigin <;> cases o <;> simp_all [otherOrigin] <;> split_ifs at h <;> simp_all

end Turn

theorem betweenClaims_iff {s : State} {o : Origin} :
    s.betweenClaims o = true ↔ ∃ f, (s.context o).inFlight = some f ∧ f.underWay = true := by
  simp [betweenClaims, Option.any_eq_true]

/-- The further claims of a request under way do not hold a step back (R13). -/
theorem mayStep_iff {s : State} : s.mayStep = true ↔ (∀ c, s.table.clear = some c → c.orphan = false)
    ∧ (∀ l, s.laneWaits l = false) ∧ s.settlement.lapseClaim = none
    ∧ (s.originWaits .station = true → s.betweenClaims .station = true)
    ∧ ∀ c ∈ s.table.officeClaims, c = .own ∧ s.betweenClaims .office = true := by
  have horphan : (s.turn != .orphanClear) = true ↔ ∀ c, s.table.clear = some c → c.orphan = false := by
    rw [← orphan_eq_false_iff, bne_iff_ne, Ne, turn_eq_orphanClear_iff, Bool.not_eq_true]
  simp only [mayStep, Bool.and_eq_true, horphan, Option.isNone_iff_eq_none, nextLane_eq_none_iff, and_assoc]
  have hstation : (!s.originHoldsBack .station) = true ↔ (s.originWaits .station = true → s.betweenClaims .station = true) := by
    cases hw : s.originWaits .station <;> simp [originHoldsBack, hw]
  rw [hstation]
  simp [originHoldsBack]

theorem hasTurn_station_iff {s : State} : s.hasTurn .station = true ↔ s.turn = .origin .station := by simp [hasTurn]

theorem hasTurn_office_iff {s : State} :
    s.hasTurn .office = true ↔ s.turn = .origin .office ∧ s.table.officeClaims.head? = some .own := by
  simp [hasTurn]

theorem originWaits_station_iff {s : State} : s.originWaits .station = true ↔
    ∃ f, s.decoder.station.inFlight = some f ∧ f.request.isTable = true ∧ f.stage.claims = true := by
  cases h : s.decoder.station.inFlight <;> simp [originWaits, h]

theorem laneWaits_iff {s : State} {l : LaneNo} : s.laneWaits l = true ↔ s.lanePresent l = true
    ∧ ((s.laneAt l).state = .deciding ∨ (s.laneAt l).ending ≠ .none) := by
  simp [laneWaits]

end Machine.State

open State

/-- A request of several claims is under way once one of its claims has been taken (R13). -/
theorem underWay_iff (f : InFlight) : f.underWay = true ↔ (∃ todo done, f.stage = .merging todo done ∧ done ≠ [])
    ∨ ∃ above left a, f.stage = .finding above left ∧ f.request = .passFind a ∧ above ≠ a.start := by
  unfold InFlight.underWay
  split
  · simp_all
  · simp_all
  · rename_i hmerging hfinding
    refine ⟨fun h => Bool.noConfusion h, ?_⟩
    rintro (⟨todo, done, hst, -⟩ | ⟨above, left, a, hst, hreq, -⟩)
    · exact absurd hst (hmerging todo done)
    · exact absurd hreq (hfinding above left a hst)

/-- Without its turn no claim of a lane does anything (R12). -/
theorem laneClaims_wait {s : State} {l : LaneNo} (h : s.turn ≠ .lane l) :
    exec (.decisionClaim l) s = .next s ∧ exec (.commitClaim l) s = .next s ∧ exec (.withdrawClaim l) s = .next s := by
  simp [exec, execDecisionClaim, execCommitClaim, execWithdrawClaim, laneHasTurn, h]

/-! ### The clear step -/

/-- In the sorted index the first record has the lowest pass number, and removing it leaves the rest. -/
theorem Table.lowest_record {t : Table} {r : PassRecord} {rest : List PassRecord} (h : t.IndexOk) (hrec : t.records = r :: rest) :
    (∀ x ∈ rest, r.pass < x.pass) ∧ t.records.filter (fun x => x.pass != r.pass) = rest := by
  obtain ⟨hsorted, -⟩ := h
  rw [hrec] at hsorted ⊢
  have hlow := (List.pairwise_cons.1 hsorted).1
  refine ⟨hlow, ?_⟩
  rw [List.filter_cons_of_neg (by simp), List.filter_eq_self]
  exact fun x hx => by simpa using (hlow x hx).ne'

/-- An empty table has an empty recency list (R9). -/
theorem Table.recency_eq_nil {t : Table} (h : t.IndexOk) (hrec : t.records = []) : t.recency = [] := by
  obtain ⟨-, -, -, -, hresident, -⟩ := h
  exact List.eq_nil_iff_forall_not_mem.2 fun p hp => by simpa [Table.find, hrec] using hresident p hp

/-- When a step of a TABLE CLEAR is taken (R12, R27). -/
theorem clearStep_taken_iff {s : State} {c : Clear} (hc : s.table.clear = some c) :
    (s.mayStep = true ∨ s.turn = .orphanClear) ↔ s.mayStep = true ∨ c.orphan = true := by
  rw [turn_eq_orphanClear_iff, hc, Option.any_some]

/-- A clear step that is taken on a table with records. -/
theorem clearStep_removes {s : State} {c : Clear} {r : PassRecord} {rest : List PassRecord} (hc : s.table.clear = some c)
    (ht : s.mayStep = true ∨ c.orphan = true) (hrec : s.table.records = r :: rest) :
    exec .clearStep s = .next (s.clearRecord c r.pass) := by
  simp only [exec, execClearStep, hc, if_pos ((clearStep_taken_iff hc).2 ht), hrec]

/-- A clear step that is taken on an empty table (R24, R27). -/
theorem clearStep_ends {s : State} {c : Clear} (hc : s.table.clear = some c) (ht : s.mayStep = true ∨ c.orphan = true)
    (hrec : s.table.records = []) :
    exec .clearStep s = .next (if c.orphan then s.updTable fun t => { t with clear := none }
      else State.complete .station (img2 c.removed) (s.updTable fun t => { t with clear := none })) := by
  simp only [exec, execClearStep, hc, if_pos ((clearStep_taken_iff hc).2 ht), hrec]

/-- A clear step that is not taken. -/
theorem clearStep_waits {s : State} {c : Clear} (hc : s.table.clear = some c) (ht : ¬ (s.mayStep = true ∨ c.orphan = true)) :
    exec .clearStep s = .next s := by
  simp only [exec, execClearStep, hc, if_neg (mt (clearStep_taken_iff hc).1 ht)]

/-- Settles O31. -/
theorem clearStepRemovesTheLowest : Obligations.ClearStepRemovesTheLowest := by
  refine ⟨fun c s hc => ⟨fun ht => ⟨fun r rest hrec hok => ?_, fun hrec => ⟨fun hown => ?_, fun horphan => ?_,
      fun hok => Table.recency_eq_nil hok hrec⟩⟩, fun hmay hown => ?_, fun horphan => ?_⟩,
    fun s hc => ?_, fun s => ?_, underWay_iff, fun s hown => ?_,
    fun s => ⟨hasTurn_station_iff, hasTurn_office_iff, ?_, originWaits_station_iff, fun l => ⟨laneWaits_iff, laneClaims_wait⟩⟩⟩
  · obtain ⟨hlow, hrest⟩ := Table.lowest_record hok hrec
    refine ⟨?_, hlow⟩
    rw [clearStep_removes hc ht hrec, ← hrest]
    rfl
  · rw [clearStep_ends hc ht hrec, hown]
    rfl
  · rw [clearStep_ends hc ht hrec, horphan]
    rfl
  · exact clearStep_waits hc (by simp [hmay, hown])
  · have hturn : s.turn = .orphanClear := turn_eq_orphanClear_iff.2 (by simp [hc, horphan])
    exact ⟨hturn, fun o => by simp [hasTurn, hturn]⟩
  · simp only [exec, execClearStep, hc]
  · rw [mayStep_iff, betweenClaims_iff, betweenClaims_iff]
    rfl
  · rw [← orphan_eq_false_iff] at hown
    simp only [← nextLane_eq_none_iff, ← nextLane_eq_some_iff]
    exact ⟨fun l => turn_eq_lane_iff hown, turn_eq_settlement_iff hown, fun o => turn_eq_origin_iff hown,
      turn_eq_background_iff hown⟩
  · simp [originWaits]

end Sys2Proof

/-! ## Inserts that create a record -/

namespace Sys2Proof

open Machine Claims

/-! ### The lane that waits for the pass -/

/-- The decoder raises a LANE notice for exactly the changes the rules name (R51). -/
theorem laneNotice_eq (l : LaneNo) (before after : Lane) :
    (if laneNoticeDue before after then [LaneMsg.notice (.lane l after.state after.condition)] else [])
      = laneNotice l before after := by
  unfold laneNotice
  congr 1
  simp [laneNoticeDue, or_assoc, eq_comm (a := before.condition), eq_comm (a := before.state) (b := after.state)]

/-- An event at a present lane. -/
theorem runLane_eq_laneAfter {s : State} {l : LaneNo} (f : LaneEnv → LaneRun → LaneRun) (h : s.lanePresent l = true) :
    s.runLane l f = laneAfter l (f (s.laneEnv l) { lane := s.laneAt l, events := [], msgs := [] }) s := by
  simp only [State.runLane, h, if_true, laneNotice_eq, laneAfter]

theorem refuseMiss_eq_missRefused {env : LaneEnv} {before : List Event} {ln : Lane} {m : Miss} (h : ln.miss = some m) :
    LaneRun.refuseMiss env before { lane := ln, events := [], msgs := [] } = missRefused env m before ln := by
  simp [LaneRun.refuseMiss, h, missRefused, LaneRun.endMiss, LaneRun.send, LaneRun.finishSlot, LaneRun.upd, refusedEvent]

section MissInserted

variable (env : LaneEnv) (r : LaneRun)

@[simp] theorem LaneRun.missInserted_events : (r.missInserted env).events = r.events := by
  unfold LaneRun.missInserted LaneRun.toPaused; dsimp only; (repeat' split) <;> rfl

/-- A miss that ends by insert leaves the current slot, and the lane decides again or pauses (R84). -/
theorem LaneRun.missInserted_lane : (r.missInserted env).lane.miss = none ∧ (r.missInserted env).lane.missWait = none
    ∧ (r.missInserted env).lane.current = r.lane.current
    ∧ (r.missInserted env).lane.state = if r.lane.pause then .paused else .deciding := by
  cases hp : r.lane.pause <;> cases hc : r.lane.current <;>
    simp [LaneRun.missInserted, LaneRun.toPaused, LaneRun.endMiss, LaneRun.enter, LaneRun.send, LaneRun.upd, hp, hc]

end MissInserted

namespace Machine.State

variable {s : State} {p : Nat}

theorem tellMiss_of_some {l : LaneNo} (h : s.missLane p = some l) (f : LaneEnv → LaneRun → LaneRun) :
    s.tellMiss p f = s.runLane l f := by simp only [tellMiss, h]

theorem tellMiss_of_none (h : s.missLane p = none) (f : LaneEnv → LaneRun → LaneRun) : s.tellMiss p f = s := by
  simp only [tellMiss, h]

theorem tellMiss_other {l : LaneNo} (h : s.missLane p ≠ some l) (f : LaneEnv → LaneRun → LaneRun) :
    (s.tellMiss p f).laneAt l = s.laneAt l := by
  cases hm : s.missLane p with
  | none => rw [tellMiss_of_none hm]
  | some m => rw [tellMiss_of_some hm, runLane_other f (by rintro rfl; exact h hm)]

/-- The contexts of the origins are no matter of the lanes. -/
theorem tellMiss_context (s : State) (p : Nat) (f : LaneEnv → LaneRun → LaneRun) (o : Origin) :
    (s.tellMiss p f).context o = s.context o := by
  cases hm : s.missLane p with
  | none => rw [tellMiss_of_none hm]
  | some l =>
    rw [tellMiss_of_some hm]
    have hdecoder := runLane_decoder s l f
    have hstation := congrArg Decoder.station hdecoder
    have hoffice := congrArg Decoder.office hdecoder
    cases o
    · exact hstation
    · exact hoffice

/-- A lane told of an insert hands the tally unit nothing. -/
theorem tellMiss_inserted_tally (s : State) (p : Nat) : (s.tellMiss p fun env r => r.missInserted env).tally = s.tally := by
  cases hm : s.missLane p with
  | none => rw [tellMiss_of_none hm]
  | some l =>
    rw [tellMiss_of_some hm, runLane_eq_laneAfter _ (missLane_some hm).1]
    simp [laneAfter, handEvents_nil]

/-- The least recent evictable record: none after it in the recency list is evictable (R16). -/
theorem evictee_least_recent (h : s.evictee = some p) :
    ∃ l₁ l₂, s.table.recency = l₁ ++ p :: l₂ ∧ ∀ q ∈ l₂, ∀ r, s.record q = some r → s.evictable r = false := by
  obtain ⟨-, after, before, hsplit, hnot⟩ := List.find?_eq_some_iff_append.1 h
  refine ⟨before.reverse, after.reverse, ?_, fun q hq r hr => ?_⟩
  · simpa using congrArg List.reverse hsplit
  · simpa [hr] using hnot q (List.mem_reverse.1 hq)

end Machine.State

open State

/-! ### The record created -/

/-- An accepted insert's class and kind are those its codes name (R14). -/
theorem InsertArgs.codes_of_checkInsert {a : InsertArgs} (h : checkInsert a = none) :
    classOfCode a.cls = some a.passClass ∧ kindOfCode a.kind = some a.passKind := by
  simp only [checkInsert, ite_some_eq_none] at h
  obtain ⟨-, hcls, hkind, -⟩ := h
  obtain ⟨c, hc⟩ := Option.ne_none_iff_exists'.1 hcls
  obtain ⟨k, hk⟩ := Option.ne_none_iff_exists'.1 hkind
  simp [InsertArgs.passClass, InsertArgs.passKind, hc, hk]

theorem InsertArgs.heldEntitled_eq (a : InsertArgs) :
    a.heldEntitled = if a.passKind = .season then 0 else a.entitled := by
  cases h : a.passKind <;> simp [InsertArgs.heldEntitled, h]

/-- The table once the pass named, if any, is evicted. -/
def Machine.Table.evict (ev : Option Nat) (t : Table) : Table :=
  match ev with
  | none => t
  | some p => t.remove p

theorem Table.find_evict (ev : Option Nat) (t : Table) (q : Nat) :
    (t.evict ev).find q = if ev = some q then none else t.find q := by
  cases ev with
  | none => simp [Table.evict]
  | some p => simp [Table.evict, Table.find_remove, eq_comm]

theorem Table.recency_evict (ev : Option Nat) (t : Table) : (t.evict ev).recency = t.recency.filter fun q => some q != ev := by
  cases ev with
  | none => exact (List.filter_eq_self.2 fun q _ => by simp).symm
  | some p => exact List.filter_congr fun q _ => Bool.eq_iff_iff.2 (by simp)

/-- The part once an insert has created its record and told the lane that waits for it: the answer aside (R15). -/
def created (o : Origin) (a : InsertArgs) (ev : Option Nat) (s : State) : State :=
  ((s.serve o).updTable fun t => (t.evict ev).create (a.newRecord (s.table.listState a.pass))).tellMiss a.pass
    fun env r => r.missInserted env

/-- Where an insert has room, or a record to evict (R15, R16). -/
def HasRoom (s : State) (ev : Option Nat) : Prop :=
  (s.table.records.length < 8192 ∧ ev = none) ∨ (8192 ≤ s.table.records.length ∧ ev.isSome = true ∧ s.evictee = ev)

theorem listState_code (t : Table) (p : Nat) : (t.listState p).code = if t.listed p then 3 else 0 := by
  unfold Table.listState; split <;> rfl

/-- PASS INSERT of a new pass, where there is room or a record to evict (R15, R16). -/
theorem insertNew_creates {o : Origin} {a : InsertArgs} {s : State} {ev : Option Nat} (h : HasRoom s ev) :
    (s.serve o).insertNew o a = (created o a ev s).complete o
      (img1 0 ++ img1 (if s.table.listed a.pass then 3 else 0) ++ imgPass ev) := by
  rw [← listState_code]
  have hlist : (s.serve o).table.listState a.pass = s.table.listState a.pass := by simp [Table.listState]
  rcases h with ⟨hroom, rfl⟩ | ⟨hfull, hsome, rfl⟩
  · rw [State.insertNew, serve_records, if_pos hroom, createPass, hlist]
    rfl
  · obtain ⟨p, hp⟩ := Option.isSome_iff_exists.1 hsome
    rw [State.insertNew, serve_records, if_neg (Nat.not_lt.2 hfull), serve_evictee, hp]
    simp only [createPass]
    have hlist' : ((s.serve o).updTable (Table.remove p)).table.listState a.pass = s.table.listState a.pass := hlist
    rw [hlist']
    rfl

section Created

variable (o : Origin) (a : InsertArgs) (ev : Option Nat) (s : State)

theorem created_table : (created o a ev s).table =
    ((s.serve o).table.evict ev).create (a.newRecord (s.table.listState a.pass)) := (tellMiss_frame ..).2.1

theorem created_revoked : (created o a ev s).table.revoked = s.table.revoked := by
  rw [created_table]; cases ev <;> cases o <;> rfl

theorem created_sweep : (created o a ev s).table.sweep = s.table.sweep := by
  rw [created_table]; cases ev <;> cases o <;> rfl

theorem created_recency : (created o a ev s).table.recency =
    a.pass :: s.table.recency.filter (fun q => q != a.pass && some q != ev) := by
  rw [created_table, ← serve_recency s o, ← List.filter_filter, ← Table.recency_evict]; rfl

theorem created_record {s : State} (hnew : s.record a.pass = none) (q : Nat) : (created o a ev s).record q =
    if q = a.pass then some (a.newRecord (s.table.listState a.pass)) else if ev = some q then none else s.record q := by
  have hfree : ((s.serve o).table.evict ev).find a.pass = none := by
    rw [Table.find_evict]
    split
    · rfl
    · exact (record_serve s o a.pass).trans hnew
  have hserve : (s.serve o).table.find q = s.record q := record_serve s o q
  rw [State.record, created_table, Table.find_create _ hfree, Table.find_evict, hserve]
  rfl

theorem created_missLane : ((s.serve o).updTable fun t => (t.evict ev).create (a.newRecord (s.table.listState a.pass))).missLane a.pass
    = s.missLane a.pass := serve_missLane s o a.pass

/-- The lane that waited for the pass has been told (R84). -/
theorem created_laneAt {s : State} {l : LaneNo} (h : s.missLane a.pass = some l) :
    ((created o a ev s).laneAt l).miss = none ∧ ((created o a ev s).laneAt l).missWait = none
      ∧ ((created o a ev s).laneAt l).current = (s.laneAt l).current
      ∧ ((created o a ev s).laneAt l).state = if (s.laneAt l).pause then .paused else .deciding := by
  have hmiss := (created_missLane o a ev s).trans h
  have hlane : (created o a ev s).laneAt l =
      (LaneRun.missInserted (s.laneEnv l) { lane := s.laneAt l, events := [], msgs := [] }).lane := by
    rw [created, tellMiss_of_some hmiss, runLane_laneAt _ (missLane_some hmiss).1]
    cases o <;> rfl
  rw [hlane]
  exact LaneRun.missInserted_lane ..

end Created

/-- The table full and nothing evictable: the insert fails, and the lane that waits for the pass refuses it (R16, R84). -/
theorem insertNew_full {o : Origin} {a : InsertArgs} {s : State} (hfull : 8192 ≤ s.table.records.length) (hev : s.evictee = none) :
    (s.serve o).insertNew o a =
      ((s.serve o).tellMiss a.pass fun env r => r.refuseMiss env []).fail o .tableFull (some a.pass) none := by
  rw [State.insertNew, serve_records, if_neg (Nat.not_lt.2 hfull), serve_evictee, hev]

/-- Settles O27. -/
theorem insertCreatesARecord : Obligations.InsertCreatesARecord := by
  intro o a s h hok hnew
  rw [execPassInsert_new h hok hnew]
  refine ⟨fun ev hroom => ⟨created o a ev s, by rw [insertNew_creates hroom], ?_, ?_, fun q hq hne => ?_, fun q hq => ?_,
      created_recency o a ev s, fun l hl => ?_, fun l hl => created_laneAt o a ev hl, ?_, ?_, ?_, ?_, ?_,
      created_revoked o a ev s, created_sweep o a ev s⟩,
    fun hfull hev => ⟨_, by rw [insertNew_full hfull hev], fun hnone => ?_, fun l m hl hm => ?_⟩,
    fun p l => missLane_some, fun p hnone l m => missLane_none hnone, fun p hp => ⟨evictee_some hp, evictee_least_recent hp⟩⟩
  · rw [created, tellMiss_context]; rfl
  · obtain ⟨hcls, hkind⟩ := InsertArgs.codes_of_checkInsert hok
    exact ⟨_, by rw [created_record o a ev hnew, if_pos rfl], rfl, hcls, hkind, InsertArgs.heldEntitled_eq a, rfl, rfl, rfl, rfl, rfl, rfl,
      rfl, rfl, rfl, rfl⟩
  · rw [created_record o a ev hnew, if_neg hq, if_neg hne]
  · have hother : q ≠ a.pass := by
      rintro rfl
      rcases hroom with ⟨-, rfl⟩ | ⟨-, -, hev⟩
      · simp at hq
      · obtain ⟨r, hr, -⟩ := evictee_some (hev.trans hq)
        simp [hnew] at hr
    rw [created_record o a ev hnew, if_neg hother, if_pos hq]
  · rw [created, tellMiss_other (by rwa [created_missLane])]
    exact serve_laneAt s o l
  · exact (tellMiss_frame ..).1.trans (serve_frame s o).1
  · exact (tellMiss_frame ..).2.2.1.trans (serve_settlement s o)
  · rw [created, tellMiss_inserted_tally]; cases o <;> rfl
  · exact (tellMiss_frame ..).2.2.2.1.trans (by cases o <;> rfl)
  · exact (tellMiss_frame ..).2.2.2.2.1.trans (by cases o <;> rfl)
  · rw [tellMiss_of_none (by rwa [serve_missLane]), serve_eq]
  · have hserve : (s.serve o).missLane a.pass = some l := by rwa [serve_missLane]
    rw [tellMiss_of_some hserve, runLane_eq_laneAfter _ (missLane_some hserve).1, serve_laneAt, refuseMiss_eq_missRefused hm,
      serve_eq]
    rfl

end Sys2Proof

/-! ## The season day and the operating second

What each move of the clock leaves of it, and of the clock's ranges (R28 to R35). -/

namespace Sys2Proof.Machine

/-! ### The moves of the clock -/

theorem advanceTimebase_of_lt {n : Nat} {c : Clock} (h : c.timebase + n < 2 ^ 40) :
    advanceTimebase n c = { c with timebase := c.timebase + n } := by
  simp only [advanceTimebase, if_pos h]

namespace Clock

theorem roll_frame (c : Clock) :
    c.roll.second = 0 ∧ c.roll.phase = 0 ∧ c.roll.lastDay = c.lastDay ∧ c.roll.timebase = c.timebase := by
  unfold roll
  dsimp only
  (repeat' split) <;> exact ⟨rfl, rfl, rfl, rfl⟩

theorem roll_running {c : Clock} (h : c.state = .running) : c.roll = { c with
    state := if c.day < c.lastDay then .running else .ended, day := c.day + 1, second := 0, phase := 0 } := by
  simp only [roll, h]
  split <;> rfl

theorem roll_ended {c : Clock} (h : c.state = .ended) : c.roll = { c with
    day := if c.day < 239 then c.day + 1 else c.day, second := 0, phase := 0 } := by
  simp only [roll, h]
  split <;> rfl

/-- A set overwrites all that a rollover before it changes (R35). -/
theorem setTo_roll (a : ClockSetArgs) (c : Clock) : c.roll.setTo a = c.setTo a := by
  unfold roll; dsimp only; (repeat' split) <;> rfl

end Clock

namespace State

variable (s : State)

theorem finishSecond_clock : s.finishSecond.clock = advanceTimebase (1000 - s.clock.phase) s.clock := rfl

theorem advanceSecond_clock : s.advanceSecond.clock = { s.clock with second := s.clock.second + 1, phase := 0 } := by
  unfold advanceSecond; dsimp only; split <;> simp

theorem rollOver_clock : s.rollOver.clock = s.clock.roll := by
  unfold rollOver; dsimp only; split <;> simp

theorem applyClockSet_clock (a : ClockSetArgs) : (s.applyClockSet a).clock = s.clock.setTo a := by
  unfold applyClockSet
  dsimp only
  split
  · rfl
  · split
    · rfl
    · split
      · exact (congrArg (Clock.setTo a) (setTally_frame ..).1).trans (Clock.setTo_roll a s.clock)
      · exact Clock.setTo_roll a s.clock

end State

/-! ### The ranges -/

namespace Clock

variable {c : Clock}

theorem Ok.advanceTimebase (h : c.Ok) (n : Nat) : (advanceTimebase n c).Ok := by
  obtain ⟨hday, hsecond, hphase, hlast, -, hstates⟩ := h
  refine ⟨hday, hsecond, hphase, hlast, ?_, hstates⟩
  unfold Machine.advanceTimebase
  dsimp only
  split
  · assumption
  · exact BitVec.isLt _

/-- The phase passes 999 within a running day (R31). -/
theorem Ok.nextSecond (h : c.Ok) (hset : c.state ≠ .unset) (hroom : c.second < 86399) :
    ({ c with second := c.second + 1, phase := 0 } : Clock).Ok := by
  obtain ⟨hday, -, -, hlast, hbase, -, hrunning, hended⟩ := h
  exact ⟨hday, hroom, Nat.zero_le _, hlast, hbase, fun hu => absurd hu hset, hrunning, hended⟩

/-- The phase advances within its second (R31). -/
theorem Ok.nextPhase (h : c.Ok) (hset : c.state ≠ .unset) (hroom : c.phase < 999) :
    ({ c with phase := c.phase + 1 } : Clock).Ok := by
  obtain ⟨hday, hsecond, -, hlast, hbase, -, hrunning, hended⟩ := h
  exact ⟨hday, hsecond, hroom, hlast, hbase, fun hu => absurd hu hset, hrunning, hended⟩

/-- A running clock past its last day ends the season, so the day stays above it (R32, R33). -/
theorem Ok.roll (h : c.Ok) : c.roll.Ok := by
  obtain ⟨hday, -, -, hlast, hbase, hunset, hrunning, hended⟩ := h
  cases hstate : c.state with
  | unset => simp_all [Ok, Clock.roll]
  | running =>
    have := hrunning hstate
    rw [roll_running hstate]
    by_cases hroom : c.day < c.lastDay
    · simp [Ok, hroom]
      omega
    · simp [Ok, hroom]
      omega
  | ended =>
    have := hended hstate
    rw [roll_ended hstate]
    by_cases hroom : c.day < 239
    · simp [Ok, hstate, hroom]
      omega
    · simp [Ok, hstate, hroom]
      omega

/-- What the tests of CLOCK SET leave of its arguments (R34). -/
theorem of_checkClockSet {a : ClockSetArgs} (h : checkClockSet c a = none) :
    a.day ≤ a.lastDay ∧ a.second ≤ 86399 ∧ a.lastDay ≤ 238 := by
  simp only [checkClockSet, ite_some_eq_none] at h
  omega

theorem Ok.setTo (h : c.Ok) {a : ClockSetArgs} (ha : checkClockSet c a = none) : (c.setTo a).Ok := by
  obtain ⟨hday, hsecond, hlast⟩ := of_checkClockSet ha
  obtain ⟨-, -, -, -, hbase, -⟩ := h
  exact ⟨by simp only [Clock.setTo]; omega, hsecond, Nat.zero_le _, hlast, hbase, nofun, fun _ => hday, nofun⟩

/-- The ranges do not speak of the broadcasts that wait. -/
theorem Ok.broadcasts (h : c.Ok) (bs : List ClockSetArgs) : ({ c with broadcasts := bs } : Clock).Ok := h

end Clock

namespace State

variable {s : State}

theorem advanceSecond_ok (h : s.clock.Ok) (hset : s.clock.state ≠ .unset) (hroom : s.clock.second < 86399) :
    s.finishSecond.advanceSecond.clock.Ok := by
  rw [advanceSecond_clock]
  exact (h.advanceTimebase _).nextSecond hset hroom

theorem rollOver_ok (h : s.clock.Ok) : s.finishSecond.rollOver.clock.Ok := by
  rw [rollOver_clock]
  exact (h.advanceTimebase _).roll

theorem applyClockSet_ok (h : s.clock.Ok) {a : ClockSetArgs} (ha : checkClockSet s.clock a = none) :
    (s.applyClockSet a).clock.Ok := by
  rw [applyClockSet_clock]
  exact h.setTo ha

end State

/-- A millisecond keeps the clock in its ranges. -/
theorem tick_ok {s : State} (h : s.clock.Ok) : (tick s).clock.Ok := by
  unfold tick
  split
  · exact h.advanceTimebase 1
  · rename_i hset
    split
    · rename_i hphase
      exact (h.nextPhase hset hphase).advanceTimebase 1
    · split
      · exact State.advanceSecond_ok h hset ‹_›
      · exact State.rollOver_ok h

theorem execClockSet_ok {src : Source} {s t : State} (h : s.clock.Ok) (ht : execClockSet src s = .next t) : t.clock.Ok := by
  injection ht with ht
  subst ht
  split
  · split
    · split
      · simpa using h
      · split
        · simpa using h
        · simpa using State.applyClockSet_ok h ‹_›
    · exact h
  · split
    · rename_i rest _
      dsimp only
      split
      · exact h.broadcasts rest
      · exact State.applyClockSet_ok (s := s.updClock fun c => { c with broadcasts := rest }) (h.broadcasts rest) ‹_›
    · exact h

/-! ### The commands that leave the clock -/

namespace State

variable {s : State} {o : Origin}

theorem tableClaim_clock {k : State → State} (hk : (k (s.serve o)).clock = s.clock) : (s.tableClaim o k).clock = s.clock := by
  unfold tableClaim
  split
  · exact hk
  · rfl

theorem tableBegin_clock {k : State → State} (hk : (k s).clock = s.clock) : (s.tableBegin o k).clock = s.clock := by
  unfold tableBegin
  split
  · exact hk
  · rfl

theorem heldByMe_clock {p : Nat} {k : PassRecord → State → State} (hk : ∀ r, (k r s).clock = s.clock) :
    (s.heldByMe o p k).clock = s.clock := by
  unfold heldByMe
  (repeat' split) <;> simp [hk]

/-- An ending claim's part at the table and at the settlement unit is not the clock's. -/
theorem endingClaim_clock {l : LaneNo} {k : Admission → PassRecord → State → State}
    (hk : ∀ a r u, (k a r u).clock = u.clock) : (s.endingClaim l k).clock = s.clock := by
  rw [endingClaim_eq, (runLane_frame ..).1]
  unfold endPart
  (repeat' split) <;> simp [hk]

theorem deliverBroadcast_clock (body : List Byte) :
    ∃ bs, (s.deliverBroadcast body).clock = { s.clock with broadcasts := bs } := by
  unfold deliverBroadcast
  split
  · exact ⟨_, rfl⟩
  · split <;> exact ⟨_, rfl⟩
  · exact ⟨_, rfl⟩

/-- A frame received changes of the clock only the broadcasts that wait (R174, R204). -/
theorem receive_clock (r : Received) : ∃ bs, (s.receive r).clock = { s.clock with broadcasts := bs } := by
  unfold receive
  split
  · cases r with
    | broadcast body => exact deliverBroadcast_clock body
    | request body => exact ⟨_, (deliver_frame ..).1⟩
    | bad => exact ⟨_, (frameBad_frame s).1⟩
    | abort => exact ⟨_, (abortEvent_frame ..).1⟩
    | nothing | other | broadcastAbort => exact ⟨_, rfl⟩
  · exact ⟨_, rfl⟩

theorem receive_ok (h : s.clock.Ok) (r : Received) : (s.receive r).clock.Ok := by
  obtain ⟨bs, hbs⟩ := receive_clock (s := s) r
  exact hbs ▸ h.broadcasts bs

end State

end Sys2Proof.Machine

namespace Sys2Proof

open Machine

/-- The commands that may change the clock: those of the clock itself, the cold reset, and the frames, which may bring a
broadcast CLOCK SET. -/
def Instr.reachesClock : Instr → Bool
  | .coldReset .. | .operatingSecondAdvance | .rollover | .clockSet .. => true
  | .requestFrame .. | .broadcast .. | .abortFrame | .frameDiscarded .. | .broadcastAbort => true
  | _ => false

/-- Every other command leaves the clock as it is. -/
theorem exec_clock {i : Instr} (hi : i.reachesClock = false) {s t : State} (h : exec i s = .next t) :
    t.clock = s.clock := by
  cases i <;> injection h with h <;> subst h
  case coldReset | operatingSecondAdvance | rollover | clockSet | requestFrame | broadcast | abortFrame | frameDiscarded
      | broadcastAbort => simp [Instr.reachesClock] at hi
  case warmReset | ignoredWrite => rfl
  -- one shared operation, of which a frame lemma speaks
  case intervalClose | presence | presentation | request | outputTaken | abort | errorClear | outputWindow | frameSent => simp
  -- the same, where the event can occur
  case readerSilence | passageWindowExpiry | passingLimitExpiry | missWaitExpiry | toneEnd | lampBlink | beamSettle | beamBreak
      | beamRestore | lapseTimerExpiry | shortTransfer | badCommandByte | collectionVoid | lineDropAtLanes
      | discardedReaderMessage | pacingStart | pacingEnd | tallyEvent | missNoticeRemoval => split <;> simp
  -- requests that are no table requests
  case clockRead | holdListRead | linkStatus | readyCheck | profileRead | conditionRead | markWarm => split <;> simp
  case laneOpen | laneClose | laneReset | laneStatus | tallyProgram | tallyRead | tallyClear | historyRead | profileSet
      | watchSet => (repeat' split) <;> simp
  -- claims of lanes, of the settlement unit and of the table engine itself
  case commitClaim l =>
    split
    · exact State.endingClaim_clock (by simp)
    · rfl
  case withdrawClaim l =>
    split
    · exact State.endingClaim_clock (by simp)
    · rfl
  case decisionClaim | lapseClaim | sweepStep | clearStep => (repeat' split) <;> simp
  -- table requests, which act at their turn
  case passInsert | passRead | passDrop | tableSize | tableClear | revokeRead | refundHold | usageCollect | usageConfirm =>
    split
    · refine State.tableClaim_clock ?_
      (repeat' split) <;> simp
    · rfl
  case revokeLoad =>
    split
    · split
      · exact State.tableClaim_clock (by simp)
      · rfl
    · (repeat' split) <;> simp
  case refundSettle | refundRelease =>
    split
    · refine State.tableClaim_clock ?_
      (repeat' split) <;> simp [State.heldByMe_clock]
    · rfl
  case passFind | dayMerge =>
    split
    · refine State.tableBegin_clock ?_
      (repeat' split) <;> simp
    · rfl
  case passFindStep | dayMergeEntry => 
    dsimp only
    (repeat' split) <;> simp
  -- the decoder and the station port
  case noticePlacement => (repeat' split) <;> simp
  case requestWindow => dsimp only; (repeat' split) <;> simp
  -- events at the line control machine
  case startTimerExpiry | fadeTimerExpiry | dropShortExpiry | dropLongExpiry => split <;> simp [State.lineEvent_frame]
  case lineReady | carrier | clearToSend =>
    dsimp only
    (repeat' split) <;> simp [State.lineEvent_frame]
  case linkOpen | linkClose => (repeat' split) <;> simp [State.lineEvent_frame]

theorem exec_clockOk {i : Instr} {s t : State} (hs : s.clock.Ok) (h : exec i s = .next t) : t.clock.Ok := by
  cases hi : i.reachesClock with
  | false => exact exec_clock hi h ▸ hs
  | true =>
    cases i with
    | clockSet src => exact execClockSet_ok hs h
    | coldReset =>
      injection h with h
      exact h ▸ Clock.initial_ok
    | operatingSecondAdvance =>
      injection h with h
      subst h
      split
      · rename_i hdue
        exact State.advanceSecond_ok hs hdue.1 hdue.2
      · exact hs
    | rollover =>
      injection h with h
      subst h
      split
      · exact State.rollOver_ok hs
      · exact hs
    | requestFrame | broadcast | abortFrame | frameDiscarded | broadcastAbort =>
      injection h with h
      exact h ▸ State.receive_ok hs _
    | _ => simp [Instr.reachesClock] at hi

/-- Settles O51: the moves of the clock each keep its ranges, and no other command reaches it. -/
theorem clockStaysInRange : Obligations.ClockStaysInRange := by
  intro s t hs h
  unfold step at h
  split at h
  · injection h with h
    exact h ▸ tick_ok hs
  · rename_i rest _
    exact exec_clockOk (s := { s with pending := rest }) hs h

end Sys2Proof

/-! ## The interval at its close

What a close, an advance and a rollover make of the tally unit, and what they tell the lanes (R154 to R162). -/

namespace Sys2Proof

open Machine Claims

/-! ### The next boundary -/

theorem Machine.nextBoundary_eq_second_iff {len ref n : Nat} :
    nextBoundary len ref = .second n ↔ n = (ref / len + 1) * len ∧ n < 86400 := by
  unfold nextBoundary
  dsimp only
  split
  · simp only [reduceCtorEq, false_iff]
    omega
  · simp only [Boundary.second.injEq]
    omega

theorem Machine.nextBoundary_eq_rollover_iff {len ref : Nat} :
    nextBoundary len ref = .rollover ↔ 86400 ≤ (ref / len + 1) * len := by
  unfold nextBoundary
  dsimp only
  split <;> simp [*]

theorem Machine.nextBoundary_second {len ref n : Nat} (hlen : 0 < len) (h : nextBoundary len ref = .second n) : ref < n := by
  rw [(nextBoundary_eq_second_iff.1 h).1]
  exact Nat.lt_mul_of_div_lt (Nat.lt_succ_self _) hlen

/-- No multiple above the reference lies below the one that the next boundary is (R156). -/
theorem Machine.nextMultiple_le {len ref m : Nat} (hlen : 0 < len) (hm : ref < m) (hdvd : len ∣ m) :
    (ref / len + 1) * len ≤ m := by
  obtain ⟨k, rfl⟩ := hdvd
  rw [Nat.mul_comm len k] at hm ⊢
  exact Nat.mul_le_mul_right _ ((Nat.div_lt_iff_lt_mul hlen).2 hm)

theorem boundaryFrom_rebound (minutes ref : Nat) (v : Tally) : BoundaryFrom minutes ref (v.rebound minutes ref) := by
  refine ⟨rfl, fun hminutes => ⟨fun n hn => ?_, fun hroll m hm hdvd => ?_⟩⟩
  · have hlen : 0 < minutes * 60 := by omega
    obtain ⟨heq, hbound⟩ := nextBoundary_eq_second_iff.1 hn
    exact ⟨nextBoundary_second hlen hn, hbound, heq ▸ Nat.dvd_mul_left .., fun m hm hdvd => heq ▸ nextMultiple_le hlen hm hdvd⟩
  · exact (nextBoundary_eq_rollover_iff.1 hroll).trans (nextMultiple_le (by omega) hm hdvd)

/-! ### The record and the counters -/

theorem Machine.Tally.append_counters (r : IntervalRecord) (v : Tally) : (v.append r).counters = v.counters := by
  unfold append; split <;> rfl

theorem Machine.Tally.append_phaseOpen (r : IntervalRecord) (v : Tally) : (v.append r).phaseOpen = v.phaseOpen := by
  unfold append; split <;> rfl

theorem Machine.Tally.append_inbox (r : IntervalRecord) (v : Tally) : (v.append r).inbox = v.inbox := by
  unfold append; split <;> rfl

theorem Machine.Tally.append_of_room {r : IntervalRecord} {v : Tally} (h : v.ring.length < 96) :
    v.append r = { v with ring := v.ring ++ [r] } := by
  simp [append, h]

theorem Machine.Tally.append_of_full {r : IntervalRecord} {v : Tally} (h : 96 ≤ v.ring.length) :
    v.append r = { v with
      ring := v.ring.tail ++ [r], stationCursor := v.stationCursor - 1, officeCursor := v.officeCursor - 1 } := by
  simp [append, Nat.not_lt.2 h]

/-- A close of the interval with these seconds lived. -/
theorem intervalClosed_close (minutes : Nat) (at_ : Stamp) (lived : Nat) (v : Tally) :
    IntervalClosed at_ lived v (({ v with lived := lived } : Tally).close minutes at_) := by
  refine ⟨fun h => ?_, fun h => ?_, fun k => ?_, rfl, Tally.append_phaseOpen .., Tally.append_inbox ..⟩
  · have hroom := Tally.append_of_room (r := madeRecord at_ lived v) (v := { v with lived := lived }) h
    exact ⟨(congrArg Tally.ring hroom :), (congrArg Tally.stationCursor hroom :), (congrArg Tally.officeCursor hroom :)⟩
  · have hfull := Tally.append_of_full (r := madeRecord at_ lived v) (v := { v with lived := lived }) h
    exact ⟨(congrArg Tally.ring hfull :), (congrArg Tally.stationCursor hfull :), (congrArg Tally.officeCursor hfull :)⟩
  · simp only [Tally.close, Tally.rebound, Tally.append_counters, Fin.getElem_fin, Vector.getElem_map]
    rfl

/-- The close of a rollover counts the second that it ends (R157, R158). -/
theorem intervalClosed_live_close (minutes : Nat) (at_ : Stamp) (v : Tally) :
    IntervalClosed at_ (livedOn v.lived) v (v.live.close minutes at_) := intervalClosed_close ..

theorem boundaryFrom_close (minutes : Nat) (at_ : Stamp) (v : Tally) :
    BoundaryFrom minutes at_.second (v.close minutes at_) := boundaryFrom_rebound ..

/-! ### What the lanes are told -/

theorem Machine.pacingReport_eq (before after : Bool) :
    pacingReport before after = if after = before then [] else if after then [.start] else [.stop] := by
  cases before <;> cases after <;> rfl

/-- A lane after the tally unit has taken a new condition (R154). -/
theorem Machine.State.laneAt_setTally (v : Tally) (s : State) (l : LaneNo) :
    (s.setTally v).laneAt l = if s.lanePresent l then
        { s.laneAt l with pacing := (s.laneAt l).pacing ++ pacingReport (s.tally.paces l) (v.paces l) }
      else s.laneAt l := by
  simp [State.setTally, State.laneAt]

theorem pacingTold_setTally (s : State) (v : Tally) : PacingTold s (s.setTally v) := by
  refine ⟨fun l => State.setTally_laneAt v s l, fun l hl => ?_, fun l hl => ?_, rfl, rfl⟩
  · rw [State.laneAt_setTally, if_pos hl, pacingReport_eq]
    rfl
  · rw [State.laneAt_setTally, if_neg (by simp [hl])]

/-! ### A close that is due -/

namespace Machine.State

variable {s : State}

theorem closeDue_iff : s.closeDue = true ↔ s.tally.phaseOpen = true ∧ s.tally.boundary = .second s.clock.second := by
  simp [closeDue]

theorem settleClose_of_due (h : s.closeDue = true) : s.settleClose = s.closeInterval := by simp [settleClose, h]

theorem settleClose_of_not_due (h : s.closeDue = false) : s.settleClose = s := by simp [settleClose, h]

/-- A close puts the next boundary above the second that it closes at (R156). -/
theorem settleClose_closeDue (hinterval : 1 ≤ s.decoder.profile.tallyInterval) : s.settleClose.closeDue = false := by
  cases hdue : s.closeDue with
  | false => rwa [settleClose_of_not_due hdue]
  | true =>
    rw [settleClose_of_due hdue, ← Bool.not_eq_true, closeDue_iff]
    rintro ⟨-, hnext⟩
    exact absurd (nextBoundary_second (ref := s.clock.second) (by omega) hnext) (lt_irrefl _)

theorem settleClose_settleClose (hinterval : 1 ≤ s.decoder.profile.tallyInterval) :
    s.settleClose.settleClose = s.settleClose :=
  settleClose_of_not_due (settleClose_closeDue hinterval)

/-- A close does not read the timebase. -/
theorem finishSecond_settleClose (s : State) : s.settleClose.finishSecond = s.finishSecond.settleClose := by
  cases hdue : s.closeDue with
  | false => rw [settleClose_of_not_due hdue, settleClose_of_not_due (s := s.finishSecond) hdue]
  | true =>
    rw [settleClose_of_due hdue, settleClose_of_due (s := s.finishSecond) hdue]
    rfl

theorem advanceSecond_settleClose (hinterval : 1 ≤ s.decoder.profile.tallyInterval) :
    s.settleClose.finishSecond.advanceSecond = s.finishSecond.advanceSecond := by
  rw [finishSecond_settleClose]
  unfold advanceSecond
  rw [settleClose_settleClose (s := s.finishSecond) hinterval]

theorem rollOver_settleClose (hinterval : 1 ≤ s.decoder.profile.tallyInterval) :
    s.settleClose.finishSecond.rollOver = s.finishSecond.rollOver := by
  rw [finishSecond_settleClose]
  unfold rollOver
  rw [settleClose_settleClose (s := s.finishSecond) hinterval]

/-! ### The commands of the clock where they can occur -/

theorem operatingSecondAdvance_eq (hset : s.clock.state ≠ .unset) (hroom : s.clock.second < 86399) :
    exec .operatingSecondAdvance s = .next s.finishSecond.advanceSecond := by
  simp [exec, execOperatingSecondAdvance, hset, hroom]

theorem rollover_eq (hset : s.clock.state ≠ .unset) (hlast : 86399 ≤ s.clock.second) :
    exec .rollover s = .next s.finishSecond.rollOver := by
  simp [exec, execRollover, hset, hlast]

/-- An advance with no close due (R31, R157). -/
theorem advanceSecond_of_not_due (h : s.closeDue = false) (hbase : s.clock.timebase + (1000 - s.clock.phase) < 2 ^ 40) :
    s.finishSecond.advanceSecond = { s with
      clock := { s.clock with
        second := s.clock.second + 1, phase := 0, timebase := s.clock.timebase + (1000 - s.clock.phase) },
      tally := { s.tally with lived := if s.tally.phaseOpen then livedOn s.tally.lived else s.tally.lived } } := by
  unfold advanceSecond
  rw [settleClose_of_not_due (s := s.finishSecond) h]
  have hclock := advanceTimebase_of_lt hbase
  by_cases hopen : s.tally.phaseOpen = true
  · simp [finishSecond, updClock, updTally, hopen, hclock, Tally.live, nextCount32, livedOn]
  · simp only [finishSecond, updClock, if_neg hopen, hclock]

/-- A rollover that finds no close due and no interval OPEN (R32). -/
theorem rollOver_of_idle (h : s.closeDue = false) (hopen : s.tally.phaseOpen = false) :
    s.finishSecond.rollOver = s.finishSecond.updClock Clock.roll := by
  unfold rollOver
  rw [settleClose_of_not_due (s := s.finishSecond) h]
  simp [hopen]

/-- A rollover that finds the interval OPEN and no close due (R32, R158). -/
theorem rollOver_of_open (h : s.closeDue = false) (hopen : s.tally.phaseOpen = true) :
    s.finishSecond.rollOver = (s.finishSecond.updClock Clock.roll).setTally
      (s.tally.live.close s.decoder.profile.tallyInterval (s.finishSecond.updClock Clock.roll).stamp) := by
  unfold rollOver
  rw [settleClose_of_not_due (s := s.finishSecond) h]
  simp [hopen]

/-- A lane that twice changes only the pacing reports it waits to take. -/
theorem pacing_trans {a b c : Lane} (hab : { b with pacing := a.pacing } = a) (hbc : { c with pacing := b.pacing } = b) :
    { c with pacing := a.pacing } = a :=
  (congrArg (fun x : Lane => { x with pacing := a.pacing }) hbc).trans hab

theorem settleClose_laneAt (s : State) (l : LaneNo) :
    { s.settleClose.laneAt l with pacing := (s.laneAt l).pacing } = s.laneAt l := by
  unfold settleClose
  split
  · exact setTally_laneAt ..
  · rfl

theorem rollOver_laneAt (s : State) (l : LaneNo) :
    { s.rollOver.laneAt l with pacing := (s.laneAt l).pacing } = s.laneAt l := by
  unfold rollOver
  dsimp only
  split
  · exact pacing_trans (settleClose_laneAt s l) (setTally_laneAt _ (s.settleClose.updClock Clock.roll) l)
  · exact settleClose_laneAt s l

end Machine.State

/-- Settles O8: a close that is due does not read the timebase, so it may as well come first. -/
theorem operatingSecondAdvances : Obligations.OperatingSecondAdvances := by
  intro s hset hroom
  refine ⟨fun hphase hbase hdue => ?_, fun hdue hinterval => ?_, State.closeDue_iff⟩
  · rw [State.operatingSecondAdvance_eq hset hroom, State.advanceSecond_of_not_due hdue (by omega)]
  · refine ⟨s.settleClose, rfl, State.settleClose_closeDue hinterval, ?_⟩
    rw [State.operatingSecondAdvance_eq hset hroom, State.operatingSecondAdvance_eq (by simpa) (by simpa),
      State.advanceSecond_settleClose hinterval]

/-! ### Rollover and CLOCK SET -/

/-- The day after a rollover, as the statements name it (R32). -/
theorem roll_day {c : Clock} (h : c.state ≠ .unset) : c.roll.day = dayAfter c := by
  cases hstate : c.state with
  | unset => exact absurd hstate h
  | running => simp [Clock.roll_running hstate, dayAfter, hstate]
  | ended =>
    simp only [Clock.roll_ended hstate, dayAfter, hstate, true_and]
    split <;> split <;> omega

/-- Settles O9, by the clock state, and by whether a close is due and the interval OPEN. -/
theorem rolloverEndsTheDay : Obligations.RolloverEndsTheDay := by
  intro s hset hlast
  have hclock : s.finishSecond.rollOver.clock = s.finishSecond.clock.roll := State.rollOver_clock _
  obtain ⟨hsecond, hphase, hlastDay, -⟩ := Clock.roll_frame s.finishSecond.clock
  have hrunning := Clock.roll_running (c := s.finishSecond.clock)
  have hended := Clock.roll_ended (c := s.finishSecond.clock)
  refine ⟨s.finishSecond.rollOver, State.rollover_eq hset hlast, hclock ▸ hsecond, hclock ▸ hphase, hclock ▸ hlastDay,
    fun hstate hday => ?_, fun hstate hday => ?_, fun hstate hday => ?_, fun hstate hday => ?_, by simp, by simp, by simp,
    by simp, by simp, State.rollOver_laneAt s.finishSecond, fun hopen hdue => ?_, fun hopen hdue => ?_,
    fun _ hinterval => ⟨s.settleClose, rfl, State.settleClose_closeDue hinterval, ?_⟩⟩
  · rw [hclock, hrunning hstate]
    exact ⟨rfl, if_pos hday⟩
  · rw [hclock, hrunning hstate]
    exact ⟨rfl, if_neg (Nat.lt_irrefl _ <| hday ▸ ·)⟩
  · rw [hclock, hended hstate]
    exact ⟨if_pos hday, hstate⟩
  · rw [hclock, hended hstate]
    exact ⟨(if_neg (by simp [State.finishSecond_clock, advanceTimebase, hday])).trans hday, hstate⟩
  · rw [State.rollOver_of_idle hdue hopen]
    exact ⟨rfl, rfl⟩
  · rw [State.rollOver_of_open hdue hopen]
    refine ⟨pacingTold_setTally (s.finishSecond.updClock Clock.roll) _, ?_, ?_⟩
    · have hstamp : (s.finishSecond.updClock Clock.roll).stamp = { day := s.finishSecond.clock.roll.day, second := 0 } :=
        congrArg (Stamp.mk _) hsecond
      rw [hstamp]
      exact intervalClosed_live_close ..
    · have href : (s.finishSecond.updClock Clock.roll).stamp.second = 0 := hsecond
      rw [← href]
      exact boundaryFrom_close ..
  · rw [State.rollover_eq (by simpa) (by simpa), State.rollOver_settleClose hinterval]

/-- What the tally unit and the lanes make of an accepted CLOCK SET (R35, R159). -/
theorem tallyTold_applyClockSet (a : ClockSetArgs) (s : State) : TallyTold a s (s.applyClockSet a) := by
  refine ⟨fun hunset => ?_, fun hset hday => ?_, fun hset hday => ?_⟩
  · simp only [State.applyClockSet, if_pos hunset]
    exact ⟨rfl, boundaryFrom_rebound .., rfl⟩
  · simp only [State.applyClockSet, if_neg hset, if_pos hday]
    exact ⟨rfl, boundaryFrom_rebound .., rfl⟩
  · simp only [State.applyClockSet, if_neg hset, if_neg hday]
    refine ⟨boundaryFrom_rebound .., fun hopen => ?_⟩
    have hrolled : (s.updClock Clock.roll).tally.phaseOpen = true := hopen
    have hstamp : (s.updClock Clock.roll).stamp = { day := dayAfter s.clock, second := 0 } := by
      rw [← roll_day hset, ← (Clock.roll_frame s.clock).1]
      rfl
    rw [if_pos hrolled, hstamp]
    exact ⟨pacingTold_setTally (s.updClock Clock.roll) _, intervalClosed_live_close s.decoder.profile.tallyInterval _ _⟩

/-- What is told does not depend on the broadcasts that wait. -/
theorem Claims.TallyTold.of_broadcasts {a : ClockSetArgs} {rest : List ClockSetArgs} {s u : State}
    (h : TallyTold a (s.updClock fun c => { c with broadcasts := rest }) u) : TallyTold a s u := h

/-- Settles O11, by the source and by whether the tests pass. -/
theorem clockSetTakesTheGivenValues : Obligations.ClockSetTakesTheGivenValues := by
  refine ⟨fun o a s hw => ⟨fun ho hup => ?_, fun hdown => ⟨fun off hoff => ?_, fun hok => ?_⟩⟩,
    fun a rest s hbs => ⟨fun off hoff => ?_, fun hok => ?_⟩, fun c a => rfl⟩
  · simp only [exec, execClockSet, hw, if_pos (And.intro ho hup)]
  · have hmay : ¬ (o = .station ∧ s.link.state = .up) := fun h => hdown h.1 h.2
    simp only [exec, execClockSet, hw, if_neg hmay, hoff]
  · have hmay : ¬ (o = .station ∧ s.link.state = .up) := fun h => hdown h.1 h.2
    have hrun : exec (.clockSet (.own o)) s = .next ((s.applyClockSet a).complete o (s.applyClockSet a).clock.image) := by
      simp only [exec, execClockSet, hw, if_neg hmay, hok]
    exact ⟨s.applyClockSet a, hrun, State.applyClockSet_clock s a, by simp, by simp, by simp, by simp, by simp,
      tallyTold_applyClockSet a s⟩
  · have hbad : checkClockSet { s.clock with broadcasts := rest } a = some off := hoff
    simp [exec, execClockSet, hbs, hbad, State.updClock]
  · have hgood : checkClockSet { s.clock with broadcasts := rest } a = none := hok
    have hrun : exec (.clockSet .broadcast) s
        = .next ((s.updClock fun c => { c with broadcasts := rest }).applyClockSet a) := by
      simp [exec, execClockSet, hbs, hgood]
    obtain ⟨htable, hsettle, hdecoder, hport, hlink, -⟩ :=
      State.applyClockSet_frame (s.updClock fun c => { c with broadcasts := rest }) a
    exact ⟨_, hrun, hdecoder, hport, hlink, htable, hsettle, (tallyTold_applyClockSet a _).of_broadcasts,
      State.applyClockSet_clock _ a⟩

/-! ### The millisecond, and the cold reset -/

/-- A second that is full of milliseconds passes into the next, within the day or into a new one (R31, R32). -/
theorem Machine.tick_of_full {s : State} (hset : s.clock.state ≠ .unset) (hfull : s.clock.phase = 999) :
    tick s = if s.clock.second < 86399 then s.finishSecond.advanceSecond else s.finishSecond.rollOver := by
  simp [tick, hset, hfull]

/-- Settles O2, by the clock state and by whether the second is full. -/
theorem idleStepPassesOneMillisecond : Obligations.IdleStepPassesOneMillisecond := by
  intro s hidle hbase hphase
  have hunset (h : s.clock.state = .unset) :
      tick s = { s with clock := { s.clock with timebase := s.clock.timebase + 1 } } := by
    simp [tick, h, State.updClock, advanceTimebase_of_lt hbase]
  have hwithin (h : s.clock.state ≠ .unset) (hroom : s.clock.phase < 999) :
      tick s = { s with clock := { s.clock with timebase := s.clock.timebase + 1, phase := s.clock.phase + 1 } } := by
    simp only [tick, if_neg h, if_pos hroom, State.updClock, advanceTimebase, if_pos hbase]
  have hnext (h : s.clock.state ≠ .unset) (hfull : s.clock.phase = 999) : (tick s).clock.timebase = s.clock.timebase + 1
      ∧ (tick s).clock.phase = 0 ∧ (tick s).clock.second = if s.clock.second < 86399 then s.clock.second + 1 else 0 := by
    have hfinish : s.finishSecond.clock = { s.clock with timebase := s.clock.timebase + 1 } := by
      rw [State.finishSecond_clock, hfull, advanceTimebase_of_lt hbase]
    rw [tick_of_full h hfull]
    split
    · simp [State.advanceSecond_clock, hfinish]
    · obtain ⟨hs, hp, -, hb⟩ := Clock.roll_frame s.finishSecond.clock
      rw [State.rollOver_clock, hs, hp, hb, hfinish]
      exact ⟨rfl, rfl, rfl⟩
  refine ⟨tick s, by simp [step, hidle], ?_, hunset, hwithin, fun h hfull => (hnext h hfull).2⟩
  by_cases h : s.clock.state = .unset
  · rw [hunset h]
  · rcases Nat.lt_or_eq_of_le hphase with hroom | hfull
    · rw [hwithin h hroom]
    · exact (hnext h hfull).1

/-- A lane that a cold reset leaves, present or absent (R43, R67). -/
theorem Machine.State.laneAt_afterColdReset (eight spi ready carrier clear : Bool) (pending : List Instr) (l : LaneNo) :
    (State.afterColdReset eight spi ready carrier clear pending).laneAt l
      = if (State.afterColdReset eight spi ready carrier clear pending).lanePresent l then Lane.initial 0 false
        else Lane.absent := by
  simp [State.afterColdReset, State.laneAt, LaneController.initial, State.lanePresent, Port.initial]

/-- Settles O6. Beside the lanes, only values held once for each lane, counter or origin need an argument. -/
theorem coldResetValues : Obligations.ColdResetValues := by
  refine ⟨fun eight spi s => ⟨_, rfl, rfl, rfl, rfl, rfl, rfl, rfl, fun l hl => ?_, fun l => rfl, rfl, fun l => ?_, ?_⟩, rfl⟩
  · rw [State.laneAt_afterColdReset, if_pos hl]
    simp [Lane.initial]
  · unfold State.lampsAt
    split
    · rename_i hl
      rw [State.laneAt_afterColdReset, if_pos hl, hl]
      rfl
    · rename_i hl
      simp [hl]
  · have hcounters : ∀ c ∈ Tally.initial.counters.toList, c = Counter.zeroed .disabled := by simp [Tally.initial]
    have hpaces (l : LaneNo) : Tally.initial.paces l = false := by
      simp [Tally.initial, Tally.paces, Counter.zeroed, Counter.enabled, Program.disabled]
    have hpolicy (l : LaneNo) : Profile.initial.readPolicy[l] = .lenient := by simp [Profile.initial]
    have hclasses (l : LaneNo) : Profile.initial.laneClasses[l] = 0xF := by simp [Profile.initial]
    have hcontext (o : Origin) : (Decoder.initial.context o).inFlight = none ∧ (Decoder.initial.context o).condition = none
        ∧ (Decoder.initial.context o).watch = { lanes := 0, counters := 0, link := false } := by
      cases o <;> exact ⟨rfl, rfl, rfl⟩
    exact ⟨rfl, rfl, rfl, rfl, rfl, hcounters, rfl, rfl, rfl, rfl, rfl, rfl, rfl, hpaces, rfl, rfl, rfl, rfl, rfl, rfl, rfl,
      hpolicy, hclasses, rfl, rfl, rfl, rfl, hcontext, rfl, rfl, rfl, rfl, rfl, rfl, rfl, rfl, rfl, rfl, rfl, rfl, rfl, rfl,
      rfl, rfl, rfl, rfl, rfl, rfl, rfl, rfl, rfl, rfl, rfl⟩

end Sys2Proof

/-! ## A lane's items and its state

What each event of a lane keeps of the agreement of its items with its state (R47, R48, R55 to R57, R80, R82). -/

namespace Sys2Proof.Machine

/-- A lane that holds what it may hold outside an admission and a miss: no record, no timer of either, the gate held, no
ending. -/
def Lane.Unoccupied (ln : Lane) : Prop :=
  ln.admission = none ∧ ln.miss = none ∧ ln.gate = false ∧ ln.ending = .none ∧ ln.window = none ∧ ln.limit = none
    ∧ ln.missWait = none

/-- The next slot is filled only behind the current one (R52, R53). -/
def Lane.SlotsInOrder (ln : Lane) : Prop := ln.next.isSome = true → ln.current.isSome = true

theorem Lane.Ok.slots {ln : Lane} (h : ln.Ok) : ln.SlotsInOrder := by
  obtain ⟨-, -, -, -, -, -, -, -, hslots⟩ := h
  exact hslots

/-- A lane without admission has none of an admission's items (R48, R80). -/
theorem Lane.Ok.no_admission {ln : Lane} (h : ln.Ok) (hs : ln.state.holdsAdmission = false) :
    ln.admission = none ∧ ln.gate = false ∧ ln.ending = .none ∧ ln.window = none ∧ ln.limit = none := by
  obtain ⟨hadmission, -, hgate, hending, hwindow, hlimit, -⟩ := h
  have hnone : ln.admission = none := by
    rw [hs] at hadmission
    simpa using hadmission
  refine ⟨hnone, ?_, ?_, ?_, ?_⟩
  · cases hg : ln.gate
    · rfl
    · simpa [hs] using hgate hg
  · by_contra he
    simpa [hs] using hending he
  · simpa [hnone, Option.eq_none_iff_forall_ne_some] using hwindow
  · simpa [hnone, Option.eq_none_iff_forall_ne_some] using hlimit

/-- A lane that does not wait has no item of a miss (R82). -/
theorem Lane.Ok.no_miss {ln : Lane} (h : ln.Ok) (hs : ln.state ≠ .waiting) : ln.miss = none ∧ ln.missWait = none := by
  obtain ⟨-, hmiss, -, -, -, -, hwait, -⟩ := h
  refine ⟨?_, ?_⟩
  · simpa [hs] using hmiss
  · simpa [hs, Option.eq_none_iff_forall_ne_some] using hwait

theorem Lane.Ok.unoccupied {ln : Lane} (h : ln.Ok) (hs : ln.state.holdsAdmission = false) (hw : ln.state ≠ .waiting) :
    ln.Unoccupied := by
  obtain ⟨hadmission, hgate, hending, hwindow, hlimit⟩ := h.no_admission hs
  obtain ⟨hmiss, hwait⟩ := h.no_miss hw
  exact ⟨hadmission, hmiss, hgate, hending, hwindow, hlimit, hwait⟩

theorem Lane.Unoccupied.ok {ln : Lane} (h : ln.Unoccupied) (hs : ln.state.holdsAdmission = false)
    (hw : ln.state ≠ .waiting) (hslots : ln.SlotsInOrder) (hdeciding : ln.state = .deciding → ln.current.isSome = true) :
    ln.Ok := by
  obtain ⟨hadmission, hmiss, hgate, hending, hwindow, hlimit, hwait⟩ := h
  simp [Lane.Ok, hadmission, hmiss, hgate, hending, hwindow, hlimit, hwait, hs, hw]
  exact ⟨hdeciding, by simpa [Lane.SlotsInOrder] using hslots⟩

theorem Lane.Ok.holds_of_admission {ln : Lane} (h : ln.Ok) {a : Admission} (ha : ln.admission = some a) :
    ln.state.holdsAdmission = true := by
  obtain ⟨hadmission, -⟩ := h
  exact hadmission.1 (by simp [ha])

theorem Lane.Ok.admission_of_holds {ln : Lane} (h : ln.Ok) (hs : ln.state.holdsAdmission = true) :
    ∃ a, ln.admission = some a := by
  obtain ⟨hadmission, -⟩ := h
  exact Option.isSome_iff_exists.1 (hadmission.2 hs)

/-- The passage window runs only before the rider has entered (R55). -/
theorem Lane.Ok.released_of_window {ln : Lane} (h : ln.Ok) {d : Nat} (hd : ln.window = some d) :
    ∃ a, ln.admission = some a ∧ a.phase = .released := by
  obtain ⟨-, -, -, -, hwindow, -⟩ := h
  simpa [Option.any_eq_true] using hwindow d hd

/-- The passing limit runs only once the rider has entered (R55, R56). -/
theorem Lane.Ok.passing_of_limit {ln : Lane} (h : ln.Ok) {d : Nat} (hd : ln.limit = some d) :
    ∃ a, ln.admission = some a ∧ a.phase = .passing := by
  obtain ⟨-, -, -, -, -, hlimit, -⟩ := h
  simpa [Option.any_eq_true] using hlimit d hd

theorem Lane.Ok.limit_of_released {ln : Lane} (h : ln.Ok) {a : Admission} (ha : ln.admission = some a)
    (hp : a.phase = .released) : ln.limit = none := by
  refine Option.eq_none_iff_forall_ne_some.2 fun d hd => ?_
  obtain ⟨b, hb, hb'⟩ := h.passing_of_limit hd
  simp_all

theorem Lane.Ok.window_of_passing {ln : Lane} (h : ln.Ok) {a : Admission} (ha : ln.admission = some a)
    (hp : a.phase = .passing) : ln.window = none := by
  refine Option.eq_none_iff_forall_ne_some.2 fun d hd => ?_
  obtain ⟨b, hb, hb'⟩ := h.released_of_window hd
  simp_all

theorem LaneState.holdsAdmission_iff {st : LaneState} :
    st.holdsAdmission = true ↔ st = .released ∨ st = .passing ∨ st = .closing := by
  cases st <;> simp [LaneState.holdsAdmission]

theorem LaneState.not_holdsAdmission_iff {st : LaneState} : st.holdsAdmission = false ↔
    (st = .closed ∨ st = .fault) ∨ st = .ready ∨ st = .deciding ∨ st = .waiting ∨ st = .paused := by
  cases st <;> simp [LaneState.holdsAdmission]

theorem Admission.released_or_passing (a : Admission) : a.phase = .released ∨ a.phase = .passing := by
  cases a.phase <;> simp

/-- The miss of a waiting lane goes (R83). -/
theorem Lane.Ok.unoccupied_endMiss {r : LaneRun} (h : r.lane.Ok) (hs : r.lane.state.holdsAdmission = false) (env : LaneEnv) :
    (r.endMiss env).lane.Unoccupied := by
  obtain ⟨hadmission, hgate, hending, hwindow, hlimit⟩ := h.no_admission hs
  exact ⟨hadmission, rfl, hgate, hending, hwindow, hlimit, rfl⟩

namespace LaneRun

variable {env : LaneEnv} {r : LaneRun}

/-! ### Slots -/

@[simp] theorem finishSlot_slots : r.finishSlot.lane.SlotsInOrder := nofun

/-- The lane whose slots are emptied keeps all but its slots and what its reader is sent (R59, R64). -/
theorem closeSlots_lane (env : LaneEnv) (r : LaneRun) : (r.closeSlots env).lane = { r.lane with
    current := none, next := none, readerOut := r.lane.readerOut
      ++ (r.lane.current.toList ++ r.lane.next.toList).map fun p => { pass := p.pass, kind := .closed } } := by
  cases hc : r.lane.current <;> cases hn : r.lane.next <;> simp [closeSlots, hc, hn, send, upd]

@[simp] theorem closeSlots_events (env : LaneEnv) (r : LaneRun) : (r.closeSlots env).events = r.events := by
  cases hc : r.lane.current <;> cases hn : r.lane.next <;> simp [closeSlots, hc, hn, send, upd]

@[simp] theorem closeSlots_msgs (env : LaneEnv) (r : LaneRun) : (r.closeSlots env).msgs = r.msgs := by
  cases hc : r.lane.current <;> cases hn : r.lane.next <;> simp [closeSlots, hc, hn, send, upd]

theorem unoccupied_closeSlots (h : r.lane.Unoccupied) : (r.closeSlots env).lane.Unoccupied := by
  rw [closeSlots_lane]
  exact h

/-! ### Changes that leave an unoccupied lane so -/

theorem unoccupied_send (h : r.lane.Unoccupied) (p : Nat) (k : VerdictKind) : (r.send env p k).lane.Unoccupied := h

theorem unoccupied_enter (h : r.lane.Unoccupied) (st : LaneState) : (r.enter env st).lane.Unoccupied := h

theorem unoccupied_finishSlot (h : r.lane.Unoccupied) : r.finishSlot.lane.Unoccupied := h

/-- The read check's notice changes of the lane only its condition (R54). -/
theorem notifyRead_lane (env : LaneEnv) (p : Presentation) (r : LaneRun) :
    ∃ c, (r.notifyRead env p).lane = { r.lane with condition := c } := by
  unfold notifyRead
  split
  · cases p.status <;> exact ⟨_, rfl⟩
  · exact ⟨_, rfl⟩

/-! ### Going on -/

/-- A lane in READY takes up what waits, and comes to READY or to DECIDING with a presentation (R53). -/
theorem ok_takeUp (n : Nat) (h : r.lane.Unoccupied) (hs : r.lane.state = .ready) (hslots : r.lane.SlotsInOrder) :
    (r.takeUp env n).lane.Ok := by
  have hready {r : LaneRun} (h : r.lane.Unoccupied) (hs : r.lane.state = .ready) (hslots : r.lane.SlotsInOrder) : r.lane.Ok :=
    h.ok (by simp [hs, LaneState.holdsAdmission]) (by simp [hs]) hslots (by simp [hs])
  induction n generalizing r with
  | zero => exact hready h hs hslots
  | succ n ih =>
    cases hc : r.lane.current with
    | none => simpa [takeUp, hs, hc] using hready h hs hslots
    | some p =>
      obtain ⟨c, hlane⟩ := notifyRead_lane env p r
      have hnoticed : (r.notifyRead env p).lane.Unoccupied := by
        rw [hlane]
        exact h
      have hstate : (r.notifyRead env p).lane.state = .ready := by rw [hlane, ← hs]
      have hrefused := unoccupied_send (env := env) hnoticed p.pass (.refuse .readFault)
      simp only [takeUp, hs, hc, if_true]
      split
      · refine (unoccupied_enter hnoticed .deciding).ok rfl nofun ?_ fun _ => ?_
        · simpa [enter, upd, Lane.SlotsInOrder, hlane] using hslots
        · simp [enter, upd, hlane, hc]
      · exact ih (unoccupied_finishSlot (unoccupied_send hnoticed _ _)) hstate finishSlot_slots
      · exact ih (unoccupied_finishSlot (r := hand _ _) hrefused) hstate finishSlot_slots

theorem ok_toReady (h : r.lane.Unoccupied) (hslots : r.lane.SlotsInOrder) : (r.toReady env).lane.Ok :=
  ok_takeUp 2 (unoccupied_enter h .ready) rfl hslots

theorem ok_toPaused (h : r.lane.Unoccupied) (hslots : r.lane.SlotsInOrder) : (r.toPaused env).lane.Ok := by
  have hpaused : (r.enter env .paused).lane.Ok := (unoccupied_enter h .paused).ok rfl nofun hslots nofun
  unfold toPaused
  dsimp only
  split <;> exact hpaused

/-- An unoccupied lane that goes on (R53, R57, R60, R61). -/
theorem ok_resume (h : r.lane.Unoccupied) (hslots : r.lane.SlotsInOrder) : (r.resume env).lane.Ok := by
  unfold resume
  split
  · exact ok_toPaused h hslots
  · exact ok_toReady h hslots

/-- A lane without admission that enters FAULT (R59). -/
theorem ok_toFault (cause : FaultMark) (ha : r.lane.admission = none) (he : r.lane.ending = .none)
    (hm : r.lane.state ≠ .waiting → r.lane.miss = none ∧ r.lane.missWait = none) : (r.toFault env cause).lane.Ok := by
  have hlane : (r.toFault env cause).lane.admission = none ∧ (r.toFault env cause).lane.ending = .none
      ∧ (r.toFault env cause).lane.miss = none ∧ (r.toFault env cause).lane.missWait = none := by
    unfold toFault enter upd
    dsimp only
    rw [closeSlots_lane]
    split
    · exact ⟨ha, he, rfl, rfl⟩
    · rename_i hs
      exact ⟨ha, he, hm hs⟩
  obtain ⟨hadmission, hending, hmiss, hwait⟩ := hlane
  exact Lane.Unoccupied.ok ⟨hadmission, hmiss, rfl, hending, rfl, rfl, hwait⟩ rfl nofun nofun nofun

theorem ok_toFault_of_ok (cause : FaultMark) (h : r.lane.Ok) (hs : r.lane.state.holdsAdmission = false) :
    (r.toFault env cause).lane.Ok := by
  obtain ⟨hadmission, -, hending, -⟩ := h.no_admission hs
  exact ok_toFault cause hadmission hending h.no_miss

/-! ### Misses -/

theorem ok_refuseMiss (h : r.lane.Ok) (before : List Event) : (r.refuseMiss env before).lane.Ok := by
  unfold refuseMiss
  split
  · exact h
  · rename_i m hm
    have hwaiting : r.lane.state = .waiting := h.2.1.1 (by simp [hm])
    have hfree := h.unoccupied_endMiss (by simp [hwaiting, LaneState.holdsAdmission]) env
    have hrefused := unoccupied_send (env := env) hfree m.pass (.refuse .notFound)
    exact ok_resume (unoccupied_finishSlot (r := { (_ : LaneRun) with events := _ }) hrefused) finishSlot_slots

/-- A miss that ends by insert (R84). -/
theorem ok_missInserted (h : r.lane.Ok) (hs : r.lane.state = .waiting) : (r.missInserted env).lane.Ok := by
  have hfree := h.unoccupied_endMiss (by simp [hs, LaneState.holdsAdmission]) env
  have hcurrent : r.lane.current.isSome = true := by
    obtain ⟨-, -, -, -, -, -, -, hcurrent, -⟩ := h
    exact hcurrent (.inr hs)
  unfold missInserted
  dsimp only
  split
  · exact ok_toPaused hfree h.slots
  · exact (unoccupied_enter hfree .deciding).ok rfl nofun h.slots fun _ => hcurrent

/-- A miss that begins at a lane in DECIDING (R81). -/
theorem ok_beginMiss (h : r.lane.Ok) (hs : r.lane.state = .deciding) (p : Nat) : (r.beginMiss env p).lane.Ok := by
  obtain ⟨hadmission, hmiss, hgate, hending, hwindow, hlimit, hwait⟩ :=
    h.unoccupied (by simp [hs, LaneState.holdsAdmission]) (by simp [hs])
  obtain ⟨-, -, -, -, -, -, -, hcurrent, hslots⟩ := h
  simp [beginMiss, hand, enter, upd, send, Lane.Ok, LaneState.holdsAdmission, hadmission, hgate, hending, hwindow, hlimit]
  exact ⟨hcurrent (.inl hs), by simpa using hslots⟩

/-! ### Decisions -/

theorem ok_refuseRider (h : r.lane.Ok) (hs : r.lane.state = .deciding) (p : Nat) (reason : Reason) :
    (r.refuseRider env p reason).lane.Ok :=
  have hfree := h.unoccupied (by simp [hs, LaneState.holdsAdmission]) (by simp [hs])
  ok_resume (unoccupied_finishSlot (unoccupied_send hfree _ _)) finishSlot_slots

theorem ok_admitRider (h : r.lane.Ok) (hs : r.lane.state = .deciding) (p day : Nat) (consume : Bool) (left : Option Nat)
    (rides : Nat) : (r.admitRider env p day consume left rides).lane.Ok := by
  obtain ⟨-, hmiss, -, hending, -, hlimit, hwait⟩ := h.unoccupied (by simp [hs, LaneState.holdsAdmission]) (by simp [hs])
  simp [admitRider, enter, finishSlot, upd, send, Lane.Ok, LaneState.holdsAdmission, hmiss, hending, hlimit, hwait]

/-! ### The passage -/

/-- An admission whose ending claim is taken (R57). -/
theorem ok_endAdmission (h : r.lane.Ok) (he : r.lane.ending ≠ .none) : (r.endAdmission env).lane.Ok := by
  obtain ⟨-, -, hgate, hending, -⟩ := id h
  obtain ⟨hstate, hwindow, hlimit⟩ := hending he
  have hheld : r.lane.gate = false := by
    cases hg : r.lane.gate
    · rfl
    · exact absurd (hgate hg).2 he
  have hnotwaiting : r.lane.state ≠ .waiting := fun hw => by simp [hw, LaneState.holdsAdmission] at hstate
  obtain ⟨hmiss, hwait⟩ := h.no_miss hnotwaiting
  have hfree : (r.upd fun ln => { ln with admission := none, ending := .none, exitSeen := false }).lane.Unoccupied :=
    ⟨rfl, hmiss, hheld, rfl, hwindow, hlimit, hwait⟩
  unfold endAdmission
  dsimp only
  split
  · exact ok_toFault _ rfl rfl fun _ => ⟨hmiss, hwait⟩
  · split
    · exact (unoccupied_enter hfree .closed).ok rfl nofun h.slots nofun
    · exact ok_resume hfree h.slots

/-- The fault mark is set beside an event (R55 to R57). -/
theorem ok_mark (h : r.lane.Ok) (k : EventKind) (m : FaultMark) : (r.mark env k m).lane.Ok := h

/-- The ending claim is submitted, the admission's timers stopped (R57). -/
theorem ok_submitEnding (h : r.lane.Ok) (hs : r.lane.state.holdsAdmission = true) (hw : r.lane.window = none)
    (hl : r.lane.limit = none) (e : Ending) : (r.submitEnding e).lane.Ok := by
  obtain ⟨hadmission, hmiss, -, -, hwindow, hlimit, hwait, hcurrent, hslots⟩ := h
  exact ⟨hadmission, hmiss, nofun, fun _ => ⟨hs, hw, hl⟩, hwindow, hlimit, hwait, hcurrent, hslots⟩

theorem ok_stopWindow (h : r.lane.Ok) : (r.upd fun ln => { ln with window := none }).lane.Ok := by
  obtain ⟨hadmission, hmiss, hgate, hending, -, hlimit, hwait, hcurrent, hslots⟩ := h
  exact ⟨hadmission, hmiss, hgate, fun he => ⟨(hending he).1, rfl, (hending he).2.2⟩, nofun, hlimit, hwait, hcurrent, hslots⟩

theorem ok_stopLimit (h : r.lane.Ok) : (r.upd fun ln => { ln with limit := none }).lane.Ok := by
  obtain ⟨hadmission, hmiss, hgate, hending, hwindow, -, hwait, hcurrent, hslots⟩ := h
  exact ⟨hadmission, hmiss, hgate, fun he => ⟨(hending he).1, (hending he).2.1, rfl⟩, hwindow, nofun, hwait, hcurrent, hslots⟩

/-- The passage window runs out (R55). -/
theorem ok_windowExpired (h : r.lane.Ok) {d : Nat} (hd : r.lane.window = some d) :
    ((r.upd fun ln => { ln with window := none }).submitEnding .withdraw).lane.Ok := by
  obtain ⟨a, ha, hp⟩ := h.released_of_window hd
  exact ok_submitEnding (ok_stopWindow h) (h.holds_of_admission ha) rfl (h.limit_of_released ha hp) _

/-- The passing limit runs out (R56). -/
theorem ok_limitExpired (h : r.lane.Ok) {d : Nat} (hd : r.lane.limit = some d) :
    (((r.upd fun ln => { ln with limit := none }).mark env .stuck .stuck).submitEnding .commit).lane.Ok := by
  obtain ⟨a, ha, hp⟩ := h.passing_of_limit hd
  exact ok_submitEnding (ok_mark (ok_stopLimit h) _ _) (h.holds_of_admission ha) (h.window_of_passing ha hp) rfl _

/-! ### Breaks and restores -/

section Breaks

variable (env : LaneEnv) {r : LaneRun}

theorem entryBreak_shut (h : r.lane.state = .closed ∨ r.lane.state = .fault) : r.entryBreak env = r := by
  rcases h with h | h <;> simp only [entryBreak, h]

theorem entryBreak_serving (h : r.lane.state = .ready ∨ r.lane.state = .deciding ∨ r.lane.state = .waiting ∨ r.lane.state = .paused) :
    r.entryBreak env = (r.hand (laneEvent .tailgate env.lane)).toFault env .tailgate := by
  rcases h with h | h | h | h <;> simp only [entryBreak, h]

theorem entryBreak_ending (h : r.lane.state.holdsAdmission = true) (he : r.lane.ending ≠ .none) :
    r.entryBreak env = r.mark env .tailgate .tailgate := by
  rcases LaneState.holdsAdmission_iff.1 h with h | h | h <;> simp only [entryBreak, h, if_pos he]

theorem entryBreak_released (h : r.lane.state.holdsAdmission = true) (he : r.lane.ending = .none) {a : Admission}
    (ha : r.lane.admission = some a) (hp : a.phase = .released) :
    r.entryBreak env = r.upd fun ln => { ln with
      window := none, admission := ln.admission.map fun a => { a with phase := .passing }, exitSeen := false,
      limit := some (env.now + env.limitMs), state := if ln.state = .closing then .closing else .passing } := by
  obtain ⟨pass, day, consume, release, phase⟩ := a
  obtain rfl : phase = .released := hp
  rcases LaneState.holdsAdmission_iff.1 h with h | h | h <;> simp [entryBreak, h, he, ha]

theorem entryBreak_passing (h : r.lane.state.holdsAdmission = true) {a : Admission} (ha : r.lane.admission = some a)
    (hp : a.phase = .passing) : r.entryBreak env = r.mark env .tailgate .tailgate := by
  obtain ⟨pass, day, consume, release, phase⟩ := a
  obtain rfl : phase = .passing := hp
  rcases LaneState.holdsAdmission_iff.1 h with h | h | h <;> simp [entryBreak, h, ha]

theorem exitBreak_shut (h : r.lane.state = .closed ∨ r.lane.state = .fault) : r.exitBreak env = r := by
  rcases h with h | h <;> simp only [exitBreak, h]

theorem exitBreak_serving (h : r.lane.state = .ready ∨ r.lane.state = .deciding ∨ r.lane.state = .waiting ∨ r.lane.state = .paused) :
    r.exitBreak env = (r.hand (laneEvent .reverse env.lane)).toFault env .reverse := by
  rcases h with h | h | h | h <;> simp only [exitBreak, h]

theorem exitBreak_ending (h : r.lane.state.holdsAdmission = true) (he : r.lane.ending ≠ .none) :
    r.exitBreak env = r.mark env .reverse .reverse := by
  rcases LaneState.holdsAdmission_iff.1 h with h | h | h <;> simp only [exitBreak, h, if_pos he]

theorem exitBreak_passing (h : r.lane.state.holdsAdmission = true) (he : r.lane.ending = .none) {a : Admission}
    (ha : r.lane.admission = some a) (hp : a.phase = .passing) :
    r.exitBreak env = r.upd fun ln => { ln with exitSeen := true } := by
  obtain ⟨pass, day, consume, release, phase⟩ := a
  obtain rfl : phase = .passing := hp
  rcases LaneState.holdsAdmission_iff.1 h with h | h | h <;> simp [exitBreak, h, he, ha]

theorem exitBreak_released (h : r.lane.state.holdsAdmission = true) (he : r.lane.ending = .none) {a : Admission}
    (ha : r.lane.admission = some a) (hp : a.phase = .released) :
    r.exitBreak env = ((r.mark env .reverse .reverse).upd fun ln => { ln with window := none }).submitEnding .withdraw := by
  obtain ⟨pass, day, consume, release, phase⟩ := a
  obtain rfl : phase = .released := hp
  rcases LaneState.holdsAdmission_iff.1 h with h | h | h <;> simp [exitBreak, h, he, ha]

/-- An exit restore ends a passage whose exit has been seen (R56). -/
theorem exitRestore_seen {a : Admission} (ha : r.lane.admission = some a) (hp : a.phase = .passing)
    (he : r.lane.ending = .none) (hseen : r.lane.exitSeen = true) :
    r.exitRestore = (r.upd fun ln => { ln with limit := none }).submitEnding .commit := by
  obtain ⟨pass, day, consume, release, phase⟩ := a
  obtain rfl : phase = .passing := hp
  simp [exitRestore, ha, he, hseen]

/-- Any other exit restore does nothing but the level (R56). -/
theorem exitRestore_other (h : r.lane.ending ≠ .none ∨ r.lane.exitSeen = false
    ∨ ∀ a, r.lane.admission = some a → a.phase = .released) : r.exitRestore = r := by
  unfold exitRestore
  split
  · rename_i ha
    refine if_neg fun ⟨he, hseen⟩ => ?_
    rcases h with h | h | h
    · exact h he
    · simp [hseen] at h
    · simpa using h _ ha
  · rfl

end Breaks

/-- A passage begins (R55). -/
theorem ok_beginPassage (h : r.lane.Ok) {a : Admission} (ha : r.lane.admission = some a) (he : r.lane.ending = .none) (d : Nat) :
    (r.upd fun ln => { ln with
      window := none, admission := ln.admission.map fun a => { a with phase := .passing }, exitSeen := false,
      limit := some d, state := if ln.state = .closing then .closing else .passing }).lane.Ok := by
  have hholds : (if r.lane.state = .closing then LaneState.closing else .passing).holdsAdmission = true := by
    split <;> rfl
  have hnotwaiting : r.lane.state ≠ .waiting := fun hw => by
    simpa [hw, LaneState.holdsAdmission] using h.holds_of_admission ha
  obtain ⟨hmiss, hwait⟩ := h.no_miss hnotwaiting
  have hslots := h.slots
  have hother : (if r.lane.state = .closing then LaneState.closing else .passing) ≠ .waiting
      ∧ (if r.lane.state = .closing then LaneState.closing else .passing) ≠ .deciding := by
    split <;> decide
  simpa [upd, Lane.Ok, hholds, ha, he, hmiss, hwait, hother, Lane.SlotsInOrder] using hslots

theorem ok_entryBreak (h : r.lane.Ok) : (r.entryBreak env).lane.Ok := by
  cases hs : r.lane.state.holdsAdmission with
  | false =>
    rcases LaneState.not_holdsAdmission_iff.1 hs with hshut | hserving
    · rwa [entryBreak_shut env hshut]
    · rw [entryBreak_serving env hserving]
      exact ok_toFault_of_ok (r := hand _ _) _ h hs
  | true =>
    obtain ⟨a, ha⟩ := h.admission_of_holds hs
    by_cases he : r.lane.ending = .none
    · rcases a.released_or_passing with hp | hp
      · rw [entryBreak_released env hs he ha hp]
        exact ok_beginPassage h ha he _
      · rw [entryBreak_passing env hs ha hp]
        exact ok_mark h _ _
    · rw [entryBreak_ending env hs he]
      exact ok_mark h _ _

theorem ok_exitBreak (h : r.lane.Ok) : (r.exitBreak env).lane.Ok := by
  cases hs : r.lane.state.holdsAdmission with
  | false =>
    rcases LaneState.not_holdsAdmission_iff.1 hs with hshut | hserving
    · rwa [exitBreak_shut env hshut]
    · rw [exitBreak_serving env hserving]
      exact ok_toFault_of_ok (r := hand _ _) _ h hs
  | true =>
    obtain ⟨a, ha⟩ := h.admission_of_holds hs
    by_cases he : r.lane.ending = .none
    · rcases a.released_or_passing with hp | hp
      · rw [exitBreak_released env hs he ha hp]
        exact ok_submitEnding (ok_stopWindow (ok_mark h _ _)) hs rfl (h.limit_of_released ha hp) _
      · rw [exitBreak_passing env hs he ha hp]
        exact h
    · rw [exitBreak_ending env hs he]
      exact ok_mark h _ _

theorem ok_exitRestore (h : r.lane.Ok) : r.exitRestore.lane.Ok := by
  unfold exitRestore
  split
  · rename_i ha
    split
    · exact ok_submitEnding (ok_stopLimit h) (h.holds_of_admission ha) (h.window_of_passing ha rfl) rfl _
    · exact h
  · exact h

/-! ### Presentations -/

/-- A presentation placed in the first slot that is empty (R52). -/
theorem ok_place (h : r.lane.Ok) (p : Presentation) : (r.upd fun ln =>
    if ln.current.isNone then { ln with current := some p } else { ln with next := some p }).lane.Ok := by
  obtain ⟨hadmission, hmiss, hgate, hending, hwindow, hlimit, hwait, hcurrent, hslots⟩ := h
  unfold upd
  dsimp only
  split
  · exact ⟨hadmission, hmiss, hgate, hending, hwindow, hlimit, hwait, fun _ => rfl, fun _ => rfl⟩
  · rename_i hfull
    have hsome : r.lane.current.isSome = true := by simpa [← Option.isSome_iff_ne_none] using hfull
    exact ⟨hadmission, hmiss, hgate, hending, hwindow, hlimit, hwait, fun _ => hsome, fun _ => hsome⟩

/-- A lane that is not READY takes nothing up (R53). -/
theorem takeUp_of_not_ready (n : Nat) (h : r.lane.state ≠ .ready) : r.takeUp env n = r := by
  cases n <;> simp [takeUp, h]

theorem ok_takeUp_of_ok (n : Nat) (h : r.lane.Ok) : (r.takeUp env n).lane.Ok := by
  by_cases hs : r.lane.state = .ready
  · exact ok_takeUp n (h.unoccupied (by simp [hs, LaneState.holdsAdmission]) (by simp [hs])) hs h.slots
  · rwa [takeUp_of_not_ready n hs]

theorem ok_present (h : r.lane.Ok) (pass : Nat) (p : Option Presentation) : (r.present env pass p).lane.Ok := by
  unfold present
  split
  · exact h
  · split
    · exact h
    · split
      · exact h
      · split
        · exact h
        · refine ok_takeUp_of_ok 2 ?_
          have hplaced := ok_place h
          split <;> exact hplaced _

/-! ### Silence, pacing and requests -/

theorem ok_silent (h : r.lane.Ok) : (r.silent env).lane.Ok := by
  have hfault (hs : r.lane.state.holdsAdmission = false) :
      ((r.upd fun ln => { ln with silence := none, readerPresent := false }).toFault env .readerSilent).lane.Ok :=
    ok_toFault_of_ok _ h hs
  unfold silent
  dsimp only
  split <;> rename_i hs
  · exact h
  iterate 4 exact hfault (LaneState.not_holdsAdmission_iff.2 (by simp [show r.lane.state = _ from hs]))
  iterate 4 exact h

theorem ok_paceStart (h : r.lane.Ok) : (r.paceStart env).lane.Ok := by
  have hpaused (hs : r.lane.state.holdsAdmission = false) (hw : r.lane.state ≠ .waiting) :
      ((r.upd fun ln => { ln with pause := true }).toPaused env).lane.Ok :=
    ok_toPaused (h.unoccupied hs hw) h.slots
  unfold paceStart
  dsimp only
  split <;> rename_i hs
  iterate 2
    have hs : r.lane.state = _ := hs
    exact hpaused (by simp [hs, LaneState.holdsAdmission]) (by simp [hs])
  iterate 7 exact h

theorem ok_paceEnd (h : r.lane.Ok) : (r.paceEnd env).lane.Ok := by
  unfold paceEnd
  dsimp only
  split
  · rename_i hs
    have hs : r.lane.state = .paused := hs
    exact ok_toReady (h.unoccupied (by simp [hs, LaneState.holdsAdmission]) (by simp [hs])) h.slots
  · exact h

theorem ok_openLane (h : r.lane.Ok) : (r.openLane env).lane.Ok := by
  unfold openLane
  split
  · rename_i hs
    have hno : r.lane.state.holdsAdmission = false := by simp [hs, LaneState.holdsAdmission]
    have hfree := h.unoccupied hno (by simp [hs])
    dsimp only
    split
    · exact ok_toFault_of_ok (r := hand _ _) _ h hno
    · split
      · exact ok_toFault_of_ok (r := hand _ _) _ h hno
      · split
        · exact ok_toPaused hfree h.slots
        · exact ok_toReady hfree h.slots
  · exact h

/-- A lane in service is closed without an admission (R64). -/
theorem ok_close (h : r.lane.Unoccupied) : ((r.closeSlots env).enter env .closed).lane.Ok :=
  (unoccupied_enter (unoccupied_closeSlots h) .closed).ok rfl nofun nofun nofun

/-- A lane is closed while its admission runs on (R64). -/
theorem ok_closing (h : r.lane.Ok) (hs : r.lane.state.holdsAdmission = true) :
    ((r.closeSlots env).enter env .closing).lane.Ok := by
  have hnotwaiting : r.lane.state ≠ .waiting := fun hw => by simp [hw, LaneState.holdsAdmission] at hs
  obtain ⟨hmiss, hwait⟩ := h.no_miss hnotwaiting
  obtain ⟨hadmission, -, hgate, hending, hwindow, hlimit, -⟩ := h
  unfold enter upd
  rw [closeSlots_lane]
  exact ⟨iff_of_true (hadmission.2 hs) rfl, by simp [hmiss], fun hg => ⟨rfl, (hgate hg).2⟩, fun he => ⟨rfl, (hending he).2⟩,
    hwindow, hlimit, by simp [hwait], nofun, nofun⟩

theorem ok_closeLane (h : r.lane.Ok) : (r.closeLane env).lane.Ok := by
  unfold closeLane
  split <;> rename_i hs
  iterate 3 exact ok_close (h.unoccupied (by simp [hs, LaneState.holdsAdmission]) (by simp [hs]))
  · have hfree := h.unoccupied_endMiss (by simp [hs, LaneState.holdsAdmission]) env
    refine ok_close (r := endMiss env _) ?_
    split <;> exact hfree
  iterate 2 exact ok_closing h (by simp [hs, LaneState.holdsAdmission])
  iterate 3 exact h

theorem ok_resetLane (h : r.lane.Ok) : (r.resetLane env).lane.Ok := by
  unfold resetLane
  split
  · rename_i hs
    have hfree := h.unoccupied (by simp [hs, LaneState.holdsAdmission]) (by simp [hs])
    exact (unoccupied_enter (env := env) hfree .closed).ok rfl nofun h.slots nofun
  · exact h

end LaneRun

end Sys2Proof.Machine

/-! ## What every command does to the lanes

That no command but the resets changes the lane-count strap, that none touches an absent lane, and that each keeps every lane's
items in agreement with its state (R43, R47). -/

namespace Sys2Proof.Machine

/-! ### The strap of the lane count -/

@[simp] theorem Port.clearError_eightLanes (p : Port) : p.clearError.eightLanes = p.eightLanes := rfl
@[simp] theorem Port.misuse_eightLanes (p : Port) : p.misuse.eightLanes = p.eightLanes := rfl
@[simp] theorem Port.fillWord_eightLanes (w : Word) (p : Port) : (p.fillWord w).eightLanes = p.eightLanes := rfl

namespace State

section Strap

variable (s : State) (o : Origin)

@[simp] theorem found_eightLanes (d : List Byte) : (s.found o d).port.eightLanes = s.port.eightLanes :=
  endWith_eightLanes s o _

@[simp] theorem fail_eightLanes (c : ConditionCode) (p : Option Nat) (f : Option FieldRef) :
    (s.fail o c p f).port.eightLanes = s.port.eightLanes := endWith_eightLanes s o _

@[simp] theorem busy_eightLanes : (s.busy o).port.eightLanes = s.port.eightLanes := endWith_eightLanes s o _

@[simp] theorem failHeld_eightLanes (p : Nat) : (s.failHeld o p).port.eightLanes = s.port.eightLanes := by
  unfold failHeld; split <;> simp

@[simp] theorem createPass_eightLanes (a : InsertArgs) (e : Option Nat) :
    (s.createPass o a e).port.eightLanes = s.port.eightLanes := by
  unfold createPass; simp

@[simp] theorem insertNew_eightLanes (a : InsertArgs) : (s.insertNew o a).port.eightLanes = s.port.eightLanes := by
  unfold insertNew; (repeat' split) <;> simp

@[simp] theorem insertOver_eightLanes (a : InsertArgs) (r : PassRecord) :
    (s.insertOver o a r).port.eightLanes = s.port.eightLanes := by
  unfold insertOver; (repeat' split) <;> simp

@[simp] theorem placeHold_eightLanes (p : Nat) : (s.placeHold o p).port.eightLanes = s.port.eightLanes := by
  unfold placeHold; dsimp only; (repeat' split) <;> simp

@[simp] theorem settleHeld_eightLanes (p n : Nat) (r : PassRecord) :
    (s.settleHeld o p n r).port.eightLanes = s.port.eightLanes := by
  unfold settleHeld; dsimp only; (repeat' split) <;> simp

@[simp] theorem commitRecord_eightLanes (l : LaneNo) (a : Admission) (r : PassRecord) :
    (s.commitRecord l a r).port.eightLanes = s.port.eightLanes := by
  unfold commitRecord; simp

@[simp] theorem withdrawRecord_eightLanes (l : LaneNo) (a : Admission) (r : PassRecord) :
    (s.withdrawRecord l a r).port.eightLanes = s.port.eightLanes := by
  unfold withdrawRecord; simp

@[simp] theorem loadFor_eightLanes (a : LoadArgs) : (s.loadFor o a).port.eightLanes = s.port.eightLanes := by
  unfold loadFor; (repeat' split) <;> simp

@[simp] theorem collect_eightLanes (n : Nat) : (s.collect o n).port.eightLanes = s.port.eightLanes := by
  unfold collect; (repeat' split) <;> simp

@[simp] theorem confirm_eightLanes (c : Collection) : (s.confirm o c).port.eightLanes = s.port.eightLanes := by
  unfold confirm; simp

@[simp] theorem discard_eightLanes (c : Collection) : (s.discard o c).port.eightLanes = s.port.eightLanes := by
  unfold discard; simp

@[simp] theorem placeWatched_eightLanes (n : Notice) : (s.placeWatched n).port.eightLanes = s.port.eightLanes := by
  unfold placeWatched; dsimp only; (repeat' split) <;> simp

@[simp] theorem placeLaneNotice_eightLanes (n : Notice) : (s.placeLaneNotice n).port.eightLanes = s.port.eightLanes := by
  unfold placeLaneNotice; split <;> simp

@[simp] theorem placeLink_eightLanes (n : Notice) : (s.placeLink n).port.eightLanes = s.port.eightLanes := by
  unfold placeLink; split <;> simp

@[simp] theorem failBlock_eightLanes (a : Answer) : (s.failBlock o a).port.eightLanes = s.port.eightLanes := by
  unfold failBlock; simp

@[simp] theorem takeRequest_eightLanes (r : Request) : (s.takeRequest o r).port.eightLanes = s.port.eightLanes := by
  unfold takeRequest; dsimp only; (repeat' split) <;> simp

@[simp] theorem deliver_eightLanes (b : List Byte) : (s.deliver o b).port.eightLanes = s.port.eightLanes := by
  unfold deliver; (repeat' split) <;> simp

@[simp] theorem abortEvent_eightLanes : (s.abortEvent o).port.eightLanes = s.port.eightLanes := by
  unfold abortEvent; (repeat' split) <;> simp

@[simp] theorem writeControl_eightLanes (w : Word) : (s.writeControl w).port.eightLanes = s.port.eightLanes := by
  unfold writeControl
  dsimp only
  (repeat' split) <;> simp

@[simp] theorem takeFrame_eightLanes (r : Received) : (s.takeFrame r).port.eightLanes = s.port.eightLanes := by
  unfold takeFrame; split <;> simp

@[simp] theorem receive_eightLanes (r : Received) : (s.receive r).port.eightLanes = s.port.eightLanes := by
  unfold receive; split <;> simp

@[simp] theorem laneRequest_eightLanes (m : LaneMask) (f : LaneEnv → LaneRun → LaneRun) :
    (s.laneRequest o m f).port.eightLanes = s.port.eightLanes := by
  unfold laneRequest; simp

end Strap

/-! ### Changes that keep the lanes in order -/

/-- A change of the part that keeps the lane-count strap, each lane's items in agreement with its state, and the absent lanes
as they are (R43, R47). -/
structure LanesGo (s t : State) : Prop where
  strap : t.port.eightLanes = s.port.eightLanes
  ok : ∀ l, (s.laneAt l).Ok → (t.laneAt l).Ok
  absent : ∀ l, s.lanePresent l = false → t.laneAt l = s.laneAt l

namespace LanesGo

variable {s u t : State}

theorem trans (h₁ : LanesGo s u) (h₂ : LanesGo u t) : LanesGo s t where
  strap := h₂.strap.trans h₁.strap
  ok l hl := h₂.ok l (h₁.ok l hl)
  absent l hl := (h₂.absent l ((lanePresent_congr h₁.strap l).trans hl)).trans (h₁.absent l hl)

/-- A change that leaves the lane machines and the strap. -/
theorem of_eq (hlanes : t.lanes.lane = s.lanes.lane) (hstrap : t.port.eightLanes = s.port.eightLanes) : LanesGo s t where
  strap := hstrap
  ok l hl := by rwa [laneAt_congr hlanes]
  absent l _ := laneAt_congr hlanes l

theorem refl : LanesGo s s := of_eq rfl rfl

theorem aside (h : LanesGo s u) (hlanes : t.lanes.lane = u.lanes.lane) (hstrap : t.port.eightLanes = u.port.eightLanes) :
    LanesGo s t := h.trans (of_eq hlanes hstrap)

theorem ite {c : Prop} [Decidable c] {a b : State} (ha : c → LanesGo s a) (hb : ¬ c → LanesGo s b) :
    LanesGo s (if c then a else b) := by
  split
  · exact ha ‹_›
  · exact hb ‹_›

/-- One lane's event that keeps the lane's items in agreement with its state. -/
theorem runLane (h : LanesGo s u) (l : LaneNo) {f : LaneEnv → LaneRun → LaneRun}
    (hf : u.lanePresent l = true → (u.laneAt l).Ok →
      (f (u.laneEnv l) { lane := u.laneAt l, events := [], msgs := [] }).lane.Ok) : LanesGo s (u.runLane l f) := by
  cases hp : u.lanePresent l with
  | false => rwa [runLane_absent f hp]
  | true =>
    refine h.trans ⟨by simp, fun m hm => ?_, fun m hm => runLane_other f fun he => by simp [he, hp] at hm⟩
    by_cases he : m = l
    · subst he
      rw [runLane_laneAt f hp]
      exact hf hp hm
    · rwa [runLane_other f he]

/-- An event on several lanes. -/
theorem runLanes (h : LanesGo s u) (ls : List LaneNo) {f : LaneEnv → LaneRun → LaneRun}
    (hf : ∀ env r, r.lane.Ok → (f env r).lane.Ok) : LanesGo s (u.runLanes ls f) := by
  unfold State.runLanes
  induction ls generalizing u with
  | nil => exact h
  | cons l ls ih => exact ih (h.runLane l fun _ hl => hf (u.laneEnv l) { lane := u.laneAt l, events := [], msgs := [] } hl)

/-- The tally unit tells the present lanes of their pacing alone (R154). -/
theorem setTally (h : LanesGo s u) (v : Tally) : LanesGo s (u.setTally v) := by
  refine h.trans ⟨by simp, fun l hl => ?_, fun l hl => by simp [laneAt_setTally, hl]⟩
  rw [laneAt_setTally]
  split <;> exact hl

theorem updClock (h : LanesGo s u) (f : Clock → Clock) : LanesGo s (u.updClock f) := h.aside rfl rfl
theorem updTable (h : LanesGo s u) (f : Table → Table) : LanesGo s (u.updTable f) := h.aside rfl rfl
theorem updRecord (h : LanesGo s u) (p : Nat) (f : PassRecord → PassRecord) : LanesGo s (u.updRecord p f) := h.aside rfl rfl
theorem updTally (h : LanesGo s u) (f : Tally → Tally) : LanesGo s (u.updTally f) := h.aside rfl rfl
theorem updLink (h : LanesGo s u) (f : Link → Link) : LanesGo s (u.updLink f) := h.aside rfl rfl
theorem raiseTally (h : LanesGo s u) (ns : List Notice) : LanesGo s (u.raiseTally ns) := h.aside rfl rfl
theorem serveLane (h : LanesGo s u) (l : LaneNo) : LanesGo s (u.serveLane l) := h.aside rfl rfl
theorem finishSecond (h : LanesGo s u) : LanesGo s u.finishSecond := h.aside rfl rfl

/-- A change of the lane controller that leaves the lane machines. -/
theorem updLanes (h : LanesGo s u) {f : LaneController → LaneController} (hf : (f u.lanes).lane = u.lanes.lane) :
    LanesGo s (u.updLanes f) := h.aside hf rfl

theorem complete (h : LanesGo s u) (o : Origin) (d : List Byte) : LanesGo s (u.complete o d) := h.aside (by simp) (by simp)

theorem fail (h : LanesGo s u) (o : Origin) (c : ConditionCode) (p : Option Nat) (f : Option FieldRef) :
    LanesGo s (u.fail o c p f) := h.aside (by simp) (by simp)

/-! ### The clock and the tally interval -/

theorem settleClose (h : LanesGo s u) : LanesGo s u.settleClose := .ite (fun _ => h.setTally _) fun _ => h

theorem rollOver (h : LanesGo s u) : LanesGo s u.rollOver :=
  .ite (fun _ => (h.settleClose.updClock _).setTally _) fun _ => h.settleClose.updClock _

theorem advanceSecond (h : LanesGo s u) : LanesGo s u.advanceSecond :=
  .ite (fun _ => (h.settleClose.updClock _).updTally _) fun _ => h.settleClose.updClock _

theorem applyClockSet (h : LanesGo s u) (a : ClockSetArgs) : LanesGo s (u.applyClockSet a) := by
  refine .ite (fun _ => (h.updClock _).updTally _) fun _ => .ite (fun _ => (h.updClock _).updTally _) fun _ => ?_
  exact ((ite (fun _ => (h.updClock _).setTally _) fun _ => h.updClock _).updClock _).updTally _

/-- A millisecond that passes on an empty queue. -/
theorem tick (s : State) : LanesGo s (Machine.tick s) :=
  .ite (fun _ => refl.updClock _) fun _ => .ite (fun _ => refl.updClock _) fun _ =>
    .ite (fun _ => refl.finishSecond.advanceSecond) fun _ => refl.finishSecond.rollOver

/-! ### The pass table and the office link -/

/-- An event at the lane that waits for a pass (R82, R84). -/
theorem tellMiss (h : LanesGo s u) (p : Nat) {f : LaneEnv → LaneRun → LaneRun}
    (hf : ∀ env r, r.lane.Ok → r.lane.state = .waiting → (f env r).lane.Ok) : LanesGo s (u.tellMiss p f) := by
  unfold State.tellMiss
  split
  · rename_i l hl
    obtain ⟨-, m, hm, -⟩ := missLane_some hl
    refine h.runLane l fun _ hok => hf _ _ hok ?_
    obtain ⟨-, hmiss, -⟩ := hok
    exact hmiss.1 (by simp [hm])
  · exact h

theorem createPass (h : LanesGo s u) (o : Origin) (a : InsertArgs) (ev : Option Nat) : LanesGo s (u.createPass o a ev) :=
  ((h.updTable _).tellMiss a.pass fun _ _ hok hs => LaneRun.ok_missInserted hok hs).complete _ _

theorem insertNew (h : LanesGo s u) (o : Origin) (a : InsertArgs) : LanesGo s (u.insertNew o a) := by
  unfold State.insertNew
  split
  · exact h.createPass ..
  · split
    · exact (h.updTable _).createPass ..
    · exact (h.tellMiss a.pass fun _ _ hok _ => LaneRun.ok_refuseMiss hok []).fail ..

theorem enterDropping (h : LanesGo s u) (why : DropReason) : LanesGo s (u.enterDropping why) :=
  h.aside rfl (by simp)

theorem lineEvent {f : State → State} (hf : LanesGo s (f u)) : LanesGo s (u.lineEvent f) := by
  obtain ⟨-, -, -, hlanes, -, hport, -⟩ := lineEvent_frame u f
  exact hf.aside (congrArg _ hlanes) (congrArg _ hport)

theorem lineReadyLow (h : LanesGo s u) : LanesGo s u.lineReadyLow := by
  unfold State.lineReadyLow
  split
  iterate 3 exact h.enterDropping _
  · exact .ite (fun _ => h.updLink _) fun _ => h
  iterate 2 exact h

/-- A table request of one claim, by what it does at its turn. -/
theorem tableClaim {o : Origin} {k : State → State} (hk : LanesGo (s.serve o) (k (s.serve o))) :
    LanesGo s (s.tableClaim o k) := by
  unfold State.tableClaim
  exact .ite (fun _ => (of_eq (by simp) (by simp)).trans hk) fun _ => .refl

/-- The start of a table request of several claims, by what it does at its turn. -/
theorem tableBegin {o : Origin} {k : State → State} (hk : LanesGo s (k s)) : LanesGo s (s.tableBegin o k) := by
  unfold State.tableBegin
  exact .ite (fun _ => hk) fun _ => .refl

theorem heldByMe (o : Origin) (p : Nat) {k : PassRecord → State → State} (hk : ∀ r, LanesGo s (k r s)) :
    LanesGo s (s.heldByMe o p k) := by
  unfold State.heldByMe
  split
  · exact refl.fail ..
  · split
    · refine .ite (fun _ => refl.fail ..) fun _ => ?_
      split
      · exact of_eq (by simp) (by simp)
      · exact hk _
    · exact .ite (fun _ => refl.fail ..) fun _ => .ite (fun _ => refl.fail ..) fun _ =>
        .ite (fun _ => refl.fail ..) fun _ => refl.fail ..

/-! ### The lanes' claims -/

theorem refusePass (h : LanesGo s u) {l : LaneNo} (hs : (u.laneAt l).state = .deciding) (p : Nat) (reason : Reason) :
    LanesGo s (u.refusePass l p reason) := by
  unfold State.refusePass
  dsimp only
  have hlanes (b : Bool) (es : List Event) :
      ((if b then u.updTable (Table.toHead p) else u).handEvents es).lanes = u.lanes := by cases b <;> simp
  have hstrap (b : Bool) (es : List Event) :
      ((if b then u.updTable (Table.toHead p) else u).handEvents es).port = u.port := by cases b <;> simp
  refine runLane (h.aside (congrArg _ (hlanes ..)) (congrArg _ (hstrap ..))) l fun _ hok => LaneRun.ok_refuseRider hok ?_ p reason
  exact (congrArg Lane.state (laneAt_congr (congrArg _ (hlanes ..)) l)).trans hs

theorem actOn (h : LanesGo s u) {l : LaneNo} (hs : (u.laneAt l).state = .deciding) (p : Nat) (d : Decision) :
    LanesGo s (u.actOn l p d) := by
  unfold State.actOn
  split
  · split
    · unfold State.admitPass
      refine ((h.updRecord ..).updTable _).runLane l fun _ hok => ?_
      exact LaneRun.ok_admitRider hok hs ..
    · exact h
  · exact h.refusePass hs ..
  · exact h.runLane l fun _ hok => LaneRun.ok_beginMiss hok hs p

/-- An ending claim, whose part at the table and at the settlement unit does not reach the lanes. -/
theorem endingClaim {l : LaneNo} (he : (s.laneAt l).ending ≠ .none) {k : Admission → PassRecord → State → State}
    (hlanes : ∀ a r u, (k a r u).lanes = u.lanes) (hstrap : ∀ a r u, (k a r u).port.eightLanes = u.port.eightLanes) :
    LanesGo s (s.endingClaim l k) := by
  rw [endingClaim_eq]
  have hpart : ((s.serveLane l).endPart l k).lanes = s.lanes
      ∧ ((s.serveLane l).endPart l k).port.eightLanes = s.port.eightLanes := by
    unfold endPart
    (repeat' split) <;> simp [hlanes, hstrap]
  obtain ⟨hl, hp⟩ := hpart
  refine (of_eq (congrArg _ hl) hp).runLane l fun _ hok => LaneRun.ok_endAdmission hok ?_
  rwa [laneAt_congr (congrArg _ hl)]

end LanesGo

/-- A command goes on, and keeps the lanes in order. -/
def GoesWithLanes (s : State) (out : Host.Outcome State Fault Refusal) : Prop := ∃ t, out = .next t ∧ LanesGo s t

theorem GoesWithLanes.next {s t : State} (h : LanesGo s t) : GoesWithLanes s (.next t) := ⟨t, rfl, h⟩

end State

end Sys2Proof.Machine

/-! ## The agreement of lanes along every step (R43, R47)

That every command keeps the agreement, by the lanes it reaches, and that the resets establish it afresh. -/

namespace Sys2Proof.Machine

open State (LanesGo GoesWithLanes)

/-! ### Commands by which the tally unit tells the lanes of pacing -/

section

variable (o : Origin) (l : LaneNo) (s : State)

theorem goesWithLanes_execOperatingSecondAdvance : GoesWithLanes s (execOperatingSecondAdvance s) :=
  .next (.ite (fun _ => LanesGo.refl.finishSecond.advanceSecond) fun _ => .refl)

theorem goesWithLanes_execRollover : GoesWithLanes s (execRollover s) :=
  .next (.ite (fun _ => LanesGo.refl.finishSecond.rollOver) fun _ => .refl)

theorem goesWithLanes_execIntervalClose : GoesWithLanes s (execIntervalClose s) := .next LanesGo.refl.settleClose

theorem goesWithLanes_execClockSet (src : Source) : GoesWithLanes s (execClockSet src s) := by
  refine .next ?_
  split
  · split
    · refine .ite (fun _ => LanesGo.refl.fail ..) fun _ => ?_
      split
      · exact LanesGo.refl.fail ..
      · exact (LanesGo.refl.applyClockSet _).complete ..
    · exact .refl
  · split
    · dsimp only
      split
      · exact LanesGo.refl.updClock _
      · exact (LanesGo.refl.updClock _).applyClockSet _
    · exact .refl

theorem goesWithLanes_execTallyEvent (batch : Nat) : GoesWithLanes s (execTallyEvent batch s) := by
  refine .next ?_
  split
  · exact (LanesGo.refl.raiseTally _).setTally _
  · exact .refl

theorem goesWithLanes_execTallyProgram : GoesWithLanes s (execTallyProgram o s) := by
  refine .next ?_
  split
  · split
    · split
      · exact LanesGo.refl.fail ..
      · exact (LanesGo.refl.setTally _).complete ..
    · exact LanesGo.refl.fail ..
  · exact .refl

theorem goesWithLanes_execTallyClear : GoesWithLanes s (execTallyClear o s) := by
  refine .next ?_
  split
  · exact .ite (fun _ => LanesGo.refl.fail ..) fun _ => (LanesGo.refl.setTally _).complete ..
  · exact .refl

/-! ### The lanes' events -/

/-- The expiry of a lane's timer, taken only once the timer runs and is due (R30). -/
theorem goesWithLanes_expiry (timer : Option Nat) {f : LaneEnv → LaneRun → LaneRun}
    (hf : ∀ env r d, timer = some d → r.lane = s.laneAt l → r.lane.Ok → (f env r).lane.Ok) :
    GoesWithLanes s (.next (if due s.now timer then s.runLane l f else s)) := by
  refine .next ?_
  cases timer with
  | none => exact .refl
  | some d => exact .ite (fun _ => LanesGo.refl.runLane l fun _ hok => hf _ _ d rfl rfl hok) fun _ => .refl

theorem goesWithLanes_execPresence : GoesWithLanes s (execPresence l s) := .next (LanesGo.refl.runLane l fun _ hok => hok)

theorem State.LanesGo.takePresentation (pass : BitVec 32) (media status attempt : Byte) :
    LanesGo s (s.takePresentation l pass media status attempt) := by
  refine LanesGo.refl.runLane l fun _ hok => LaneRun.ok_present ?_ ..
  exact hok

theorem goesWithLanes_execPresentation (pass : BitVec 32) (media status attempt : Byte) :
    GoesWithLanes s (execPresentation l pass media status attempt s) := .next (.takePresentation ..)

theorem goesWithLanes_execDiscardedReaderMessage (burst : List Byte) :
    GoesWithLanes s (execDiscardedReaderMessage l burst s) := by
  refine .next ?_
  split
  · exact .refl
  · exact LanesGo.refl.runLane l fun _ hok => hok
  · exact .takePresentation ..

theorem goesWithLanes_execReaderSilence : GoesWithLanes s (execReaderSilence l s) :=
  goesWithLanes_expiry l s _ fun _ _ _ _ _ hok => LaneRun.ok_silent hok

theorem goesWithLanes_execBeamSettle (entry exit : LaneMask) : GoesWithLanes s (execBeamSettle entry exit s) := by
  refine .next (.ite (fun _ => ⟨rfl, fun l hl => ?_, fun l hl => ?_⟩) fun _ => .refl)
  · simp only [State.laneAt_updLanes, Fin.getElem_fin, Vector.getElem_ofFn]
    split <;> exact hl
  · simp only [State.laneAt_updLanes, Fin.getElem_fin, Vector.getElem_ofFn, Fin.eta, hl]
    rfl

theorem goesWithLanes_execBeamBreak (b : Beam) : GoesWithLanes s (execBeamBreak l b s) := by
  refine .next (.ite (fun _ => LanesGo.refl.runLane l fun _ hok => ?_) fun _ => .refl)
  cases b
  · exact LaneRun.ok_entryBreak (r := LaneRun.upd _ _) hok
  · exact LaneRun.ok_exitBreak (r := LaneRun.upd _ _) hok

theorem goesWithLanes_execBeamRestore (b : Beam) : GoesWithLanes s (execBeamRestore l b s) := by
  refine .next (.ite (fun _ => LanesGo.refl.runLane l fun _ hok => ?_) fun _ => .refl)
  cases b
  · exact hok
  · exact LaneRun.ok_exitRestore (r := LaneRun.upd _ _) hok

theorem goesWithLanes_execPassageWindowExpiry : GoesWithLanes s (execPassageWindowExpiry l s) :=
  goesWithLanes_expiry l s _ fun _ _ _ hd hr hok => LaneRun.ok_windowExpired hok (hr ▸ hd)

theorem goesWithLanes_execPassingLimitExpiry : GoesWithLanes s (execPassingLimitExpiry l s) :=
  goesWithLanes_expiry l s _ fun _ _ _ hd hr hok => LaneRun.ok_limitExpired hok (hr ▸ hd)

theorem goesWithLanes_execMissWaitExpiry : GoesWithLanes s (execMissWaitExpiry l s) :=
  goesWithLanes_expiry l s _ fun _ _ _ _ _ hok => LaneRun.ok_refuseMiss hok _

theorem goesWithLanes_execToneEnd : GoesWithLanes s (execToneEnd l s) :=
  goesWithLanes_expiry l s _ fun _ _ _ _ _ hok => hok

theorem goesWithLanes_execLampBlink : GoesWithLanes s (execLampBlink l s) :=
  goesWithLanes_expiry l s _ fun _ _ _ _ _ hok => hok

theorem goesWithLanes_execPacingStart : GoesWithLanes s (execPacingStart l s) := by
  refine .next ?_
  split
  · exact LanesGo.refl.runLane l fun _ hok => LaneRun.ok_paceStart (r := LaneRun.upd _ _) hok
  · exact .refl

theorem goesWithLanes_execPacingEnd : GoesWithLanes s (execPacingEnd l s) := by
  refine .next ?_
  split
  · exact LanesGo.refl.runLane l fun _ hok => LaneRun.ok_paceEnd (r := LaneRun.upd _ _) hok
  · exact .refl

theorem goesWithLanes_execLineDropAtLanes : GoesWithLanes s (execLineDropAtLanes s) :=
  .next (.ite (fun _ => .refl) fun _ => (LanesGo.refl.updLanes rfl).runLanes _ fun _ _ hok => LaneRun.ok_refuseMiss hok _)

/-! ### The lanes' requests -/

theorem goesWithLanes_execLaneOpen : GoesWithLanes s (execLaneOpen o s) := by
  refine .next ?_
  split
  · exact .ite (fun _ => LanesGo.refl.fail ..) fun _ => .ite (fun _ => LanesGo.refl.fail ..) fun _ =>
      (LanesGo.refl.runLanes _ fun _ _ => LaneRun.ok_openLane).complete ..
  · exact .refl

theorem goesWithLanes_execLaneClose : GoesWithLanes s (execLaneClose o s) := by
  refine .next ?_
  split
  · exact .ite (fun _ => LanesGo.refl.fail ..) fun _ =>
      (LanesGo.refl.runLanes _ fun _ _ => LaneRun.ok_closeLane).complete ..
  · exact .refl

theorem goesWithLanes_execLaneReset : GoesWithLanes s (execLaneReset o s) := by
  refine .next ?_
  split
  · exact .ite (fun _ => LanesGo.refl.fail ..) fun _ =>
      (LanesGo.refl.runLanes _ fun _ _ => LaneRun.ok_resetLane).complete ..
  · exact .refl

/-! ### The lanes' claims, and the insert that a lane waits for -/

theorem goesWithLanes_execDecisionClaim : GoesWithLanes s (execDecisionClaim l s) := by
  refine .next ?_
  split
  · rename_i hturn
    obtain ⟨-, hstate⟩ := hturn
    split
    · exact (LanesGo.refl.serveLane l).actOn hstate ..
    · exact .refl
  · exact .refl

theorem goesWithLanes_execCommitClaim : GoesWithLanes s (execCommitClaim l s) :=
  .next (.ite (fun ⟨_, hending⟩ => .endingClaim (by simp [hending]) (by simp) (by simp)) fun _ => .refl)

theorem goesWithLanes_execWithdrawClaim : GoesWithLanes s (execWithdrawClaim l s) :=
  .next (.ite (fun ⟨_, hending⟩ => .endingClaim (by simp [hending]) (by simp) (by simp)) fun _ => .refl)

theorem goesWithLanes_execPassInsert : GoesWithLanes s (execPassInsert o s) := by
  refine .next ?_
  split
  · refine .tableClaim ?_
    split
    · exact LanesGo.refl.fail ..
    · split
      · exact LanesGo.refl.insertNew ..
      · exact .of_eq (by simp) (by simp)
  · exact .refl

/-! ### Events at the line control machine, which tell the lanes of a drop -/

theorem goesWithLanes_execStartTimerExpiry : GoesWithLanes s (execStartTimerExpiry s) :=
  .next (.ite (fun _ => .lineEvent (LanesGo.refl.enterDropping _)) fun _ => .refl)

theorem goesWithLanes_execFadeTimerExpiry : GoesWithLanes s (execFadeTimerExpiry s) :=
  .next (.ite (fun _ => .lineEvent (LanesGo.refl.enterDropping _)) fun _ => .refl)

theorem goesWithLanes_execDropShortExpiry : GoesWithLanes s (execDropShortExpiry s) :=
  .next (.ite (fun _ => .lineEvent (LanesGo.refl.updLink _)) fun _ => .refl)

theorem goesWithLanes_execDropLongExpiry : GoesWithLanes s (execDropLongExpiry s) :=
  .next (.ite (fun _ => .lineEvent (LanesGo.refl.updLink _)) fun _ => .refl)

theorem goesWithLanes_execLineReady (high : Bool) : GoesWithLanes s (execLineReady high s) := by
  have hpin := fun f => (LanesGo.refl (s := s)).updLink f
  exact .next (.ite (fun _ => .refl) fun _ => .ite (fun _ => hpin _) fun _ =>
    (hpin _).trans (.lineEvent (.ite (fun _ => LanesGo.refl.updLink _) fun _ => LanesGo.refl.lineReadyLow)))

theorem goesWithLanes_execLinkOpen : GoesWithLanes s (execLinkOpen o s) := by
  refine .next ?_
  split
  · rename_i address rate source mode _
    have hopened : LanesGo s (s.lineEvent fun s => s.updLink (Link.opened s.now address rate source mode)) :=
      .lineEvent (LanesGo.refl.updLink _)
    split
    · exact LanesGo.refl.fail ..
    · exact .ite (fun _ => LanesGo.refl.fail ..) fun _ => hopened.complete ..
  · exact .refl

theorem goesWithLanes_execLinkClose : GoesWithLanes s (execLinkClose o s) := by
  refine .next ?_
  split
  · have hclosed : LanesGo s (s.lineEvent fun s => (s.updLink Link.pendClose).enterDropping .close) :=
      .lineEvent ((LanesGo.refl.updLink _).enterDropping _)
    split
    · exact LanesGo.refl.fail ..
    iterate 4 exact hclosed.complete ..
    · exact .ite (fun _ => LanesGo.refl.fail ..) fun _ => (LanesGo.refl.updLink _).complete ..
  · exact .refl

end

end Sys2Proof.Machine

namespace Sys2Proof

open Machine State

/-! ### Every command -/

/-- The commands that reset the part. -/
def Instr.resets : Instr → Bool
  | .coldReset .. | .warmReset .. => true
  | _ => false

/-- The commands that may reach a lane machine: those of the lanes, those by which the tally unit tells them of pacing, PASS INSERT,
which tells a lane that waits, and the events of the line, which may drop it. -/
def Instr.reachesLanes : Instr → Bool
  | .operatingSecondAdvance | .rollover | .intervalClose | .clockSet .. | .tallyEvent .. | .tallyProgram .. | .tallyClear .. => true
  | .presence .. | .presentation .. | .discardedReaderMessage .. | .readerSilence .. | .beamSettle .. | .beamBreak ..
  | .beamRestore .. | .passageWindowExpiry .. | .passingLimitExpiry .. | .missWaitExpiry .. | .toneEnd .. | .lampBlink ..
  | .pacingStart .. | .pacingEnd .. | .lineDropAtLanes | .laneOpen .. | .laneClose .. | .laneReset .. => true
  | .decisionClaim .. | .commitClaim .. | .withdrawClaim .. | .passInsert .. => true
  | .lineReady .. | .startTimerExpiry | .fadeTimerExpiry | .dropShortExpiry | .dropLongExpiry | .linkOpen .. | .linkClose .. => true
  | _ => false

/-- A command that reaches a lane machine runs its events, and leaves the absent lanes. -/
theorem exec_reaches_lanes {i : Instr} (hl : i.reachesLanes = true) (s : State) : GoesWithLanes s (exec i s) := by
  cases i with
  | operatingSecondAdvance => exact goesWithLanes_execOperatingSecondAdvance ..
  | rollover => exact goesWithLanes_execRollover ..
  | intervalClose => exact goesWithLanes_execIntervalClose ..
  | clockSet => exact goesWithLanes_execClockSet ..
  | tallyEvent => exact goesWithLanes_execTallyEvent ..
  | tallyProgram => exact goesWithLanes_execTallyProgram ..
  | tallyClear => exact goesWithLanes_execTallyClear ..
  | presence => exact goesWithLanes_execPresence ..
  | presentation => exact goesWithLanes_execPresentation ..
  | discardedReaderMessage => exact goesWithLanes_execDiscardedReaderMessage ..
  | readerSilence => exact goesWithLanes_execReaderSilence ..
  | beamSettle => exact goesWithLanes_execBeamSettle ..
  | beamBreak => exact goesWithLanes_execBeamBreak ..
  | beamRestore => exact goesWithLanes_execBeamRestore ..
  | passageWindowExpiry => exact goesWithLanes_execPassageWindowExpiry ..
  | passingLimitExpiry => exact goesWithLanes_execPassingLimitExpiry ..
  | missWaitExpiry => exact goesWithLanes_execMissWaitExpiry ..
  | toneEnd => exact goesWithLanes_execToneEnd ..
  | lampBlink => exact goesWithLanes_execLampBlink ..
  | pacingStart => exact goesWithLanes_execPacingStart ..
  | pacingEnd => exact goesWithLanes_execPacingEnd ..
  | lineDropAtLanes => exact goesWithLanes_execLineDropAtLanes ..
  | laneOpen => exact goesWithLanes_execLaneOpen ..
  | laneClose => exact goesWithLanes_execLaneClose ..
  | laneReset => exact goesWithLanes_execLaneReset ..
  | decisionClaim => exact goesWithLanes_execDecisionClaim ..
  | commitClaim => exact goesWithLanes_execCommitClaim ..
  | withdrawClaim => exact goesWithLanes_execWithdrawClaim ..
  | passInsert => exact goesWithLanes_execPassInsert ..
  | lineReady => exact goesWithLanes_execLineReady ..
  | startTimerExpiry => exact goesWithLanes_execStartTimerExpiry ..
  | fadeTimerExpiry => exact goesWithLanes_execFadeTimerExpiry ..
  | dropShortExpiry => exact goesWithLanes_execDropShortExpiry ..
  | dropLongExpiry => exact goesWithLanes_execDropLongExpiry ..
  | linkOpen => exact goesWithLanes_execLinkOpen ..
  | linkClose => exact goesWithLanes_execLinkClose ..
  | _ => exact nomatch hl

/-- A command that reaches no lane machine leaves the lanes and the strap. -/
theorem exec_leaves_lanes {i : Instr} (hi : i.resets = false) (hl : i.reachesLanes = false) {s t : State}
    (h : exec i s = .next t) : LanesGo s t := by
  cases i <;> injection h with h <;> subst h
  case coldReset | warmReset => exact nomatch hi
  case operatingSecondAdvance | rollover | intervalClose | clockSet | tallyEvent | tallyProgram | tallyClear | presence
      | presentation | discardedReaderMessage | readerSilence | beamSettle | beamBreak | beamRestore | passageWindowExpiry
      | passingLimitExpiry | missWaitExpiry | toneEnd | lampBlink | pacingStart | pacingEnd | lineDropAtLanes | laneOpen
      | laneClose | laneReset | decisionClaim | commitClaim | withdrawClaim | passInsert | lineReady | startTimerExpiry
      | fadeTimerExpiry | dropShortExpiry | dropLongExpiry | linkOpen | linkClose => exact nomatch hl
  case ignoredWrite => exact .refl
  -- one shared operation that does not reach the lanes
  case request | outputTaken | abort | errorClear | outputWindow | frameSent | requestFrame | broadcast | abortFrame
      | frameDiscarded | broadcastAbort => exact .of_eq (by simp) (by simp)
  -- the same, where the event can occur
  case lapseTimerExpiry | shortTransfer | badCommandByte | collectionVoid | missNoticeRemoval | clockRead | holdListRead
      | linkStatus | readyCheck | profileRead | conditionRead | markWarm =>
    split <;> exact .of_eq (by simp) (by simp)
  case laneStatus | tallyRead | historyRead | profileSet | watchSet | clearStep | noticePlacement | sweepStep =>
    (repeat' split) <;> exact .of_eq (by simp) (by simp)
  case lapseClaim | passFindStep | dayMergeEntry | requestWindow | carrier | clearToSend =>
    dsimp only
    (repeat' split) <;> exact .of_eq (by simp [lineEvent_frame]) (by simp [lineEvent_frame])
  -- table requests, which act at their turn
  case passRead | passDrop | tableSize | tableClear | revokeRead | refundHold | usageCollect | usageConfirm =>
    split
    · refine .tableClaim ?_
      (repeat' split) <;> exact .of_eq (by simp) (by simp)
    · exact .refl
  case revokeLoad =>
    split
    · split
      · exact .tableClaim (.of_eq (by simp) (by simp))
      · exact .refl
    · (repeat' split) <;> exact .of_eq (by simp) (by simp)
  case refundSettle =>
    split
    · exact .tableClaim (.ite (fun _ => .of_eq (by simp) (by simp)) fun _ => .ite (fun _ => .of_eq (by simp) (by simp))
        fun _ => .heldByMe _ _ fun _ => .of_eq (by simp) (by simp))
    · exact .refl
  case refundRelease =>
    split
    · exact .tableClaim (.ite (fun _ => .of_eq (by simp) (by simp)) fun _ => .heldByMe _ _ fun _ => .of_eq (by simp) (by simp))
    · exact .refl
  case passFind | dayMerge =>
    split
    · refine .tableBegin ?_
      (repeat' split) <;> exact .of_eq (by simp) (by simp)
    · exact .refl

/-- Every command but the two resets keeps the strap, each lane's items in agreement with its state, and the absent lanes. -/
theorem exec_lanesGo {i : Instr} (hi : i.resets = false) {s t : State} (h : exec i s = .next t) : LanesGo s t := by
  cases hl : i.reachesLanes with
  | false => exact exec_leaves_lanes hi hl h
  | true =>
    obtain ⟨u, hu, hgo⟩ := exec_reaches_lanes hl s
    rw [hu] at h
    injection h with h
    exact h ▸ hgo

/-! ### The resets -/

theorem coldReset_lanes {s t : State} {eight spi : Bool} (h : execColdReset eight spi s = .next t) : t.LanesOk ∧ t.AbsentOk := by
  injection h with h
  subst h
  have hsound := resetIsSound eight spi s.link.lineReady s.link.carrier s.link.clearToSend s.pending
  exact ⟨hsound.lanes, hsound.absent⟩

theorem warmReset_lanes {s t : State} {eight spi : Bool} (h : execWarmReset eight spi s = .next t) : t.LanesOk ∧ t.AbsentOk := by
  obtain ⟨-, -, -, -, -, -, hport, -⟩ := warmReset_blocks h
  refine ⟨fun l => ?_, fun l hl => ?_⟩
  · rw [State.laneAt_warm h]
    unfold Lane.warm
    split
    · exact Lane.initial_ok s.now (s.tally.paces l)
    · exact Lane.absent_ok
  · have habsent : (decide (l.val < 4) || eight) = false := by simpa [State.lanePresent, hport, Port.initial] using hl
    rw [State.laneAt_warm h, habsent]
    rfl

/-! ### Every step -/

/-- A change that keeps the lanes in order keeps both invariants of the lanes. -/
theorem Machine.State.LanesGo.keeps {s t : State} (h : LanesGo s t) : (s.LanesOk → t.LanesOk) ∧ (s.AbsentOk → t.AbsentOk) := by
  refine ⟨fun hok l => h.ok l (hok l), fun habsent l hl => ?_⟩
  rw [lanePresent_congr h.strap] at hl
  rw [h.absent l hl]
  exact habsent l hl

/-- Settles O53: a reset makes the lanes anew; every other step runs the lanes' events, each of which keeps a lane's items, and no
absent lane takes one. -/
theorem lanesStayConsistent : Obligations.LanesStayConsistent := by
  intro s t h
  unfold step at h
  split at h
  · injection h with h
    exact h ▸ (LanesGo.tick s).keeps
  · rename_i c rest _
    cases hc : c.resets with
    | false => exact (exec_lanesGo (s := { s with pending := rest }) hc h).keeps
    | true =>
      cases c with
      | coldReset =>
        obtain ⟨hlanes, habsent⟩ := coldReset_lanes h
        exact ⟨fun _ => hlanes, fun _ => habsent⟩
      | warmReset =>
        obtain ⟨hlanes, habsent⟩ := warmReset_lanes h
        exact ⟨fun _ => hlanes, fun _ => habsent⟩
      | _ => exact nomatch hc

end Sys2Proof

/-! ## One lane's event

What the event of a lane leaves of the part, and the events that leave nothing but a changed lane: the readers' presence, the
settling of the beams, the lane's timers, pacing (R30, R43 to R46, R48, R49, R51, R55, R56, R60, R61). -/

namespace Sys2Proof

open Machine Claims State

/-! ### The rest of the part -/

theorem due_iff_expired {s : State} {timer : Option Nat} : due s.now timer = true ↔ Expired s timer := by
  cases timer <;> simp [due, Expired]

/-- An event of a lane leaves all but that lane, the events handed and the messages raised (R43, R51). -/
theorem onlyLane_runLane (s : State) (l : LaneNo) (f : LaneEnv → LaneRun → LaneRun) : OnlyLane l s (s.runLane l f) := by
  obtain ⟨hsettle, hdrops⟩ := runLane_lanes s l f
  obtain ⟨hclock, htable, hsettlement, hport, hlink, hpending⟩ := runLane_frame s l f
  exact ⟨fun _ hm => runLane_other f hm, hsettle, hdrops, hclock, htable, hsettlement, hport, hlink, hpending,
    runLane_tally s l f, runLane_decoder s l f⟩

/-- A lane that hands no event leaves the tally unit. -/
theorem runLane_tally_of_no_events {s : State} {l : LaneNo} {f : LaneEnv → LaneRun → LaneRun} (h : s.lanePresent l = true)
    (he : (f (s.laneEnv l) { lane := s.laneAt l, events := [], msgs := [] }).events = []) : (s.runLane l f).tally = s.tally := by
  rw [runLane_eq_laneAfter f h, laneAfter, he, handEvents_nil]
  rfl

/-- No notice is due where neither the state nor the condition moves (R51). -/
theorem laneNoticeDue_of_same {before after : Lane} (hstate : after.state = before.state)
    (hcondition : after.condition = before.condition) : laneNoticeDue before after = false := by
  simp [laneNoticeDue, hstate, hcondition]

/-- An event that moves no state and no condition, hands nothing and raises nothing changes the lane alone (R51). -/
theorem runLane_eq_setLane {s : State} {l : LaneNo} {f : LaneEnv → LaneRun → LaneRun} (h : s.lanePresent l = true) {ln : Lane}
    (hr : f (s.laneEnv l) { lane := s.laneAt l, events := [], msgs := [] } = { lane := ln, events := [], msgs := [] })
    (hn : laneNoticeDue (s.laneAt l) ln = false) : s.runLane l f = s.setLane l ln := by
  rw [runLane_quiet h hr rfl hn, handEvents_nil]

/-! ### The settling of the beams -/

/-- Settles O16. -/
theorem beamsSettleWithoutEvents : Obligations.BeamsSettleWithoutEvents := by
  intro entry exit s hexpired
  refine ⟨_, congrArg Host.Outcome.next (if_pos (due_iff_expired.2 hexpired)), rfl, rfl, fun l hl => ?_, fun l hl => ?_, rfl, rfl,
    rfl, rfl, rfl, rfl, rfl⟩
  all_goals
    simp only [laneAt_updLanes, Fin.getElem_fin, Vector.getElem_ofFn, Fin.eta, hl]
    rfl

/-! ### The timers and the lamps -/

section Timers

variable {s : State} {l : LaneNo} (hpresent : s.lanePresent l = true)

include hpresent

/-- The passage window runs out (R55). -/
theorem exec_passageWindowExpiry (h : Expired s (s.laneAt l).window) : exec (.passageWindowExpiry l) s =
    .next (s.setLane l { s.laneAt l with window := none, gate := false, ending := .withdraw }) :=
  congrArg Host.Outcome.next ((if_pos (due_iff_expired.2 h)).trans
    (runLane_eq_setLane hpresent rfl (laneNoticeDue_of_same rfl rfl)))

/-- The passing limit runs out (R56). -/
theorem exec_passingLimitExpiry (h : Expired s (s.laneAt l).limit) : exec (.passingLimitExpiry l) s =
    .next ((s.setLane l { s.laneAt l with
      limit := none, faultMark := some .stuck, gate := false, ending := .commit }).handEvents [laneEvent .stuck l]) :=
  congrArg Host.Outcome.next ((if_pos (due_iff_expired.2 h)).trans
    (runLane_quiet hpresent rfl rfl (laneNoticeDue_of_same rfl rfl)))

/-- The tone falls silent (R49). -/
theorem exec_toneEnd (h : Expired s (s.laneAt l).toneAt) :
    exec (.toneEnd l) s = .next (s.setLane l { s.laneAt l with toneAt := none }) :=
  congrArg Host.Outcome.next ((if_pos (due_iff_expired.2 h)).trans
    (runLane_eq_setLane hpresent rfl (laneNoticeDue_of_same rfl rfl)))

/-- The blinking lamp toggles (R48). -/
theorem exec_lampBlink (h : Expired s (s.laneAt l).blinkAt) : exec (.lampBlink l) s = .next (s.setLane l { s.laneAt l with
    lampLit := !(s.laneAt l).lampLit, blinkAt := (s.laneAt l).blinkAt.map (· + 500) }) :=
  congrArg Host.Outcome.next ((if_pos (due_iff_expired.2 h)).trans
    (runLane_eq_setLane hpresent rfl (laneNoticeDue_of_same rfl rfl)))

end Timers

/-- Settles O18. -/
theorem laneTimersActAtTheirDeadlines : Obligations.LaneTimersActAtTheirDeadlines := by
  refine ⟨fun l s hpresent => ⟨exec_passageWindowExpiry hpresent, exec_passingLimitExpiry hpresent⟩,
    fun l d s hpresent hd => ⟨fun htone => exec_toneEnd hpresent ⟨d, htone, hd⟩, fun hblink => ?_⟩,
    fun l s => ⟨fun habsent => ?_, fun hpresent => ?_⟩⟩
  · rw [exec_lampBlink hpresent ⟨d, hblink, hd⟩, hblink]
    rfl
  · simp [State.lampsAt, habsent]
  · rw [State.lampsAt, if_pos hpresent]
    rfl

/-! ### Pacing -/

namespace Machine.LaneRun

variable (env : LaneEnv) {r : LaneRun}

/-- A lane that enters PAUSED sends WAIT for its current slot, and nothing else of it changes (R61). -/
theorem toPaused_eq (r : LaneRun) : r.toPaused env = { r with lane := { r.lane with
    state := .paused, lampLit := true, blinkAt := none,
    readerOut := r.lane.readerOut ++ (r.lane.current.toList.map fun p => { pass := p.pass, kind := .wait }) } } := by
  cases hc : r.lane.current <;> simp [toPaused, enter, upd, send, hc]

theorem takeUp_empty (h : r.lane.current = none) {n : Nat} : r.takeUp env n = r := by
  cases n <;> simp [takeUp, h]

@[simp] theorem enter_ready (r : LaneRun) : r.enter env .ready =
    { r with lane := { r.lane with state := .ready, lampLit := true, blinkAt := none } } := by
  simp [enter, upd]

theorem toReady_empty (h : r.lane.current = none) : r.toReady env =
    { r with lane := { r.lane with state := .ready, lampLit := true, blinkAt := none } } :=
  (takeUp_empty env (r := r.enter env .ready) h).trans (enter_ready env r)

/-- A presentation that passes its read check is decided (R53, R54). -/
theorem takeUp_passes {p : Presentation} (hs : r.lane.state = .ready) (hc : r.lane.current = some p)
    (hcheck : readCheck env.policy p = .passes) {n : Nat} : r.takeUp env (n + 1) = (r.notifyRead env p).enter env .deciding := by
  simp only [takeUp, hs, hc, hcheck, if_true]

theorem readCheck_good {policy : ReadPolicy} {p : Presentation} (h : p.status = .good) : readCheck policy p = .passes := by
  cases policy <;> simp [readCheck, h]

/-- A start of pacing brings READY and DECIDING to PAUSED (R60). -/
theorem paceStart_serving (h : r.lane.state = .ready ∨ r.lane.state = .deciding) :
    r.paceStart env = { r with lane := { r.lane with
      pause := true, state := .paused, lampLit := true, blinkAt := none,
      readerOut := r.lane.readerOut ++ (r.lane.current.toList.map fun p => { pass := p.pass, kind := .wait }) } } := by
  rcases h with h | h <;> simp [paceStart, upd, h, toPaused_eq]

/-- Elsewhere a start of pacing sets the mark alone (R60). -/
theorem paceStart_other (h : ¬(r.lane.state = .ready ∨ r.lane.state = .deciding)) :
    r.paceStart env = { r with lane := { r.lane with pause := true } } := by
  cases hs : r.lane.state <;> simp [hs] at h <;> simp [paceStart, upd, hs]

theorem paceStart_events (r : LaneRun) : (r.paceStart env).events = r.events := by
  by_cases h : r.lane.state = .ready ∨ r.lane.state = .deciding
  · rw [paceStart_serving env h]
  · rw [paceStart_other env h]

theorem paceEnd_paused (h : r.lane.state = .paused) :
    r.paceEnd env = ({ r with lane := { r.lane with pause := false } } : LaneRun).toReady env := if_pos h

theorem paceEnd_other (h : r.lane.state ≠ .paused) : r.paceEnd env = { r with lane := { r.lane with pause := false } } :=
  if_neg h

/-- A good presentation is decided as its lane comes back to READY (R53, R61). -/
theorem toReady_good {p : Presentation} (hc : r.lane.current = some p) (hp : p.status = .good) :
    (r.toReady env).lane.state = .deciding ∧ (r.toReady env).lane.current = some p := by
  obtain ⟨c, hlane⟩ := notifyRead_lane env p (r.enter env .ready)
  have hup : r.toReady env = ((r.enter env .ready).notifyRead env p).enter env .deciding :=
    takeUp_passes env (r := r.enter env .ready) rfl hc (readCheck_good hp)
  rw [hup]
  exact ⟨rfl, (congrArg Lane.current hlane).trans hc⟩

/-- The pause mark, the reports still to be taken and the reader's silence timer stay through a taking up. -/
theorem takeUp_keeps (n : Nat) (r : LaneRun) :
    (r.takeUp env n).lane.pause = r.lane.pause ∧ (r.takeUp env n).lane.pacing = r.lane.pacing
      ∧ (r.takeUp env n).lane.silence = r.lane.silence ∧ (r.takeUp env n).lane.readerPresent = r.lane.readerPresent := by
  induction n generalizing r with
  | zero => exact ⟨rfl, rfl, rfl, rfl⟩
  | succ n ih =>
    unfold takeUp
    split
    · split
      · exact ⟨rfl, rfl, rfl, rfl⟩
      · rename_i p _
        obtain ⟨c, hlane⟩ := notifyRead_lane env p r
        dsimp only
        split
        · simp only [enter, upd, hlane, and_self]
        · simpa only [send, finishSlot, upd, hlane] using ih ((r.notifyRead env p).send env p.pass .reread).finishSlot
        · simpa only [send, finishSlot, upd, hand, hlane] using ih (((r.notifyRead env p).send env p.pass
            (.refuse .readFault)).hand (refusedEvent env.lane none .readFault)).finishSlot
    · exact ⟨rfl, rfl, rfl, rfl⟩

theorem paceEnd_pause (r : LaneRun) : (r.paceEnd env).lane.pause = false ∧ (r.paceEnd env).lane.pacing = r.lane.pacing := by
  by_cases h : r.lane.state = .paused
  · obtain ⟨hpause, hpacing, -⟩ := takeUp_keeps env 2
      (({ r with lane := { r.lane with pause := false } } : LaneRun).enter env .ready)
    rw [paceEnd_paused env h]
    exact ⟨hpause, hpacing⟩
  · rw [paceEnd_other env h]
    exact ⟨rfl, rfl⟩

end Machine.LaneRun

section Pacing

variable {s : State} {l : LaneNo} {rest : List PacingReport}

theorem exec_pacingStart (h : (s.laneAt l).pacing = .start :: rest) : exec (.pacingStart l) s =
    .next (s.runLane l fun env r => (r.upd fun ln => { ln with pacing := rest }).paceStart env) := by
  simp only [exec, execPacingStart, h]

theorem exec_pacingEnd (h : (s.laneAt l).pacing = .stop :: rest) : exec (.pacingEnd l) s =
    .next (s.runLane l fun env r => (r.upd fun ln => { ln with pacing := rest }).paceEnd env) := by
  simp only [exec, execPacingEnd, h]

end Pacing

/-- Settles O20. -/
theorem pacingPausesAndResumes : Obligations.PacingPausesAndResumes := by
  intro l rest s hpresent
  refine ⟨fun hstart => ⟨_, exec_pacingStart hstart, onlyLane_runLane .., ?_⟩,
    fun hstop => ⟨_, exec_pacingEnd hstop, onlyLane_runLane .., ?_⟩⟩
  · have htally := runLane_tally_of_no_events (f := fun env r => (r.upd fun ln => { ln with pacing := rest }).paceStart env)
      hpresent (LaneRun.paceStart_events ..)
    rw [runLane_laneAt _ hpresent, htally]
    by_cases hs : (s.laneAt l).state = .ready ∨ (s.laneAt l).state = .deciding
    · rw [LaneRun.paceStart_serving]
      · exact ⟨rfl, rfl, rfl, rfl, rfl, fun _ => rfl, fun hready hdeciding => absurd hs (by simp [hready, hdeciding])⟩
      · exact hs
    · rw [LaneRun.paceStart_other]
      · exact ⟨rfl, rfl, rfl, rfl, rfl, fun h => absurd h hs, fun _ _ => rfl⟩
      · exact hs
  · rw [runLane_laneAt _ hpresent]
    obtain ⟨hpause, hpacing⟩ := LaneRun.paceEnd_pause (s.laneEnv l)
      (LaneRun.upd (fun ln => { ln with pacing := rest }) { lane := s.laneAt l, events := [], msgs := [] })
    refine ⟨hpause, hpacing, fun hs hc => ?_, fun hs p hc hp => ?_, fun hs => ?_⟩
    · rw [LaneRun.paceEnd_paused, LaneRun.toReady_empty]
      · exact hc
      · exact hs
    · rw [LaneRun.paceEnd_paused]
      · exact LaneRun.toReady_good _ hc hp
      · exact hs
    · rw [LaneRun.paceEnd_other]
      · rfl
      · exact hs

end Sys2Proof

/-! ## Silence, breaks and restores

The events of readers and beams, rule by rule of the lane's state (R44 to R46, R51, R55 to R59). -/

namespace Sys2Proof

open Machine Claims State

/-! ### The entry into FAULT -/

namespace Machine.LaneRun

variable (env : LaneEnv) {r : LaneRun}

/-- The slots are emptied, each presentation answered CLOSED (R59, R64). -/
theorem closeSlots_eq (r : LaneRun) : r.closeSlots env = { r with lane := { r.lane with
    current := none, next := none, readerOut := r.lane.readerOut ++ closedVerdicts r.lane } } := by
  rw [closedVerdicts, ← closeSlots_lane env r]
  conv_rhs => rw [← closeSlots_events env r, ← closeSlots_msgs env r]

/-- The lane enters FAULT as its rule says (R59, R83). -/
theorem toFault_eq (cause : FaultMark) (h : r.msgs = []) : r.toFault env cause = faultEntered env cause r.events r.lane := by
  by_cases hs : r.lane.state = .waiting <;>
    simp [toFault, faultEntered, faulted, closeSlots_eq, endMiss, enter, upd, closedVerdicts, hs, h]

end Machine.LaneRun

@[simp] theorem faultEntered_events (env : LaneEnv) (cause : FaultMark) (es : List Event) (ln : Lane) :
    (faultEntered env cause es ln).events = es := by
  unfold faultEntered; split <;> rfl

/-- What a fault leaves of a lane whatever its state (R59). -/
theorem faultEntered_lane (env : LaneEnv) (cause : FaultMark) (es : List Event) (ln : Lane) :
    (faultEntered env cause es ln).lane.state = .fault
      ∧ (faultEntered env cause es ln).lane.condition = cause.condition
      ∧ (faultEntered env cause es ln).lane.readerPresent = ln.readerPresent
      ∧ (faultEntered env cause es ln).lane.silence = ln.silence
      ∧ ∀ b, (faultEntered env cause es ln).lane.beam b = ln.beam b := by
  unfold faultEntered
  split <;> exact ⟨rfl, rfl, rfl, rfl, fun b => by cases b <;> rfl⟩

/-! ### Reader silence -/

namespace Machine.LaneRun

variable (env : LaneEnv) {r : LaneRun}

theorem silent_closed (h : r.lane.state = .closed) :
    r.silent env = { r with lane := { r.lane with silence := none, readerPresent := false } } := by
  simp only [silent, upd, h]

theorem silent_holding (h : r.lane.state.holdsAdmission = true) : r.silent env =
    { r with lane := { r.lane with silence := none, readerPresent := false, faultMark := some .readerSilent } } := by
  rcases LaneState.holdsAdmission_iff.1 h with h | h | h <;> simp only [silent, upd, h]

theorem silent_fault (h : r.lane.state = .fault) : r.silent env =
    { r with lane := { r.lane with silence := none, readerPresent := false, condition := .readerSilent } } := by
  simp only [silent, upd, h]

theorem silent_serving (h : r.lane.state = .ready ∨ r.lane.state = .paused ∨ r.lane.state = .deciding ∨ r.lane.state = .waiting)
    (hm : r.msgs = []) : r.silent env =
      faultEntered env .readerSilent r.events { r.lane with silence := none, readerPresent := false } := by
  rcases h with h | h | h | h <;> simp only [silent, upd, h] <;> exact toFault_eq env .readerSilent hm

/-- A silent reader is marked absent, and hands no event, in every state of its lane (R46). -/
theorem silent_reader (hm : r.msgs = []) : (r.silent env).lane.readerPresent = false ∧ (r.silent env).lane.silence = none
    ∧ (r.silent env).events = r.events := by
  cases hs : r.lane.state.holdsAdmission with
  | true => rw [silent_holding env hs]; exact ⟨rfl, rfl, rfl⟩
  | false =>
    rcases LaneState.not_holdsAdmission_iff.1 hs with (h | h) | h
    · rw [silent_closed env h]; exact ⟨rfl, rfl, rfl⟩
    · rw [silent_fault env h]; exact ⟨rfl, rfl, rfl⟩
    · obtain ⟨-, -, hpresent, hsilence, -⟩ := faultEntered_lane env .readerSilent r.events
        { r.lane with silence := none, readerPresent := false }
      rw [silent_serving env (by tauto) hm]
      exact ⟨hpresent, hsilence, faultEntered_events ..⟩

end Machine.LaneRun

theorem exec_readerSilence {s : State} {l : LaneNo} (h : Expired s (s.laneAt l).silence) :
    exec (.readerSilence l) s = .next (s.runLane l fun env r => r.silent env) :=
  congrArg Host.Outcome.next (if_pos (due_iff_expired.2 h))

/-- Settles O14. -/
theorem readerPresenceNoiseAndSilence : Obligations.ReaderPresenceNoiseAndSilence := by
  refine ⟨⟨fun l s hpresent => ?_, fun l s habsent => ?_, fun l burst s hburst => ?_⟩, fun l s hpresent hexpired => ?_⟩
  · exact congrArg Host.Outcome.next (runLane_eq_setLane hpresent rfl (laneNoticeDue_of_same rfl rfl))
  · exact congrArg Host.Outcome.next (runLane_absent _ habsent)
  · simp only [exec, execDiscardedReaderMessage, hburst]
  · obtain ⟨hreader, hsilence, hevents⟩ := LaneRun.silent_reader (s.laneEnv l)
      (r := { lane := s.laneAt l, events := [], msgs := [] }) rfl
    refine ⟨_, exec_readerSilence hexpired, onlyLane_runLane .., runLane_tally_of_no_events hpresent hevents,
      (congrArg Lane.readerPresent (runLane_laneAt _ hpresent)).trans hreader,
      (congrArg Lane.silence (runLane_laneAt _ hpresent)).trans hsilence, fun h => ?_, fun h => ?_, fun h => ?_, fun h => ?_⟩
    · exact runLane_eq_setLane hpresent (LaneRun.silent_closed _ h) (laneNoticeDue_of_same rfl rfl)
    · exact runLane_eq_setLane hpresent (LaneRun.silent_holding _ h) (laneNoticeDue_of_same rfl rfl)
    · rw [runLane_eq_laneAfter _ hpresent, LaneRun.silent_fault]
      exact h
    · rw [runLane_eq_laneAfter _ hpresent, LaneRun.silent_serving]
      · exact h
      · rfl

end Sys2Proof

namespace Sys2Proof

open Machine Claims State

/-! ### Breaks and restores -/

/-- An event that moves no state and no condition and raises nothing changes the lane and hands its events (R51). -/
theorem runLane_eq_handEvents {s : State} {l : LaneNo} {f : LaneEnv → LaneRun → LaneRun} (h : s.lanePresent l = true) {ln : Lane}
    {es : List Event} (hr : f (s.laneEnv l) { lane := s.laneAt l, events := [], msgs := [] } = { lane := ln, events := es, msgs := [] })
    (hn : laneNoticeDue (s.laneAt l) ln = false) : s.runLane l f = (s.setLane l ln).handEvents es := runLane_quiet h hr rfl hn

/-- The event a break at a beam hands where it is a fault (R55 to R58). -/
def Beam.event : Beam → EventKind
  | .entry => .tailgate
  | .exit => .reverse

/-- The fault a break at a beam is, where it is one (R55 to R58). -/
def Beam.fault : Beam → FaultMark
  | .entry => .tailgate
  | .exit => .reverse

/-- A break at either beam, the level aside. -/
def Machine.LaneRun.beamBreak (env : LaneEnv) (b : Beam) (r : LaneRun) : LaneRun :=
  match b with
  | .entry => r.entryBreak env
  | .exit => r.exitBreak env

namespace Machine

section SetBeam

variable (b : Beam) (v : Level) (ln : Lane)

@[simp] theorem Lane.setBeam_state : (ln.setBeam b v).state = ln.state := by cases b <;> rfl
@[simp] theorem Lane.setBeam_condition : (ln.setBeam b v).condition = ln.condition := by cases b <;> rfl
@[simp] theorem Lane.setBeam_ending : (ln.setBeam b v).ending = ln.ending := by cases b <;> rfl
@[simp] theorem Lane.beam_setBeam : (ln.setBeam b v).beam b = v := by cases b <;> rfl

end SetBeam

namespace LaneRun

variable (env : LaneEnv) {r : LaneRun} (b : Beam)

theorem beamBreak_shut (h : r.lane.state = .closed ∨ r.lane.state = .fault) : r.beamBreak env b = r := by
  cases b
  · exact entryBreak_shut env h
  · exact exitBreak_shut env h

theorem beamBreak_serving
    (h : r.lane.state = .ready ∨ r.lane.state = .deciding ∨ r.lane.state = .waiting ∨ r.lane.state = .paused) (hm : r.msgs = []) :
    r.beamBreak env b = faultEntered env b.fault (r.events ++ [laneEvent b.event env.lane]) r.lane := by
  cases b
  · exact (entryBreak_serving env h).trans (toFault_eq env _ hm)
  · exact (exitBreak_serving env h).trans (toFault_eq env _ hm)

theorem beamBreak_ending (h : r.lane.state.holdsAdmission = true) (he : r.lane.ending ≠ .none) :
    r.beamBreak env b = r.mark env b.event b.fault := by
  cases b
  · exact entryBreak_ending env h he
  · exact exitBreak_ending env h he

end LaneRun

end Machine

section Beams

variable {s : State} {l : LaneNo} {b : Beam}

theorem exec_beamBreak (h : BeamAt l b .clear s) : exec (.beamBreak l b) s =
    .next (s.runLane l fun env r => (r.upd (Lane.setBeam b .broken)).beamBreak env b) := by
  obtain ⟨-, hsettled, hlevel⟩ := h
  refine congrArg Host.Outcome.next ((if_pos ⟨hsettled, hlevel⟩).trans ?_)
  cases b <;> rfl

theorem exec_beamRestore_entry (h : BeamAt l .entry .broken s) : exec (.beamRestore l .entry) s =
    .next (s.setLane l { s.laneAt l with entryBeam := .clear }) := by
  obtain ⟨hpresent, hsettled, hlevel⟩ := h
  exact congrArg Host.Outcome.next ((if_pos ⟨hsettled, hlevel⟩).trans
    (runLane_eq_setLane hpresent rfl (laneNoticeDue_of_same rfl rfl)))

theorem exec_beamRestore_exit (h : BeamAt l .exit .broken s) : exec (.beamRestore l .exit) s =
    .next (s.runLane l fun _ r => (r.upd (Lane.setBeam .exit .clear)).exitRestore) := by
  obtain ⟨-, hsettled, hlevel⟩ := h
  exact congrArg Host.Outcome.next (if_pos ⟨hsettled, hlevel⟩)

/-- A lane that starts the passage it has released raises no notice (R51, R55). -/
theorem laneNoticeDue_beginPassage {before after : Lane} (h : before.state.holdsAdmission = true)
    (hs : after.state = if before.state = .closing then .closing else .passing) (hc : after.condition = before.condition) :
    laneNoticeDue before after = false := by
  rcases LaneState.holdsAdmission_iff.1 h with h | h | h <;> simp [laneNoticeDue, hs, hc, h]

/-- A break in a lane that is closed or at fault (R58). -/
theorem exec_beamBreak_shut (h : BeamAt l b .clear s) (hs : (s.laneAt l).state = .closed ∨ (s.laneAt l).state = .fault) :
    exec (.beamBreak l b) s = .next (s.setLane l ((s.laneAt l).setBeam b .broken)) := by
  obtain ⟨hpresent, -, -⟩ := id h
  refine (exec_beamBreak h).trans (congrArg Host.Outcome.next (runLane_eq_setLane hpresent ?_ ?_))
  · exact LaneRun.beamBreak_shut _ b (by simpa [LaneRun.upd] using hs)
  · exact laneNoticeDue_of_same (by simp) (by simp)

/-- A break with no admission at the lane (R58, R59). -/
theorem exec_beamBreak_serving (h : BeamAt l b .clear s)
    (hs : (s.laneAt l).state = .ready ∨ (s.laneAt l).state = .deciding ∨ (s.laneAt l).state = .waiting
      ∨ (s.laneAt l).state = .paused) :
    ∃ t : State, exec (.beamBreak l b) s = .next t ∧ OnlyLane l s t ∧ (t.laneAt l).state = .fault
      ∧ (t.laneAt l).condition = b.fault.condition ∧ (t.laneAt l).beam b = .broken
      ∧ t.tally.inbox = s.tally.inbox ++ [[laneEvent b.event l]]
      ∧ t = laneAfter l (faultEntered (s.laneEnv l) b.fault [laneEvent b.event l] ((s.laneAt l).setBeam b .broken)) s := by
  obtain ⟨hpresent, -, -⟩ := id h
  have hrun : LaneRun.beamBreak (s.laneEnv l) b
      (LaneRun.upd (Lane.setBeam b .broken) { lane := s.laneAt l, events := [], msgs := [] })
        = faultEntered (s.laneEnv l) b.fault [laneEvent b.event l] ((s.laneAt l).setBeam b .broken) :=
    LaneRun.beamBreak_serving _ b (by simpa [LaneRun.upd] using hs) rfl
  obtain ⟨hstate, hcondition, -, -, hbeam⟩ := faultEntered_lane (s.laneEnv l) b.fault [laneEvent b.event l]
    ((s.laneAt l).setBeam b .broken)
  refine ⟨_, exec_beamBreak h, onlyLane_runLane .., ?_⟩
  rw [runLane_laneAt _ hpresent, runLane_inbox _ hpresent, runLane_eq_laneAfter _ hpresent, hrun, faultEntered_events]
  exact ⟨hstate, hcondition, (hbeam b).trans (Lane.beam_setBeam ..), rfl, rfl⟩

/-- A break while an ending claim waits (R57). -/
theorem exec_beamBreak_ending (h : BeamAt l b .clear s) (hs : (s.laneAt l).state.holdsAdmission = true)
    (he : (s.laneAt l).ending ≠ .none) : exec (.beamBreak l b) s =
      .next ((s.setLane l { (s.laneAt l).setBeam b .broken with faultMark := some b.fault }).handEvents [laneEvent b.event l]) := by
  obtain ⟨hpresent, -, -⟩ := id h
  refine (exec_beamBreak h).trans (congrArg Host.Outcome.next (runLane_eq_handEvents hpresent ?_ ?_))
  · exact LaneRun.beamBreak_ending _ b (by simpa [LaneRun.upd] using hs) (by simpa [LaneRun.upd] using he)
  · exact laneNoticeDue_of_same (Lane.setBeam_state ..) (Lane.setBeam_condition ..)

end Beams

/-! ### Breaks of an admission -/

section Admission

variable {s : State} {l : LaneNo} {a : Admission} (ha : (s.laneAt l).admission = some a)

include ha

/-- The rider enters (R55). -/
theorem exec_entryBreak_released (he : (s.laneAt l).ending = .none) (h : BeamAt l .entry .clear s)
    (hs : (s.laneAt l).state.holdsAdmission = true) (hp : a.phase = .released) :
    exec (.beamBreak l .entry) s = .next (s.setLane l { s.laneAt l with
      entryBeam := .broken, window := none, admission := some { a with phase := .passing }, exitSeen := false,
      limit := some (s.now + s.decoder.profile.limit * 1000),
      state := if (s.laneAt l).state = .closing then .closing else .passing }) := by
  obtain ⟨hpresent, -, -⟩ := id h
  refine (exec_beamBreak h).trans (congrArg Host.Outcome.next (runLane_eq_setLane hpresent ?_
    (laneNoticeDue_beginPassage hs rfl rfl)))
  refine (LaneRun.entryBreak_released _ hs he ha hp).trans ?_
  simp only [LaneRun.upd, Lane.setBeam, ha, Option.map_some]
  rfl

/-- The rider is at the exit (R56). -/
theorem exec_exitBreak_passing (he : (s.laneAt l).ending = .none) (h : BeamAt l .exit .clear s)
    (hs : (s.laneAt l).state.holdsAdmission = true) (hp : a.phase = .passing) :
    exec (.beamBreak l .exit) s = .next (s.setLane l { s.laneAt l with exitBeam := .broken, exitSeen := true }) := by
  obtain ⟨hpresent, -, -⟩ := id h
  exact (exec_beamBreak h).trans (congrArg Host.Outcome.next (runLane_eq_setLane hpresent
    (LaneRun.exitBreak_passing _ hs he ha hp) (laneNoticeDue_of_same rfl rfl)))

/-- The rider has left by the exit (R56). -/
theorem exec_exitRestore_seen (he : (s.laneAt l).ending = .none) (h : BeamAt l .exit .broken s) (hp : a.phase = .passing)
    (hseen : (s.laneAt l).exitSeen = true) : exec (.beamRestore l .exit) s = .next (s.setLane l { s.laneAt l with
      exitBeam := .clear, limit := none, gate := false, ending := .commit }) := by
  obtain ⟨hpresent, -, -⟩ := id h
  exact (exec_beamRestore_exit h).trans (congrArg Host.Outcome.next (runLane_eq_setLane hpresent
    (LaneRun.exitRestore_seen ha hp he hseen) (laneNoticeDue_of_same rfl rfl)))

/-- A second rider enters (R56). -/
theorem exec_entryBreak_passing (h : BeamAt l .entry .clear s) (hs : (s.laneAt l).state.holdsAdmission = true)
    (hp : a.phase = .passing) : exec (.beamBreak l .entry) s = .next ((s.setLane l { s.laneAt l with
      entryBeam := .broken, faultMark := some .tailgate }).handEvents [laneEvent .tailgate l]) := by
  obtain ⟨hpresent, -, -⟩ := id h
  exact (exec_beamBreak h).trans (congrArg Host.Outcome.next (runLane_eq_handEvents hpresent
    (LaneRun.entryBreak_passing _ hs ha hp) (laneNoticeDue_of_same rfl rfl)))

/-- Somebody comes in by the exit before the rider has entered (R55). -/
theorem exec_exitBreak_released (he : (s.laneAt l).ending = .none) (h : BeamAt l .exit .clear s)
    (hs : (s.laneAt l).state.holdsAdmission = true) (hp : a.phase = .released) :
    exec (.beamBreak l .exit) s = .next ((s.setLane l { s.laneAt l with
      exitBeam := .broken, faultMark := some .reverse, window := none, gate := false,
      ending := .withdraw }).handEvents [laneEvent .reverse l]) := by
  obtain ⟨hpresent, -, -⟩ := id h
  exact (exec_beamBreak h).trans (congrArg Host.Outcome.next (runLane_eq_handEvents hpresent
    (LaneRun.exitBreak_released _ hs he ha hp) (laneNoticeDue_of_same rfl rfl)))

end Admission

/-- Settles O17. -/
theorem beamsMoveTheAdmissionOrFault : Obligations.BeamsMoveTheAdmissionOrFault := by
  refine ⟨fun l a s ha he => ⟨exec_entryBreak_released ha he, exec_exitBreak_passing ha he, exec_exitRestore_seen ha he⟩,
    fun l s => ⟨exec_beamRestore_entry, fun h hother => ?_⟩,
    fun l b s h => ⟨exec_beamBreak_shut h, fun hs => ?_, fun hs he => ?_, fun a hb hs ha hp => ?_, fun a hb hs ha hp he => ?_⟩⟩
  · obtain ⟨hpresent, -, -⟩ := id h
    exact (exec_beamRestore_exit h).trans (congrArg Host.Outcome.next (runLane_eq_setLane hpresent
      (LaneRun.exitRestore_other hother) (laneNoticeDue_of_same rfl rfl)))
  · cases b <;> exact exec_beamBreak_serving h hs
  · cases b <;> exact exec_beamBreak_ending h hs he
  · subst hb
    exact exec_entryBreak_passing ha h hs hp
  · subst hb
    exact exec_exitBreak_released ha he h hs hp

end Sys2Proof

/-! ## Presentations

What a reader's presentation finds at its lane, by the lane's state, and how a lane that goes on takes up what waits (R45, R52 to
R54, R60, R61). -/

namespace Sys2Proof

open Machine Claims State

/-! ### The read check -/

section ReadCheck

variable {policy : ReadPolicy} {p : Presentation}

theorem readCheck_passes (h : p.status = .good ∨ (policy ≠ .strict ∧ p.status = .corrected)) :
    readCheck policy p = .passes := by
  rcases h with h | ⟨hp, h⟩
  · exact LaneRun.readCheck_good h
  · cases policy <;> simp_all [readCheck]

theorem readCheck_reread (hp : policy ≠ .strict) (h : p.status = .fault) (ha : p.attempt ≤ 3) : readCheck policy p = .reread := by
  cases policy <;> simp_all [readCheck]

theorem readCheck_refuse (h : (policy = .strict ∧ p.status ≠ .good) ∨ (policy ≠ .strict ∧ p.status = .fault ∧ 3 < p.attempt)) :
    readCheck policy p = .refuse := by
  rcases h with ⟨rfl, h⟩ | ⟨hp, h, ha⟩
  · cases hs : p.status <;> simp_all [readCheck]
  · cases policy <;> simp_all [readCheck, Nat.not_le.2 ha]

end ReadCheck

/-! ### Taking up -/

namespace Machine.LaneRun

variable (env : LaneEnv) {r : LaneRun} {p : Presentation} {n : Nat}

@[simp] theorem enter_deciding (r : LaneRun) : r.enter env .deciding =
    { r with lane := { r.lane with state := .deciding, lampLit := true, blinkAt := none } } := by
  simp [enter, upd]

/-- A presentation given REREAD, and what the next slot holds taken up in turn (R53, R54). -/
theorem takeUp_reread (hs : r.lane.state = .ready) (hc : r.lane.current = some p)
    (hcheck : readCheck env.policy p = .reread) : r.takeUp env (n + 1) =
      LaneRun.takeUp env n ((r.notifyRead env p).send env p.pass .reread).finishSlot := by
  simp only [takeUp, hs, hc, hcheck, if_true]

/-- A presentation refused READ FAULT, and what the next slot holds taken up in turn (R53, R54). -/
theorem takeUp_refuse (hs : r.lane.state = .ready) (hc : r.lane.current = some p)
    (hcheck : readCheck env.policy p = .refuse) : r.takeUp env (n + 1) =
      LaneRun.takeUp env n (((r.notifyRead env p).send env p.pass (.refuse .readFault)).hand
        (refusedEvent env.lane none .readFault)).finishSlot := by
  simp only [takeUp, hs, hc, hcheck, if_true]

/-- What NOTIFY adds to the read check (R54). -/
theorem notifyRead_eq (r : LaneRun) : r.notifyRead env p =
    if env.policy = .notify then
      if p.status = .good then
        { r with lane := { r.lane with condition := if r.lane.condition = .readFault then .none else r.lane.condition } }
      else
        { r with
          lane := { r.lane with condition := .readFault },
          events := r.events ++ [{ kind := .readFault, lane := some env.lane, cls := none, reason := none }] }
    else r := by
  cases h : p.status <;> simp [notifyRead, h, upd, hand, laneEvent]

/-- REREAD, and the slot finished. -/
theorem reread_finishSlot (u : LaneRun) (p : Presentation) : (u.send env p.pass .reread).finishSlot = { u with lane := { u.lane with
    current := u.lane.next, next := none, readerOut := u.lane.readerOut ++ [{ pass := p.pass, kind := .reread }] } } := rfl

/-- REFUSE READ FAULT, and the slot finished. -/
theorem refuse_finishSlot (u : LaneRun) (p : Presentation) :
    ((u.send env p.pass (.refuse .readFault)).hand (refusedEvent env.lane none .readFault)).finishSlot = { u with
      lane := { u.lane with
        current := u.lane.next, next := none, toneAt := some (env.now + 300),
        readerOut := u.lane.readerOut ++ [{ pass := p.pass, kind := .refuse .readFault }] },
      events := u.events ++ [{ kind := .refused, lane := some env.lane, cls := none, reason := some .readFault }] } := rfl

theorem resume_paused (h : r.lane.pause = true) : r.resume env = r.toPaused env := if_pos h

theorem resume_ready (h : r.lane.pause = false) : r.resume env = r.toReady env := if_neg (by simp [h])

end Machine.LaneRun

/-! ### A presentation at its lane -/

namespace Machine.LaneRun

variable (env : LaneEnv) {r : LaneRun} {p : Presentation} {po : Option Presentation} (pass : Nat)

/-- What NOTIFY adds to the read check at the start of an event (R54). -/
theorem notifyRead_start (ln : Lane) : ({ lane := ln, events := [], msgs := [] } : LaneRun).notifyRead env p =
    { lane := { ln with
        condition :=
          if env.policy = .notify then
            if p.status = .good then
              if ln.condition = .readFault then .none else ln.condition
            else .readFault
          else ln.condition },
      events :=
        if env.policy = .notify ∧ p.status ≠ .good then
          [{ kind := .readFault, lane := some env.lane, cls := none, reason := none }] else [],
      msgs := [] } := by
  rw [notifyRead_eq]
  by_cases hpolicy : env.policy = .notify <;> by_cases hgood : p.status = .good <;> simp [hpolicy, hgood]

theorem present_shut (h : r.lane.state.answersClosed = true) : r.present env pass po = r.send env pass .closed := if_pos h

theorem present_malformed (h : r.lane.state.answersClosed = false) : r.present env pass none =
    (r.send env pass (.refuse .readFault)).hand (refusedEvent env.lane none .readFault) := by
  simp [present, h]

theorem present_doubleTap (h : r.lane.state.answersClosed = false) (hd : r.lane.doubleTap p.pass = true) :
    r.present env pass (some p) = r := by
  simp [present, h, hd]

section Slots

variable (h : r.lane.state.answersClosed = false) (hd : r.lane.doubleTap p.pass = false)

include h hd

theorem present_full (hc : r.lane.current.isSome = true) (hn : r.lane.next.isSome = true) :
    r.present env pass (some p) = r.send env p.pass .wait := by
  simp [present, h, hd, hc, hn]

/-- A presentation is placed in the current slot, where that is empty (R52). -/
theorem present_current (hc : r.lane.current = none) : r.present env pass (some p) =
    LaneRun.takeUp env 2 { r with lane := { r.lane with
      current := some p,
      readerOut := r.lane.readerOut ++ if r.lane.state = .paused then [{ pass := p.pass, kind := .wait }] else [] } } := by
  by_cases hs : r.lane.state = .paused
  · simp [present, hd, hc, upd, send, hs, LaneState.answersClosed]
  · simp [present, h, hd, hc, upd, hs]

/-- A presentation is placed in the next slot, where that alone is empty (R52). -/
theorem present_next (hc : r.lane.current.isSome = true) (hn : r.lane.next = none) : r.present env pass (some p) =
    LaneRun.takeUp env 2 { r with lane := { r.lane with
      next := some p,
      readerOut := r.lane.readerOut ++ if r.lane.state = .paused then [{ pass := p.pass, kind := .wait }] else [] } } := by
  obtain ⟨q, hq⟩ := Option.isSome_iff_exists.1 hc
  by_cases hs : r.lane.state = .paused
  · simp [present, hd, hq, hn, upd, send, hs, LaneState.answersClosed]
  · simp [present, h, hd, hq, hn, upd, hs]

end Slots

/-- Whatever becomes of a presentation, the silence timer and the reader's mark stay (R46). -/
theorem present_keeps (r : LaneRun) (po : Option Presentation) : (r.present env pass po).lane.silence = r.lane.silence
    ∧ (r.present env pass po).lane.readerPresent = r.lane.readerPresent := by
  cases h : r.lane.state.answersClosed with
  | true => rw [present_shut env pass h]; exact ⟨rfl, rfl⟩
  | false =>
    cases po with
    | none => rw [present_malformed env pass h]; exact ⟨rfl, rfl⟩
    | some p =>
      cases hd : r.lane.doubleTap p.pass with
      | true => rw [present_doubleTap env pass h hd]; exact ⟨rfl, rfl⟩
      | false =>
        cases hc : r.lane.current with
        | none =>
          rw [present_current env pass h hd hc]
          exact (takeUp_keeps env 2 _).2.2
        | some q =>
          have hc : r.lane.current.isSome = true := by simp [hc]
          cases hn : r.lane.next with
          | none =>
            rw [present_next env pass h hd hc hn]
            exact (takeUp_keeps env 2 _).2.2
          | some q' =>
            rw [present_full env pass h hd hc (by simp [hn])]
            exact ⟨rfl, rfl⟩

end Machine.LaneRun

theorem presentationOf_pass {pass : BitVec 32} {media status attempt : Byte} {p : Presentation}
    (h : presentationOf pass media status attempt = some p) : p.pass = pass.toNat := by
  unfold presentationOf at h
  split at h
  · split at h
    · rw [← Option.some.inj h]
    · exact nomatch h
  · exact nomatch h

theorem Lane.doubleTap_empty {ln : Lane} (hc : ln.current = none) (hn : ln.next = none) (ha : ln.admission = none) (p : Nat) :
    ln.doubleTap p = false := by
  simp [Lane.doubleTap, hc, hn, ha]

/-- A lane whose reader has been heard (R46). -/
def heardLane (l : LaneNo) (s : State) : Lane := { s.laneAt l with silence := some (s.now + 3000), readerPresent := true }

section TakePresentation

variable {s : State} {l : LaneNo} (hpresent : s.lanePresent l = true) {pass : BitVec 32} {media status attempt : Byte}
  {po : Option Presentation} (hp : presentationOf pass media status attempt = po) {r : LaneRun}
  (hr : LaneRun.present (s.laneEnv l) pass.toNat po { lane := heardLane l s, events := [], msgs := [] } = r)

include hpresent hp hr

theorem takePresentation_eq : s.takePresentation l pass media status attempt = laneAfter l r s := by
  subst hp
  exact (runLane_eq_laneAfter _ hpresent).trans (congrArg (laneAfter l · s) hr)

theorem takePresentation_laneAt : (s.takePresentation l pass media status attempt).laneAt l = r.lane := by
  subst hp
  exact (runLane_laneAt _ hpresent).trans (congrArg LaneRun.lane hr)

theorem takePresentation_tally (he : r.events = []) : (s.takePresentation l pass media status attempt).tally = s.tally := by
  subst hp
  exact runLane_tally_of_no_events hpresent ((congrArg LaneRun.events hr).trans he)

theorem takePresentation_inbox {es : List Event} (he : r.events = es) (hes : es ≠ []) :
    (s.takePresentation l pass media status attempt).tally.inbox = s.tally.inbox ++ [es] := by
  subst hp
  have hevents := (congrArg LaneRun.events hr).trans he
  refine (runLane_inbox _ hpresent).trans (congrArg _ ((if_neg ?_).trans (congrArg (fun x => [x]) hevents)))
  exact fun hnil => hes (hevents.symm.trans hnil)

end TakePresentation

/-- A presentation in a READY lane with empty slots is taken up at once (R53, R54). -/
theorem present_ready (env : LaneEnv) {ln : Lane} (hs : ln.state = .ready) (hc : ln.current = none) (hn : ln.next = none)
    (ha : ln.admission = none) (p : Presentation) (pass : Nat) :
    LaneRun.present env pass (some p) { lane := ln, events := [], msgs := [] } =
      LaneRun.takeUp env 2 { lane := { ln with current := some p }, events := [], msgs := [] } := by
  rw [LaneRun.present_current env pass (by simp [hs, LaneState.answersClosed]) (Lane.doubleTap_empty hc hn ha _) hc]
  simp [hs]

/-- A presentation in a READY lane with empty slots, by its read check (R53, R54). -/
theorem takePresentation_ready {s : State} {l : LaneNo} (hpresent : s.lanePresent l = true) {pass : BitVec 32}
    {media status attempt : Byte} {p : Presentation} (hp : presentationOf pass media status attempt = some p)
    (hs : (s.laneAt l).state = .ready) (hc : (s.laneAt l).current = none) (hn : (s.laneAt l).next = none)
    (ha : (s.laneAt l).admission = none) {u : LaneRun}
    (hu : u = LaneRun.notifyRead (s.laneEnv l) p { lane := heardLane l s, events := [], msgs := [] }) :
    ((p.status = .good ∨ (s.decoder.profile.readPolicy[l] ≠ .strict ∧ p.status = .corrected) →
        s.takePresentation l pass media status attempt = laneAfter l { u with lane := { u.lane with
          state := .deciding, lampLit := true, blinkAt := none, current := some p } } s)
      ∧ (s.decoder.profile.readPolicy[l] ≠ .strict → p.status = .fault → p.attempt ≤ 3 →
        s.takePresentation l pass media status attempt = laneAfter l { u with lane := { u.lane with
          readerOut := u.lane.readerOut ++ [{ pass := p.pass, kind := .reread }] } } s)
      ∧ ((s.decoder.profile.readPolicy[l] = .strict ∧ p.status ≠ .good)
          ∨ (s.decoder.profile.readPolicy[l] ≠ .strict ∧ p.status = .fault ∧ 3 < p.attempt) →
        s.takePresentation l pass media status attempt = laneAfter l { u with
          lane := { u.lane with
            toneAt := some (s.now + 300),
            readerOut := u.lane.readerOut ++ [{ pass := p.pass, kind := .refuse .readFault }] },
          events := u.events ++ [{ kind := .refused, lane := some l, cls := none, reason := some .readFault }] } s)) := by
  have hup := present_ready (s.laneEnv l) (ln := heardLane l s) hs hc hn ha p pass.toNat
  rw [LaneRun.notifyRead_start] at hu
  subst hu
  refine ⟨fun hcheck => ?_, fun hpolicy hfault hattempt => ?_, fun hcheck => ?_⟩ <;>
    refine takePresentation_eq hpresent hp (hup.trans ?_)
  · rw [LaneRun.takeUp_passes _ hs rfl (readCheck_passes hcheck), LaneRun.notifyRead_start, LaneRun.enter_deciding]
  · rw [LaneRun.takeUp_reread _ hs rfl (readCheck_reread hpolicy hfault hattempt), LaneRun.notifyRead_start,
      LaneRun.reread_finishSlot, LaneRun.takeUp_empty _ hn]
    simp [heardLane, hc, hn]
  · rw [LaneRun.takeUp_refuse _ hs rfl (readCheck_refuse hcheck), LaneRun.notifyRead_start,
      LaneRun.refuse_finishSlot, LaneRun.takeUp_empty _ hn]
    simp [heardLane, hc, hn, laneEnv]

/-- A presentation that is placed in a lane that does not serve it yet (R52). -/
theorem takePresentation_placed {s : State} {l : LaneNo} (hpresent : s.lanePresent l = true) {pass : BitVec 32}
    {media status attempt : Byte} {p : Presentation} (hp : presentationOf pass media status attempt = some p)
    (hopen : (s.laneAt l).state.answersClosed = false) (hs : (s.laneAt l).state ≠ .ready)
    (hd : (s.laneAt l).doubleTap p.pass = false) :
    (s.takePresentation l pass media status attempt).tally = s.tally
      ∧ ((s.laneAt l).current = none → (s.takePresentation l pass media status attempt).laneAt l = { heardLane l s with
        current := some p,
        readerOut := (s.laneAt l).readerOut ++ if (s.laneAt l).state = .paused then [{ pass := p.pass, kind := .wait }] else [] })
      ∧ ((s.laneAt l).current.isSome = true → (s.laneAt l).next = none →
        (s.takePresentation l pass media status attempt).laneAt l = { heardLane l s with
          next := some p,
          readerOut := (s.laneAt l).readerOut ++
            if (s.laneAt l).state = .paused then [{ pass := p.pass, kind := .wait }] else [] }) := by
  have hcurrent (hc : (s.laneAt l).current = none) := (LaneRun.present_current (s.laneEnv l)
    (r := { lane := heardLane l s, events := [], msgs := [] }) pass.toNat hopen hd hc).trans (LaneRun.takeUp_of_not_ready 2 hs)
  have hnext (hc : (s.laneAt l).current.isSome = true) (hn : (s.laneAt l).next = none) := (LaneRun.present_next (s.laneEnv l)
    (r := { lane := heardLane l s, events := [], msgs := [] }) pass.toNat hopen hd hc hn).trans (LaneRun.takeUp_of_not_ready 2 hs)
  have hfull (hc : (s.laneAt l).current.isSome = true) (hn : (s.laneAt l).next.isSome = true) :=
    LaneRun.present_full (s.laneEnv l) (r := { lane := heardLane l s, events := [], msgs := [] }) pass.toNat hopen hd hc hn
  refine ⟨?_, fun hc => takePresentation_laneAt hpresent hp (hcurrent hc),
    fun hc hn => takePresentation_laneAt hpresent hp (hnext hc hn)⟩
  cases hc : (s.laneAt l).current with
  | none => exact takePresentation_tally hpresent hp (hcurrent hc) rfl
  | some q =>
    cases hn : (s.laneAt l).next with
    | none => exact takePresentation_tally hpresent hp (hnext (by simp [hc]) hn) rfl
    | some q' => exact takePresentation_tally hpresent hp (hfull (by simp [hc]) (by simp [hn])) rfl

/-- How a lane goes on, and how it takes up what waits (R53, R54, R57, R60, R61). -/
theorem resume_and_takeUp (env : LaneEnv) (r : LaneRun) :
    (r.lane.pause = true → r.resume env = { r with lane := { r.lane with
        state := .paused, lampLit := true, blinkAt := none,
        readerOut := r.lane.readerOut ++ (r.lane.current.toList.map fun p => { pass := p.pass, kind := .wait }) } })
    ∧ (r.lane.pause = false →
        r.resume env = LaneRun.takeUp env 2 { r with lane := { r.lane with
          state := .ready, lampLit := true, blinkAt := none } }) :=
  ⟨fun h => (LaneRun.resume_paused env h).trans (LaneRun.toPaused_eq env r), fun h => by
    rw [LaneRun.resume_ready env h, LaneRun.toReady, LaneRun.enter_ready]⟩

/-- A presentation taken up, by its read check (R53, R54). -/
theorem takeUp_by_check (env : LaneEnv) {r : LaneRun} (n : Nat) {p : Presentation} {u : LaneRun} (hs : r.lane.state = .ready)
    (hc : r.lane.current = some p) (hu : u = r.notifyRead env p) :
    (p.status = .good ∨ (env.policy ≠ .strict ∧ p.status = .corrected) →
        r.takeUp env (n + 1) = { u with lane := { u.lane with state := .deciding, lampLit := true, blinkAt := none } })
      ∧ (env.policy ≠ .strict → p.status = .fault → p.attempt ≤ 3 →
        r.takeUp env (n + 1) = LaneRun.takeUp env n { u with lane := { u.lane with
          current := r.lane.next, next := none,
          readerOut := r.lane.readerOut ++ [{ pass := p.pass, kind := .reread }] } })
      ∧ ((env.policy = .strict ∧ p.status ≠ .good) ∨ (env.policy ≠ .strict ∧ p.status = .fault ∧ 3 < p.attempt) →
        r.takeUp env (n + 1) = LaneRun.takeUp env n { u with
          lane := { u.lane with
            current := r.lane.next, next := none, toneAt := some (env.now + 300),
            readerOut := r.lane.readerOut ++ [{ pass := p.pass, kind := .refuse .readFault }] },
          events := u.events ++ [{ kind := .refused, lane := some env.lane, cls := none, reason := some .readFault }] }) := by
  obtain ⟨c, hlane⟩ := LaneRun.notifyRead_lane env p r
  rw [← hu] at hlane
  have hnext : u.lane.next = r.lane.next := by rw [hlane]
  have hout : u.lane.readerOut = r.lane.readerOut := by rw [hlane]
  refine ⟨fun hcheck => ?_, fun hpolicy hfault hattempt => ?_, fun hcheck => ?_⟩
  · rw [LaneRun.takeUp_passes env hs hc (readCheck_passes hcheck), ← hu, LaneRun.enter_deciding]
  · rw [LaneRun.takeUp_reread env hs hc (readCheck_reread hpolicy hfault hattempt), ← hu, LaneRun.reread_finishSlot, hnext, hout]
  · rw [LaneRun.takeUp_refuse env hs hc (readCheck_refuse hcheck), ← hu, LaneRun.refuse_finishSlot, hnext, hout]

/-- Settles O15. -/
theorem presentationsAreTakenByState : Obligations.PresentationsAreTakenByState := by
  refine ⟨fun l pass media status attempt s hpresent => ⟨_, rfl, onlyLane_runLane .., ?_, ?_, ?_, ?_, ?_, ?_, ?_, ?_⟩,
    fun env r => ⟨(resume_and_takeUp env r).1, (resume_and_takeUp env r).2, fun n => ⟨fun hrest => ?_, fun p u hs hc hu => ?_⟩⟩⟩
  · exact (congrArg Lane.silence (takePresentation_laneAt hpresent rfl rfl)).trans (LaneRun.present_keeps ..).1
  · exact (congrArg Lane.readerPresent (takePresentation_laneAt hpresent rfl rfl)).trans (LaneRun.present_keeps ..).2
  · intro p policy heard noticed hp hs hc hn ha hpolicy hheard hnoticed
    subst hpolicy hheard hnoticed
    exact takePresentation_ready hpresent hp hs hc hn ha (LaneRun.notifyRead_start ..).symm
  · exact fun p hp hopen hs hd => takePresentation_placed hpresent hp hopen hs hd
  · intro hs
    have hshut : (heardLane l s).state.answersClosed = true := by
      rcases hs with h | h | h <;> simp [heardLane, h, LaneState.answersClosed]
    have hrun := LaneRun.present_shut (s.laneEnv l) (r := { lane := heardLane l s, events := [], msgs := [] })
      (po := presentationOf pass media status attempt) pass.toNat hshut
    exact ⟨takePresentation_laneAt hpresent rfl hrun, takePresentation_tally hpresent rfl hrun rfl⟩
  · intro p hp hopen hd
    have hrun := LaneRun.present_doubleTap (s.laneEnv l) (r := { lane := heardLane l s, events := [], msgs := [] })
      pass.toNat hopen hd
    exact ⟨takePresentation_laneAt hpresent hp hrun, takePresentation_tally hpresent hp hrun rfl⟩
  · intro p hp hopen hd hc hn
    have hrun := LaneRun.present_full (s.laneEnv l) (r := { lane := heardLane l s, events := [], msgs := [] })
      pass.toNat hopen hd hc hn
    rw [← presentationOf_pass hp]
    exact ⟨takePresentation_laneAt hpresent hp hrun, takePresentation_tally hpresent hp hrun rfl⟩
  · intro hp hopen
    have hrun := LaneRun.present_malformed (s.laneEnv l) (r := { lane := heardLane l s, events := [], msgs := [] })
      pass.toNat hopen
    exact ⟨takePresentation_laneAt hpresent hp hrun, takePresentation_inbox hpresent hp hrun rfl (by simp)⟩
  · rcases hrest with h | h
    · exact LaneRun.takeUp_of_not_ready n h
    · exact LaneRun.takeUp_empty env h
  · exact takeUp_by_check env n hs hc (hu.trans (LaneRun.notifyRead_eq env r).symm)

end Sys2Proof

/-! ## One event at several lanes, and the lane requests

What an event at each lane of a list leaves, lane by lane, and the three requests that name lanes (R51, R62 to R65). -/

namespace Sys2Proof

open Machine Claims State

/-! ### One event at several lanes -/

/-- What a lane's event makes of its lane as the part stands. -/
def laneRunAt (f : LaneEnv → LaneRun → LaneRun) (s : State) (l : LaneNo) : LaneRun :=
  f (s.laneEnv l) { lane := s.laneAt l, events := [], msgs := [] }

/-- The batches that a lane's event hands: one, or none where it hands no event (R149). -/
def batchesOf (es : List Event) : List (List Event) := if es = [] then [] else [es]

@[simp] theorem batchesOf_nil : batchesOf [] = [] := rfl
@[simp] theorem batchesOf_singleton (e : Event) : batchesOf [e] = [[e]] := rfl

/-- Each lane of a list has taken its own event, and nothing else has changed of the lanes, the tally unit and the decoder. -/
structure EachLane (ls : List LaneNo) (f : LaneEnv → LaneRun → LaneRun) (s t : State) : Prop where
  lane : ∀ l ∈ ls, t.laneAt l = (laneRunAt f s l).lane
  other : ∀ l, l ∉ ls → t.laneAt l = s.laneAt l
  inbox : t.tally.inbox = s.tally.inbox ++ ls.flatMap fun l => batchesOf (laneRunAt f s l).events
  tally : { t.tally with inbox := s.tally.inbox } = s.tally
  laneMsgs : t.decoder.laneMsgs = s.decoder.laneMsgs ++ ls.flatMap fun l =>
    (laneRunAt f s l).msgs ++ laneNotice l (s.laneAt l) (laneRunAt f s l).lane
  decoder : { t.decoder with laneMsgs := s.decoder.laneMsgs } = s.decoder

/-- A lane's event leaves what the event of another reads. -/
theorem laneRunAt_runLane {s : State} {l m : LaneNo} (f : LaneEnv → LaneRun → LaneRun) (h : m ≠ l) :
    laneRunAt f (s.runLane l f) m = laneRunAt f s m := by
  have hdecoder := runLane_decoder s l f
  have hprofile := congrArg Decoder.profile hdecoder
  dsimp only at hprofile
  rw [laneRunAt, runLane_other f h]
  simp [laneRunAt, State.laneEnv, State.now, hprofile]

/-- The messages a lane's event raises, its notice last (R51). -/
theorem runLane_laneMsgs {s : State} {l : LaneNo} (f : LaneEnv → LaneRun → LaneRun) (h : s.lanePresent l = true) :
    (s.runLane l f).decoder.laneMsgs = s.decoder.laneMsgs ++
      ((laneRunAt f s l).msgs ++ laneNotice l (s.laneAt l) (laneRunAt f s l).lane) := by
  rw [runLane_eq_laneAfter f h]
  simp [laneAfter, raiseLane, updDecoder, laneRunAt]

theorem eachLane_runLanes (f : LaneEnv → LaneRun → LaneRun) {ls : List LaneNo} (hnodup : ls.Nodup) {s : State}
    (hpresent : ∀ l ∈ ls, s.lanePresent l = true) : EachLane ls f s (s.runLanes ls f) := by
  induction ls generalizing s with
  | nil => exact ⟨nofun, fun _ _ => rfl, (List.append_nil _).symm, rfl, (List.append_nil _).symm, rfl⟩
  | cons l ls ih =>
    obtain ⟨hl, hnodup⟩ := List.nodup_cons.1 hnodup
    obtain ⟨hpresentl, hpresentls⟩ := List.forall_mem_cons.1 hpresent
    obtain ⟨-, -, -, hport, -⟩ := runLane_frame s l f
    obtain ⟨hlane, hother, hinbox, htally, hmsgs, hdecoder⟩ := ih (s := s.runLane l f) hnodup fun m hm =>
      (lanePresent_congr (congrArg Port.eightLanes hport) m).trans (hpresentls m hm)
    have hsame : ∀ m ∈ ls, laneRunAt f (s.runLane l f) m = laneRunAt f s m := fun m hm =>
      laneRunAt_runLane f (ne_of_mem_of_not_mem hm hl)
    refine ⟨fun m hm => ?_, fun m hm => ?_, ?_, ?_, ?_, ?_⟩
    · rcases List.mem_cons.1 hm with rfl | hm
      · exact (hother m hl).trans (runLane_laneAt f hpresentl)
      · exact (hlane m hm).trans (congrArg _ (hsame m hm))
    · obtain ⟨hne, hm⟩ := not_or.1 (List.mem_cons.not.1 hm)
      exact (hother m hm).trans (runLane_other f hne)
    · refine hinbox.trans ?_
      rw [runLane_inbox f hpresentl, List.append_assoc, List.flatMap_cons, List.flatMap_congr fun m hm => by rw [hsame m hm]]
      rfl
    · calc
        _ = { (s.runLane l f).tally with inbox := s.tally.inbox } := by rw [← htally]; rfl
        _ = s.tally := runLane_tally s l f
    · refine hmsgs.trans ?_
      rw [runLane_laneMsgs f hpresentl, List.append_assoc, List.flatMap_cons]
      refine congrArg _ (congrArg _ (List.flatMap_congr fun m hm => ?_))
      rw [hsame m hm, runLane_other f (ne_of_mem_of_not_mem hm hl)]
    · calc
        _ = { (s.runLane l f).decoder with laneMsgs := s.decoder.laneMsgs } := by rw [← hdecoder]; rfl
        _ = s.decoder := runLane_decoder s l f

/-! ### The lanes of a mask -/

section Mask

variable {mask : LaneMask} {s : State}

theorem mem_lanesOf {l : LaneNo} : l ∈ lanesOf mask ↔ mask.getLsbD l = true := by simp [lanesOf]

theorem lanesOf_nodup (mask : LaneMask) : (lanesOf mask).Nodup := (List.nodup_finRange 8).filter _

/-- A mask is refused that names no lane, or an absent one (R62). -/
theorem badLaneMask_iff : s.badLaneMask mask = true ↔ mask = 0 ∨ ∃ l : LaneNo, mask.getLsbD l = true ∧ s.lanePresent l = false := by
  simp [State.badLaneMask, mem_lanesOf]

theorem lanePresent_of_mask (h : s.badLaneMask mask = false) : ∀ l ∈ lanesOf mask, s.lanePresent l = true := by
  intro l hl
  by_contra habsent
  have hbad := badLaneMask_iff.2 (.inr ⟨l, mem_lanesOf.1 hl, by simpa using habsent⟩)
  simp [h] at hbad

/-- A lane request whose mask is accepted: each lane of the mask takes the event, and the answer lists them (R62). -/
theorem laneRequest_eachLane (f : LaneEnv → LaneRun → LaneRun) (h : s.badLaneMask mask = false) :
    EachLane (lanesOf mask) f s (s.runLanes (lanesOf mask) f) :=
  eachLane_runLanes f (lanesOf_nodup mask) (lanePresent_of_mask h)

end Mask

section Requests

variable {o : Origin} {mask : LaneMask} {s : State}

/-- A lane request with a bad mask, a LANE STATUS too (R62). -/
theorem exec_laneRequest_badMask (hbad : s.badLaneMask mask = true) :
    (Waits o (.laneOpen mask) s → exec (.laneOpen o) s = .next (s.fail o .badArgument none (blockField 4)))
      ∧ (Waits o (.laneClose mask) s → exec (.laneClose o) s = .next (s.fail o .badArgument none (blockField 4)))
      ∧ (Waits o (.laneReset mask) s → exec (.laneReset o) s = .next (s.fail o .badArgument none (blockField 4)))
      ∧ (Waits o (.laneStatus mask) s → exec (.laneStatus o) s = .next (s.fail o .badArgument none (blockField 4))) := by
  refine ⟨fun h => ?_, fun h => ?_, fun h => ?_, fun h => ?_⟩
  · simp only [exec, execLaneOpen, show s.waitingRequest o = _ from h, hbad, if_true]
  · simp only [exec, execLaneClose, show s.waitingRequest o = _ from h, hbad, if_true]
  · simp only [exec, execLaneReset, show s.waitingRequest o = _ from h, hbad, if_true]
  · simp only [exec, execLaneStatus, show s.waitingRequest o = _ from h, hbad, if_true]

theorem exec_laneOpen (hbad : s.badLaneMask mask = false) (h : Waits o (.laneOpen mask) s) : exec (.laneOpen o) s =
    .next (if s.clock.state ≠ .running ∨ s.clearing ∨ s.lanes.settleAt ≠ none then s.fail o .notReady none none
      else s.laneRequest o mask fun env r => r.openLane env) := by
  simp only [exec, execLaneOpen, show s.waitingRequest o = _ from h, hbad, Bool.false_eq_true, if_false]

theorem exec_laneClose (hbad : s.badLaneMask mask = false) (h : Waits o (.laneClose mask) s) : exec (.laneClose o) s =
    .next (s.laneRequest o mask fun env r => r.closeLane env) := by
  simp only [exec, execLaneClose, show s.waitingRequest o = _ from h, hbad, Bool.false_eq_true, if_false]

theorem exec_laneReset (hbad : s.badLaneMask mask = false) (h : Waits o (.laneReset mask) s) : exec (.laneReset o) s =
    .next (s.laneRequest o mask fun env r => r.resetLane env) := by
  simp only [exec, execLaneReset, show s.waitingRequest o = _ from h, hbad, Bool.false_eq_true, if_false]

end Requests

section EachLane

variable {ls : List LaneNo} {f : LaneEnv → LaneRun → LaneRun} {s t : State} (h : EachLane ls f s t)

include h

/-- The contexts of the origins are no matter of the lanes. -/
theorem EachLane.context (o : Origin) : t.context o = s.context o := by
  have hstation := congrArg Decoder.station h.decoder
  have hoffice := congrArg Decoder.office h.decoder
  cases o
  · exact hstation
  · exact hoffice

/-- Lanes that hand no event leave the tally unit. -/
theorem EachLane.tally_of_no_events (he : ∀ l ∈ ls, (laneRunAt f s l).events = []) : t.tally = s.tally := by
  have hinbox : t.tally.inbox = s.tally.inbox := by
    rw [h.inbox, List.flatMap_congr fun l hl => by rw [he l hl]]
    simp
  calc
    _ = { t.tally with inbox := t.tally.inbox } := rfl
    _ = s.tally := by rw [hinbox]; exact h.tally

end EachLane

/-! ### One lane opened, closed, reset -/

namespace Machine.LaneRun

variable (env : LaneEnv) {r : LaneRun}

theorem openLane_other (h : r.lane.state ≠ .closed) : r.openLane env = r := if_neg h

/-- An opened lane whose beams are clear goes on, its slots being empty (R63). -/
theorem openLane_clear (h : r.lane.state = .closed) (hentry : r.lane.entryBeam = .clear) (hexit : r.lane.exitBeam = .clear)
    (hc : r.lane.current = none) : r.openLane env = { r with lane := { r.lane with
      condition := .none, silence := some (env.now + 3000), state := if r.lane.pause then .paused else .ready, lampLit := true,
      blinkAt := none } } := by
  cases hp : r.lane.pause <;> simp [openLane, h, upd, hentry, hexit, hp, toPaused_eq, toReady_empty, hc]

/-- An open meets a broken entry beam (R58, R63). -/
theorem openLane_entry (h : r.lane.state = .closed) (hentry : r.lane.entryBeam = .broken) (hm : r.msgs = []) :
    r.openLane env = { r with
      lane := faulted env .tailgate { r.lane with condition := .none, silence := some (env.now + 3000) },
      events := r.events ++ [laneEvent .tailgate env.lane] } := by
  have hfault := toFault_eq env (r := { r with
    lane := { r.lane with condition := .none, silence := some (env.now + 3000) },
    events := r.events ++ [laneEvent .tailgate env.lane] }) .tailgate hm
  simpa [openLane, h, upd, hentry, hand, faultEntered, hm] using hfault

/-- An open meets a broken exit beam alone (R58, R63). -/
theorem openLane_exit (h : r.lane.state = .closed) (hentry : r.lane.entryBeam = .clear) (hexit : r.lane.exitBeam = .broken)
    (hm : r.msgs = []) : r.openLane env = { r with
      lane := faulted env .reverse { r.lane with condition := .none, silence := some (env.now + 3000) },
      events := r.events ++ [laneEvent .reverse env.lane] } := by
  have hfault := toFault_eq env (r := { r with
    lane := { r.lane with condition := .none, silence := some (env.now + 3000) },
    events := r.events ++ [laneEvent .reverse env.lane] }) .reverse hm
  simpa [openLane, h, upd, hentry, hexit, hand, faultEntered, hm] using hfault

/-- A lane with nobody waiting or passing closes (R64). -/
theorem closeLane_serving (h : r.lane.state = .ready ∨ r.lane.state = .paused ∨ r.lane.state = .deciding) :
    r.closeLane env = { r with lane := { r.lane with
      state := .closed, lampLit := true, blinkAt := none, toneAt := none, current := none, next := none,
      readerOut := r.lane.readerOut ++ closedVerdicts r.lane } } := by
  rcases h with h | h | h <;> simp [closeLane, h, closeSlots_eq, enter, upd]

/-- A waiting lane closes, its miss ended (R64, R83). -/
theorem closeLane_waiting (h : r.lane.state = .waiting) {p : Presentation} (hc : r.lane.current = some p) :
    r.closeLane env = { r with
      lane := { r.lane with
        state := .closed, lampLit := true, blinkAt := none, toneAt := none, current := none, next := none, miss := none,
        missWait := none, readerOut := r.lane.readerOut ++ [{ pass := p.pass, kind := .refuse .laneClosing }]
          ++ closedVerdicts { r.lane with current := none } },
      events := r.events ++ [refusedEvent env.lane none .laneClosing], msgs := r.msgs ++ [.removeMiss env.lane] } := by
  simp [closeLane, h, hc, closeSlots_eq, enter, upd, send, hand, endMiss, closedVerdicts]

/-- A lane with an admission starts to close (R64). -/
theorem closeLane_passage (h : r.lane.state = .released ∨ r.lane.state = .passing) :
    r.closeLane env = { r with lane := { r.lane with
      state := .closing, lampLit := true, blinkAt := none, current := none, next := none,
      readerOut := r.lane.readerOut ++ closedVerdicts r.lane } } := by
  rcases h with h | h <;> simp [closeLane, h, closeSlots_eq, enter, upd]

theorem closeLane_shut (h : r.lane.state = .closed ∨ r.lane.state = .closing ∨ r.lane.state = .fault) : r.closeLane env = r := by
  rcases h with h | h | h <;> simp only [closeLane, h]

theorem resetLane_other (h : r.lane.state ≠ .fault) : r.resetLane env = r := if_neg h

/-- A faulty lane is reset (R65). -/
theorem resetLane_fault (h : r.lane.state = .fault) : r.resetLane env = { r with lane := { r.lane with
    state := .closed, condition := .none, faultMark := none, toneAt := none, lampLit := true, blinkAt := none } } := by
  simp [resetLane, h, upd, enter]

end Machine.LaneRun

end Sys2Proof

namespace Sys2Proof

open Machine Claims State

theorem Machine.LaneState.close_cases {st : LaneState} (h : st ≠ .waiting) : (st = .ready ∨ st = .paused ∨ st = .deciding)
    ∨ (st = .released ∨ st = .passing) ∨ st = .closed ∨ st = .closing ∨ st = .fault := by
  cases st <;> simp_all

namespace Machine.LaneRun

variable (env : LaneEnv) {r : LaneRun}

/-- The events and messages of a lane opened (R58, R63). -/
theorem openLane_hands (hm : r.msgs = []) (hc : r.lane.state = .closed → r.lane.current = none) :
    (r.openLane env).msgs = [] ∧ (r.openLane env).events = r.events ++
      if r.lane.state ≠ .closed then []
      else if r.lane.entryBeam = .broken then [laneEvent .tailgate env.lane]
      else if r.lane.exitBeam = .broken then [laneEvent .reverse env.lane] else [] := by
  by_cases hs : r.lane.state = .closed
  · cases hentry : r.lane.entryBeam with
    | broken => rw [openLane_entry env hs hentry hm]; simp [hs, hm]
    | clear =>
      cases hexit : r.lane.exitBeam with
      | broken => rw [openLane_exit env hs hentry hexit hm]; simp [hs, hm]
      | clear => rw [openLane_clear env hs hentry hexit (hc hs)]; simp [hs, hm]
  · rw [openLane_other env hs]; simp [hs, hm]

/-- A waiting lane with nothing in its slot, which closes all the same (R64). -/
theorem closeLane_waiting_empty (h : r.lane.state = .waiting) (hc : r.lane.current = none) :
    r.closeLane env = { r with
      lane := { r.lane with
        state := .closed, lampLit := true, blinkAt := none, toneAt := none, current := none, next := none, miss := none,
        missWait := none, readerOut := r.lane.readerOut ++ closedVerdicts r.lane },
      msgs := r.msgs ++ [.removeMiss env.lane] } := by
  simp [closeLane, h, hc, closeSlots_eq, enter, upd, endMiss, closedVerdicts]

theorem resetLane_hands (r : LaneRun) : (r.resetLane env).events = r.events ∧ (r.resetLane env).msgs = r.msgs := by
  by_cases h : r.lane.state = .fault
  · rw [resetLane_fault env h]; exact ⟨rfl, rfl⟩
  · rw [resetLane_other env h]; exact ⟨rfl, rfl⟩

/-- What a close leaves of a lane, and what it hands, in every state (R64, R83). -/
theorem closeLane_keeps (r : LaneRun) :
    ((r.closeLane env).lane.admission = r.lane.admission ∧ (r.closeLane env).lane.gate = r.lane.gate
      ∧ (r.closeLane env).lane.window = r.lane.window ∧ (r.closeLane env).lane.limit = r.lane.limit)
    ∧ (r.closeLane env).events = r.events ++
      (if r.lane.state = .waiting ∧ r.lane.current.isSome then [refusedEvent env.lane none .laneClosing] else [])
    ∧ (r.closeLane env).msgs = r.msgs ++ (if r.lane.state = .waiting then [.removeMiss env.lane] else []) := by
  by_cases hw : r.lane.state = .waiting
  · cases hc : r.lane.current with
    | none => rw [closeLane_waiting_empty env hw hc]; simp [hw]
    | some p => rw [closeLane_waiting env hw hc]; simp [hw]
  · simp only [hw, false_and, if_false, List.append_nil]
    rcases LaneState.close_cases hw with h | h | h
    · rw [closeLane_serving env h]; simp
    · rw [closeLane_passage env h]; simp
    · rw [closeLane_shut env h]; simp

end Machine.LaneRun

/-! ### The three requests -/

section Requests

variable {o : Origin} {mask : LaneMask} {s : State} (hmask : s.badLaneMask mask = false)

/-- A lane is either named by the mask or keeps its lane machine. -/
theorem EachLane.laneAt_of_unchanged {f : LaneEnv → LaneRun → LaneRun} {t : State} (h : EachLane (lanesOf mask) f s t) {l : LaneNo}
    (hl : mask.getLsbD l = false ∨ (laneRunAt f s l).lane = s.laneAt l) : t.laneAt l = s.laneAt l := by
  by_cases hm : l ∈ lanesOf mask
  · refine (h.lane l hm).trans (hl.resolve_left ?_)
    simp [mem_lanesOf.1 hm]
  · exact h.other l hm

/-- The messages of lanes that raise none but their notices (R51). -/
theorem EachLane.notices {f : LaneEnv → LaneRun → LaneRun} {ls : List LaneNo} {t : State} (h : EachLane ls f s t)
    (ms : LaneNo → List LaneMsg) (hm : ∀ l ∈ ls, (laneRunAt f s l).msgs = ms l) :
    t.decoder.laneMsgs = s.decoder.laneMsgs ++ ls.flatMap fun l => ms l ++ laneNotice l (s.laneAt l) (t.laneAt l) := by
  rw [h.laneMsgs, List.flatMap_congr fun l hl => by rw [hm l hl, ← h.lane l hl]]

/-- The events of lanes, each one event or none. -/
theorem EachLane.inbox_eq {f : LaneEnv → LaneRun → LaneRun} {ls : List LaneNo} {t : State} (h : EachLane ls f s t)
    (es : LaneNo → List Event) (hm : ∀ l ∈ ls, (laneRunAt f s l).events = es l) :
    t.tally.inbox = s.tally.inbox ++ ls.flatMap fun l => batchesOf (es l) := by
  rw [h.inbox, List.flatMap_congr fun l hl => by rw [hm l hl]]

include hmask

/-- LANE RESET of the lanes of a mask (R65). -/
theorem laneReset_lanes (h : Waits o (.laneReset mask) s) : ∃ u : State,
    exec (.laneReset o) s = .next (u.complete o (u.laneListImage mask)) ∧ u.context o = s.context o
      ∧ EachLane (lanesOf mask) (fun env r => r.resetLane env) s u
      ∧ u.table = s.table ∧ u.settlement = s.settlement ∧ u.clock = s.clock := by
  have heach := laneRequest_eachLane (fun env r => r.resetLane env) hmask
  obtain ⟨hclock, htable, hsettlement, -⟩ := runLanes_frame s (lanesOf mask) fun env r => r.resetLane env
  exact ⟨_, exec_laneReset hmask h, heach.context o, heach, htable, hsettlement, hclock⟩

/-- LANE CLOSE of the lanes of a mask (R64). -/
theorem laneClose_lanes (h : Waits o (.laneClose mask) s) : ∃ u : State,
    exec (.laneClose o) s = .next (u.complete o (u.laneListImage mask)) ∧ u.context o = s.context o
      ∧ EachLane (lanesOf mask) (fun env r => r.closeLane env) s u
      ∧ u.table = s.table ∧ u.settlement = s.settlement ∧ u.clock = s.clock := by
  have heach := laneRequest_eachLane (fun env r => r.closeLane env) hmask
  obtain ⟨hclock, htable, hsettlement, -⟩ := runLanes_frame s (lanesOf mask) fun env r => r.closeLane env
  exact ⟨_, exec_laneClose hmask h, heach.context o, heach, htable, hsettlement, hclock⟩

/-- LANE OPEN of the lanes of a mask, where it is accepted (R63). -/
theorem laneOpen_lanes (h : Waits o (.laneOpen mask) s) (hclock : s.clock.state = .running) (hclear : s.clearing = false)
    (hsettled : s.lanes.settleAt = none) : ∃ u : State,
    exec (.laneOpen o) s = .next (u.complete o (u.laneListImage mask)) ∧ u.context o = s.context o
      ∧ EachLane (lanesOf mask) (fun env r => r.openLane env) s u
      ∧ u.table = s.table ∧ u.settlement = s.settlement ∧ u.clock = s.clock := by
  have heach := laneRequest_eachLane (fun env r => r.openLane env) hmask
  have hready : ¬(s.clock.state ≠ .running ∨ s.clearing ∨ s.lanes.settleAt ≠ none) := by simp [hclock, hclear, hsettled]
  obtain ⟨hclock, htable, hsettlement, -⟩ := runLanes_frame s (lanesOf mask) fun env r => r.openLane env
  exact ⟨_, (exec_laneOpen hmask h).trans (congrArg Host.Outcome.next (if_neg hready)), heach.context o, heach, htable,
    hsettlement, hclock⟩

end Requests

/-- A lane closed, by its state before (R64). -/
theorem closeLane_lane (env : LaneEnv) (ln : Lane) :
    match ln.state with
    | .ready | .paused | .deciding =>
      (LaneRun.closeLane env { lane := ln, events := [], msgs := [] }).lane = { ln with
        state := .closed, lampLit := true, blinkAt := none, toneAt := none, current := none, next := none,
        readerOut := ln.readerOut ++ closedVerdicts ln }
    | .waiting => ∀ p, ln.current = some p →
      (LaneRun.closeLane env { lane := ln, events := [], msgs := [] }).lane = { ln with
        state := .closed, lampLit := true, blinkAt := none, toneAt := none, current := none, next := none,
        miss := none, missWait := none,
        readerOut := ln.readerOut ++ [{ pass := p.pass, kind := .refuse .laneClosing }]
          ++ closedVerdicts { ln with current := none } }
    | .released | .passing =>
      (LaneRun.closeLane env { lane := ln, events := [], msgs := [] }).lane = { ln with
        state := .closing, lampLit := true, blinkAt := none, current := none, next := none,
        readerOut := ln.readerOut ++ closedVerdicts ln }
    | .closed | .closing | .fault => (LaneRun.closeLane env { lane := ln, events := [], msgs := [] }).lane = ln := by
  cases hs : ln.state with
  | ready | paused | deciding =>
    exact congrArg LaneRun.lane (LaneRun.closeLane_serving env (r := { lane := ln, events := [], msgs := [] }) (by simp [hs]))
  | waiting =>
    exact fun p hc => congrArg LaneRun.lane
      (LaneRun.closeLane_waiting env (r := { lane := ln, events := [], msgs := [] }) hs hc)
  | released | passing =>
    exact congrArg LaneRun.lane (LaneRun.closeLane_passage env (r := { lane := ln, events := [], msgs := [] }) (by simp [hs]))
  | closed | closing | fault =>
    exact congrArg LaneRun.lane (LaneRun.closeLane_shut env (r := { lane := ln, events := [], msgs := [] }) (by simp [hs]))

/-- Settles O21. -/
theorem laneRequestsActOnTheirMask : Obligations.LaneRequestsActOnTheirMask := by
  refine ⟨fun o mask s => ⟨badLaneMask_iff, exec_laneRequest_badMask, fun hmask h hnot => ?_⟩,
    fun o mask s hmask => ⟨fun h hclock hclear hsettled hempty => ?_, fun h => ?_, fun h => ?_⟩⟩
  · exact (exec_laneOpen hmask h).trans (congrArg Host.Outcome.next (if_pos hnot))
  · obtain ⟨u, hexec, hcontext, heach, hrest⟩ := laneOpen_lanes hmask h hclock hclear hsettled
    have hhands (l : LaneNo) (hl : l ∈ lanesOf mask) := LaneRun.openLane_hands (s.laneEnv l)
      (r := { lane := s.laneAt l, events := [], msgs := [] }) rfl (hempty l (mem_lanesOf.1 hl))
    refine ⟨u, hexec, hcontext, fun l hl => heach.laneAt_of_unchanged (hl.imp_right fun hs => ?_),
      fun l opened hl hs hopened => ?_, ?_, heach.notices (fun _ => []) fun l hl => (hhands l hl).1, hrest⟩
    · exact congrArg LaneRun.lane (LaneRun.openLane_other _ hs)
    · rw [heach.lane l (mem_lanesOf.2 hl), hopened]
      exact ⟨fun hentry hexit => congrArg LaneRun.lane (LaneRun.openLane_clear _ hs hentry hexit (hempty l hl hs)),
        fun hentry => congrArg LaneRun.lane (LaneRun.openLane_entry _ hs hentry rfl),
        fun hentry hexit => congrArg LaneRun.lane (LaneRun.openLane_exit _ hs hentry hexit rfl)⟩
    · refine (heach.inbox_eq _ fun l hl => (hhands l hl).2).trans ?_
      simp only [List.nil_append, apply_ite batchesOf, batchesOf_nil, batchesOf_singleton]
      rfl
  · obtain ⟨u, hexec, hcontext, heach, hrest⟩ := laneClose_lanes hmask h
    have hkeeps (l : LaneNo) := LaneRun.closeLane_keeps (s.laneEnv l) { lane := s.laneAt l, events := [], msgs := [] }
    refine ⟨u, hexec, hcontext, fun l hl => heach.laneAt_of_unchanged (.inl hl), fun l hl => ?_, ?_,
      heach.notices (fun l => if (s.laneAt l).state = .waiting then [.removeMiss l] else []) fun l _ => (hkeeps l).2.2, hrest⟩
    · obtain ⟨⟨hadmission, hgate, hwindow, hlimit⟩, -⟩ := hkeeps l
      rw [heach.lane l (mem_lanesOf.2 hl)]
      exact ⟨hadmission, hgate, hwindow, hlimit, closeLane_lane (s.laneEnv l) (s.laneAt l)⟩
    · refine (heach.inbox_eq _ fun l _ => (hkeeps l).2.1).trans ?_
      simp only [List.nil_append, apply_ite batchesOf, batchesOf_nil, batchesOf_singleton]
      rfl
  · obtain ⟨u, hexec, hcontext, heach, hrest⟩ := laneReset_lanes hmask h
    have hhands (l : LaneNo) := LaneRun.resetLane_hands (s.laneEnv l) { lane := s.laneAt l, events := [], msgs := [] }
    refine ⟨u, hexec, hcontext, fun l hl => heach.laneAt_of_unchanged (hl.imp_right fun hs => ?_), fun l hl hs => ?_,
      heach.tally_of_no_events fun l _ => (hhands l).1, heach.notices (fun _ => []) fun l _ => (hhands l).2, hrest⟩
    · exact congrArg LaneRun.lane (LaneRun.resetLane_other _ hs)
    · exact (heach.lane l (mem_lanesOf.2 hl)).trans (congrArg LaneRun.lane (LaneRun.resetLane_fault _ hs))

end Sys2Proof

/-! ## The end of an admission

The two claims that end an admission: the record and the hold list as the claim leaves them, the answer to the REFUND HOLD that
waited for it, and the lane (R57, R87 to R89, R109, R114). -/

namespace Sys2Proof

open Machine Claims State

/-! ### The lane -/

/-- A lane whose ending claim is taken (R57). -/
theorem LaneRun.endAdmission_eq (env : LaneEnv) {ln : Lane} (h : ln.state.holdsAdmission = true) :
    LaneRun.endAdmission env { lane := ln, events := [], msgs := [] } = admissionEnded env ln := by
  have hwaiting : ln.state ≠ .waiting := fun hw => by simp [hw, LaneState.holdsAdmission] at h
  cases hm : ln.faultMark with
  | some m =>
    have hfault := LaneRun.toFault_eq env
      (r := { lane := { ln with admission := none, ending := .none, exitSeen := false }, events := [], msgs := [] }) m rfl
    simpa [LaneRun.endAdmission, admissionEnded, LaneRun.upd, hm, faultEntered, hwaiting] using hfault
  | none =>
    by_cases hs : ln.state = .closing <;> simp [LaneRun.endAdmission, admissionEnded, LaneRun.upd, LaneRun.enter, hm, hs]

/-! ### The hold list -/

/-- A HELD entry's place: after the HELD entries of no later deadline (R109). -/
theorem insertHeld_split (e : HoldEntry) (hs : List HoldEntry) : ∃ before after,
    insertHeld e hs = before ++ e :: after ∧ hs = before ++ after ∧ (∀ x ∈ before, holdAfter e x = true)
      ∧ ∀ x ∈ after.head?, holdAfter e x = false := by
  induction hs with
  | nil => exact ⟨[], [], rfl, rfl, nofun, nofun⟩
  | cons x xs ih =>
    cases hx : holdAfter e x with
    | true =>
      obtain ⟨before, after, hnew, hold, hbefore, hafter⟩ := ih
      refine ⟨x :: before, after, by simp [insertHeld, hx, hnew], by rw [hold]; rfl, ?_, hafter⟩
      exact List.forall_mem_cons.2 ⟨hx, hbefore⟩
    | false => exact ⟨[], x :: xs, by simp [insertHeld, hx], rfl, nofun, by simp [hx]⟩

/-- An entry that reaches HELD takes its place, and no other of its pass stays (R109, R110). -/
theorem placedHeld_insertHeld (e : HoldEntry) (u : Settlement) : PlacedHeld e u.holds (insertHeld e (u.dropHold e.pass).holds) := by
  obtain ⟨before, after, hnew, hold, hbefore, hafter⟩ := insertHeld_split e (u.dropHold e.pass).holds
  refine ⟨before, after, hnew, hold, fun x hx => ?_, fun x hx => ?_⟩
  · simpa [holdAfter] using hbefore x hx
  · have hx := hafter x hx
    cases hp : x.phase with
    | pending => exact .inl rfl
    | held => exact .inr (by simpa [holdAfter, hp] using hx)

theorem hold_insertHeld {e : HoldEntry} (u : Settlement) :
    ({ u with holds := insertHeld e (u.dropHold e.pass).holds } : Settlement).hold e.pass = some e := by
  have hfree : (u.dropHold e.pass).hold e.pass = none := by rw [Settlement.hold_dropHold, if_pos rfl]
  exact (find_insertHeld e e.pass _ hfree).trans (if_pos rfl)

/-! ### The claim's part of the table and of the hold list -/

/-- The part once a claim has ended the admission of pass p at the table: the table t and the report queue it leaves, a PENDING
hold of the pass brought to HELD, the events of the claim handed (R87 to R89, R114). -/
def admissionClaimed (p : Nat) (t : Table) (queue : List Nat) (events : List Event) (s : State) : State :=
  (({ s with table := t, settlement := { s.settlement with queue := queue } } : State).pendingToHeld p).handEvents
    (s.pendingEvents p ++ events)

section Claimed

variable {p : Nat} {t : Table} {queue : List Nat} {events : List Event} {s : State}

theorem admissionClaimed_frame : (admissionClaimed p t queue events s).clock = s.clock
    ∧ (admissionClaimed p t queue events s).lanes = s.lanes ∧ (admissionClaimed p t queue events s).decoder = s.decoder
    ∧ (admissionClaimed p t queue events s).port = s.port ∧ (admissionClaimed p t queue events s).link = s.link
    ∧ (admissionClaimed p t queue events s).pending = s.pending := by
  unfold admissionClaimed
  simp

theorem record_handEvents (s : State) (es : List Event) (q : Nat) : (s.handEvents es).record q = s.record q :=
  record_congr (by simp) q

/-- Events handed by a claim that hands some are one batch (R149). -/
theorem handEvents_tally_eq (s : State) (h : events ≠ []) :
    (s.handEvents events).tally = { s.tally with inbox := s.tally.inbox ++ [events] } := by
  have htally := handEvents_tally s events
  rw [← htally]
  have hinbox := handEvents_inbox s events
  rw [if_neg h] at hinbox
  simp [← hinbox]

theorem admissionClaimed_of_notPending (h : NotPending p s) : admissionClaimed p t queue events s =
    ({ s with table := t, settlement := { s.settlement with queue := queue } } : State).handEvents events := by
  have hheld : ({ s with table := t, settlement := { s.settlement with queue := queue } } : State).pendingToHeld p =
      { s with table := t, settlement := { s.settlement with queue := queue } } := by
    unfold pendingToHeld
    split
    · rename_i e he
      exact if_neg (h e he)
    · rfl
  have hevents : s.pendingEvents p = [] := by
    unfold pendingEvents
    split
    · rename_i e r he _
      exact if_neg (h e he)
    · rfl
  rw [admissionClaimed, hheld, hevents, List.nil_append]

theorem admissionClaimed_of_pending {e : HoldEntry} (he : s.settlement.hold p = some e) (hp : e.phase = .pending) {r : PassRecord}
    (hr : s.record p = some r) : admissionClaimed p t queue events s =
      (({ s with table := t, settlement := { s.settlement with queue := queue } } : State).reachHeld p e.owner e.placedAt).handEvents
        (holdEvent .holdPlaced r :: events) := by
  have hheld : ({ s with table := t, settlement := { s.settlement with queue := queue } } : State).pendingToHeld p =
      ({ s with table := t, settlement := { s.settlement with queue := queue } } : State).reachHeld p e.owner e.placedAt := by
    have he' : ({ s.settlement with queue := queue } : Settlement).hold p = some e := he
    simp [pendingToHeld, he', hp]
  have hevents : s.pendingEvents p = [holdEvent .holdPlaced r] := by simp [pendingEvents, he, hr, hp]
  rw [admissionClaimed, hheld, hevents]
  rfl

/-- The claim's events with no PENDING hold on the pass. -/
theorem admissionClaimed_notPending (h : NotPending p s) (hevents : events ≠ []) {base : PassRecord} (ht : t.find p = some base) :
    (admissionClaimed p t queue events s).record p = some base
      ∧ (admissionClaimed p t queue events s).settlement = { s.settlement with queue := queue }
      ∧ (admissionClaimed p t queue events s).tally = { s.tally with inbox := s.tally.inbox ++ [events] } := by
  rw [admissionClaimed_of_notPending h, handEvents_tally_eq _ hevents]
  exact ⟨(record_handEvents ..).trans ht, by simp, rfl⟩

/-- A PENDING hold of the pass reaches HELD in the claim (R109, R113, R114). -/
theorem admissionClaimed_pending {e : HoldEntry} (he : s.settlement.hold p = some e) (hp : e.phase = .pending) {r : PassRecord}
    (hr : s.record p = some r) {base : PassRecord} (ht : t.find p = some base) :
    (admissionClaimed p t queue events s).record p = some { base with state := .held, holdLapsed := false }
      ∧ { (admissionClaimed p t queue events s).settlement with holds := s.settlement.holds } = { s.settlement with queue := queue }
      ∧ PlacedHeld { e with phase := .held, deadline := some (s.now + s.decoder.profile.holdLapse * 60000) } s.settlement.holds
          (admissionClaimed p t queue events s).settlement.holds
      ∧ (admissionClaimed p t queue events s).settlement.hold p =
          some { e with phase := .held, deadline := some (s.now + s.decoder.profile.holdLapse * 60000) }
      ∧ (admissionClaimed p t queue events s).tally =
          { s.tally with inbox := s.tally.inbox ++ [holdEvent .holdPlaced r :: events] } := by
  obtain rfl : e.pass = p := Settlement.hold_pass he
  have hsettlement : (({ s with table := t, settlement := { s.settlement with queue := queue } } : State).reachHeld e.pass e.owner
      e.placedAt).settlement = { s.settlement with
        queue := queue,
        holds := insertHeld { e with phase := .held, deadline := some (s.now + s.decoder.profile.holdLapse * 60000) }
          (s.settlement.dropHold e.pass).holds } := rfl
  rw [admissionClaimed_of_pending he hp hr, handEvents_tally_eq _ (by simp), handEvents_settlement, hsettlement]
  refine ⟨(record_handEvents ..).trans (Table.find_update_same (fun _ => rfl) ht), rfl, placedHeld_insertHeld _ s.settlement,
    hold_insertHeld { s.settlement with queue := queue }, rfl⟩

/-- The other records, and the table but for its records, are as the claim leaves them (R114). -/
theorem admissionClaimed_table : { (admissionClaimed p t queue events s).table with records := s.table.records } =
      { t with records := s.table.records }
    ∧ ∀ q, q ≠ p → (admissionClaimed p t queue events s).record q = t.find q := by
  unfold admissionClaimed pendingToHeld
  split
  · split
    · exact ⟨by simp [reachHeld, updRecord, Table.update], fun q hq =>
        (record_handEvents ..).trans (Table.find_update_ne (fun _ => rfl) hq)⟩
    · exact ⟨by simp, fun q _ => record_handEvents ..⟩
  · exact ⟨by simp, fun q _ => record_handEvents ..⟩

end Claimed

/-! ### The answer to the REFUND HOLD that waited -/

section Answer

variable {p : Nat} {s : State}

theorem answerPending_of_none (h : ∀ o, s.stage o ≠ some (.pendingHold p)) : s.answerPending p = s := by
  simp [answerPending, awaitsHold, h]

theorem answerPending_of_one {o : Origin} (h : s.stage o = some (.pendingHold p))
    (hother : s.stage (otherOrigin o) ≠ some (.pendingHold p)) : s.answerPending p = s.complete o (s.holdAnswer p true) := by
  cases o
  · simp [answerPending, awaitsHold, h]
  · have hstation : s.stage .station ≠ some (.pendingHold p) := hother
    simp [answerPending, awaitsHold, h, hstation]

theorem complete_profile (s : State) (o : Origin) (d : List Byte) : (s.complete o d).decoder.profile = s.decoder.profile := by
  unfold complete endWith
  split
  · rfl
  · dsimp only
    split <;> cases o <;> rfl

theorem answerPending_profile (s : State) (p : Nat) : (s.answerPending p).decoder.profile = s.decoder.profile := by
  unfold answerPending
  (repeat' split) <;> simp only [complete_profile]

end Answer

/-! ### The claims -/

section Claims

variable {l : LaneNo} {a : Admission} {r : PassRecord} {s : State}

/-- The table a withdrawal leaves, the hold aside (R89). -/
def withdrawnTable (l : LaneNo) (a : Admission) (t : Table) : Table :=
  Table.update a.pass (fun r => { r with inFlight := none }) { t with lastLane := l }

/-- The table a commit leaves, the hold aside (R87, R88). -/
def committedTable (l : LaneNo) (a : Admission) (at_ : Stamp) (t : Table) : Table :=
  Table.toHead a.pass (Table.update a.pass (PassRecord.commit l at_ a) { t with lastLane := l })

theorem withdrawRecord_eq : (s.serveLane l).withdrawRecord l a r =
    (admissionClaimed a.pass (withdrawnTable l a s.table) s.settlement.queue [riderEvent .withdrawn l r] s).answerPending a.pass :=
  rfl

theorem commitRecord_eq : (s.serveLane l).commitRecord l a r =
    (admissionClaimed a.pass (committedTable l a s.stamp s.table) (queueAfterCommit a r s.settlement.queue)
      (commitEvents l a r) s).answerPending a.pass :=
  rfl

/-- The lane ends its admission once the table's part v is done (R57). -/
theorem endingClaim_laneAfter {k : Admission → PassRecord → State → State} (ha : (s.laneAt l).admission = some a)
    (hr : s.record a.pass = some r) (hpresent : s.lanePresent l = true) (hs : (s.laneAt l).state.holdsAdmission = true) {v : State}
    (hv : k a r (s.serveLane l) = v) (hclock : v.clock = s.clock) (hlanes : v.lanes = s.lanes)
    (hprofile : v.decoder.profile = s.decoder.profile) (hstrap : v.port.eightLanes = s.port.eightLanes) :
    s.endingClaim l k = laneAfter l (admissionEnded (s.laneEnv l) (s.laneAt l)) v := by
  have hpart : (s.serveLane l).endPart l k = v := by
    have ha' : ((s.serveLane l).laneAt l).admission = some a := ha
    have hr' : (s.serveLane l).record a.pass = some r := hr
    simp only [endPart, ha', hr', hv]
  have henv : v.laneEnv l = s.laneEnv l := by simp [laneEnv, now, hclock, hprofile]
  have hlane : v.laneAt l = s.laneAt l := laneAt_congr (congrArg _ hlanes) l
  rw [endingClaim_eq, hpart, runLane_eq_laneAfter _ ((lanePresent_congr hstrap l).trans hpresent), henv, hlane,
    LaneRun.endAdmission_eq _ hs]

/-- An ending claim that has its turn, as the table's part v and the table t it leaves, the hold aside. -/
structure EndsAdmission (l : LaneNo) (a : Admission) (r base : PassRecord) (claim : Instr) (s : State) (recency queue : List Nat)
    (events : List Event) (t : Table) : Prop where
  exec : ∃ k : Admission → PassRecord → State → State, Machine.exec claim s = .next (s.endingClaim l k)
    ∧ k a r (s.serveLane l) = (admissionClaimed a.pass t queue events s).answerPending a.pass
  record : t.find a.pass = some base
  others : ∀ q, q ≠ a.pass → t.find q = s.record q
  rest : { t with records := s.table.records } = { s.table with lastLane := l, recency := recency }
  events : events ≠ []

theorem withdrawClaim_endsAdmission (hturn : s.laneHasTurn l = true) (hr : s.record a.pass = some r)
    (he : (s.laneAt l).ending = .withdraw) :
    EndsAdmission l a r { r with inFlight := none } (.withdrawClaim l) s s.table.recency s.settlement.queue
      [riderEvent .withdrawn l r] (withdrawnTable l a s.table) where
  exec := ⟨_, congrArg Host.Outcome.next (if_pos ⟨hturn, he⟩), withdrawRecord_eq⟩
  record := Table.find_update_same (t := { s.table with lastLane := l }) (fun _ => rfl) hr
  others _ hq := Table.find_update_ne (t := { s.table with lastLane := l }) (fun _ => rfl) hq
  rest := rfl
  events := List.cons_ne_nil _ _

theorem commitClaim_endsAdmission (hturn : s.laneHasTurn l = true) (hr : s.record a.pass = some r)
    (he : (s.laneAt l).ending = .commit) :
    EndsAdmission l a r (r.commit l s.stamp a) (.commitClaim l) s (a.pass :: s.table.recency.filter (· != a.pass))
      (queueAfterCommit a r s.settlement.queue) (commitEvents l a r) (committedTable l a s.stamp s.table) where
  exec := ⟨_, congrArg Host.Outcome.next (if_pos ⟨hturn, he⟩), commitRecord_eq⟩
  record := Table.find_update_same (t := { s.table with lastLane := l }) (fun _ => rfl) hr
  others _ hq := Table.find_update_ne (t := { s.table with lastLane := l }) (fun _ => rfl) hq
  rest := rfl
  events := List.cons_ne_nil _ _

end Claims

/-- Settles O26. -/
theorem withdrawalsAndPendingHoldsAtTheEnd : Obligations.WithdrawalsAndPendingHoldsAtTheEnd := by
  intro l a r s hturn ha hr hs claim base events recency queue hclaim
  obtain ⟨t, ⟨k, hexec, hk⟩, hrecord, hothers, hrest, hevents⟩ :
      ∃ t, EndsAdmission l a r base claim s recency queue events t := by
    rcases hclaim with ⟨he, rfl, rfl, rfl, rfl, rfl⟩ | ⟨he, rfl, rfl, rfl, rfl, rfl⟩
    · exact ⟨_, withdrawClaim_endsAdmission hturn hr he⟩
    · have hends := commitClaim_endsAdmission hturn hr he
      rw [queueAfterCommit, Table.find_pass hr] at hends
      exact ⟨_, hends⟩
  have hpresent : s.lanePresent l = true := by
    unfold laneHasTurn at hturn
    exact (Bool.and_eq_true_iff.1 hturn).1
  obtain ⟨hclock, hlanes, hdecoder, hport, hlink, hpending⟩ :=
    admissionClaimed_frame (p := a.pass) (t := t) (queue := queue) (events := events) (s := s)
  obtain ⟨htable, hrecords⟩ := admissionClaimed_table (p := a.pass) (t := t) (queue := queue) (events := events) (s := s)
  have hstage (o : Origin) : (admissionClaimed a.pass t queue events s).stage o = s.stage o := by
    simp only [stage, context, hdecoder]
  generalize hu : admissionClaimed a.pass t queue events s = u at *
  obtain ⟨hvclock, -, -, hvlanes, -⟩ := answerPending_frame u a.pass
  refine ⟨u, u.answerPending a.pass, hexec.trans (congrArg Host.Outcome.next (endingClaim_laneAfter ha hr hpresent hs hk
      (hvclock.trans hclock) (hvlanes.trans hlanes) ((answerPending_profile u a.pass).trans (by rw [hdecoder]))
      ((answerPending_eightLanes u a.pass).trans (by rw [hport])))),
    hvlanes.trans hlanes, fun q hq => (hrecords q hq).trans (hothers q hq), htable.trans hrest, hclock, hlanes, hdecoder, hport,
    hlink, hpending, fun hnone => answerPending_of_none fun o => (hstage o).trans_ne (hnone o), fun hnot => ?_,
    fun e deadline r' he hp hdeadline hr' => ?_⟩
  · subst hu
    exact admissionClaimed_notPending hnot hevents hrecord
  · subst hu hdeadline hr'
    obtain ⟨hheld, hsettlement, hplaced, hhold, htally⟩ :=
      admissionClaimed_pending (queue := queue) (events := events) he hp hr hrecord
    refine ⟨hheld, hsettlement, hplaced, hhold, htally, fun o ho hother => ?_⟩
    rw [answerPending_of_one ((hstage o).trans ho) ((hstage _).trans_ne hother), holdAnswer, hheld, hhold, hclock]

end Sys2Proof

/-! ## The outcome of a decision

The nine checks of a decision claim in their order, and what an admission has passed (R40, R70 to R76). -/

namespace Sys2Proof

open Machine Claims State

/-- The passback interval runs from the last passage, and 0 minutes is no interval (R40, R75). -/
theorem withinPassback_iff {minutes : Nat} {at_ : Stamp} {r : PassRecord} : withinPassback minutes at_ r = true ↔
    minutes ≠ 0 ∧ ∃ q, r.lastPassage = some q
      ∧ at_.day * 86400 + at_.second - (q.at_.day * 86400 + q.at_.second) < minutes * 60 := by
  cases hq : r.lastPassage with
  | none => simp [withinPassback, hq]
  | some q =>
    simp only [withinPassback, hq, Bool.and_eq_true, decide_eq_true_eq, Option.some.injEq, exists_eq_left']
    rfl

section Decision

variable {s : State} {l : LaneNo} {p : Nat} {r : PassRecord} {consume : Bool}

theorem decideRecord_eq (s : State) (r : PassRecord) : s.decideRecord r =
    if r.state = .revoked then .refuse .revoked
    else if r.state = .held then .refuse .held
    else if r.state = .settled then .refuse .settled
    else if r.inFlight.isSome then .refuse .inFlight
    else s.decideTime r := by
  cases hs : r.state <;> simp [decideRecord, hs]

/-- The checks of a resident pass in their order (R70 to R76). -/
theorem decision_resident (hr : s.record p = some r) : s.decision l p =
    if (s.decoder.profile.laneClasses[l]).getLsbD r.cls.code = false then .refuse .cls
    else if s.table.revoked.contains p then .refuse .revoked
    else if r.state = .revoked then .refuse .revoked
    else if r.state = .held then .refuse .held
    else if r.state = .settled then .refuse .settled
    else if r.inFlight.isSome then .refuse .inFlight
    else if s.clock.state = .ended then .refuse .seasonEnded
    else if s.clock.day < r.first then .refuse .notYetValid
    else if r.last < s.clock.day then .refuse .expired
    else if r.cls ≠ .staff ∧ withinPassback s.decoder.profile.passback s.stamp r = true then .refuse .passback
    else if hasDay r.used s.clock.day then .admitted false
    else if r.kind = .days ∧ r.entitled ≤ sizeDays r.used then .refuse .noDays
    else .admitted true := by
  simp only [decision, hr, decideRecord_eq]
  rfl

/-- A pass with no record: its outcome is that of its revocation check, then of the misses (R71, R72). -/
theorem decision_absent (hr : s.record p = none) :
    s.decision l p = if s.table.listed p then .refuse .revoked else s.decideAbsent l p := by
  simp only [decision, hr]

/-- Whether another lane waits for the pass (R72). -/
theorem missedElsewhere_iff : (s.presentLanes.any fun m => m != l && (s.laneAt m).miss.any (·.pass == p)) = true ↔
    ∃ m x, m ≠ l ∧ s.lanePresent m = true ∧ (s.laneAt m).miss = some x ∧ x.pass = p := by
  simp only [List.any_eq_true, presentLanes, List.mem_filter, List.mem_finRange, true_and, Bool.and_eq_true, bne_iff_ne,
    Option.any_eq_true, beq_iff_eq]
  exact ⟨fun ⟨m, hpresent, hne, x, hx, hp⟩ => ⟨m, x, hne, hpresent, hx, hp⟩,
    fun ⟨m, x, hne, hpresent, hx, hp⟩ => ⟨m, hpresent, hne, x, hx, hp⟩⟩

/-- What admits has passed a check whose failing refuses. -/
theorem refuse_or_admitted_iff {c : Prop} [Decidable c] {reason : Reason} {d : Decision} :
    (if c then .refuse reason else d) = .admitted consume ↔ ¬ c ∧ d = .admitted consume := by
  by_cases h : c <;> simp [h]

/-- The consume flag of an admission: on for a day not yet used, which a DAYS pass must have left (R76). -/
theorem decideDay_admitted {today : Nat} (h : decideDay today r = .admitted consume) :
    consume = !hasDay r.used today ∧ (consume = true → r.kind = .days → sizeDays r.used < r.entitled) := by
  cases hday : hasDay r.used today with
  | true =>
    obtain rfl : false = consume := by simpa [decideDay, hday] using h
    exact ⟨rfl, nofun⟩
  | false =>
    simp only [decideDay, hday, Bool.false_eq_true, if_false, refuse_or_admitted_iff] at h
    obtain ⟨hleft, hconsume⟩ := h
    obtain rfl : true = consume := by simpa using hconsume
    exact ⟨rfl, fun _ hkind => Nat.lt_of_not_le fun hle => hleft ⟨hkind, hle⟩⟩

/-- An admission is decided of a resident pass that has passed every check (R70 to R76). -/
theorem decision_admitted_passes (h : s.decision l p = .admitted consume) :
    s.table.listed p = false ∧ ∃ r, s.record p = some r ∧ r.state = .active ∧ r.inFlight = none
      ∧ (s.decoder.profile.laneClasses[l]).getLsbD r.cls.code = true ∧ s.clock.state ≠ .ended
      ∧ r.first ≤ s.clock.day ∧ s.clock.day ≤ r.last
      ∧ (r.cls = .staff ∨ withinPassback s.decoder.profile.passback s.stamp r = false)
      ∧ consume = !hasDay r.used s.clock.day
      ∧ (consume = true → r.kind = .days → sizeDays r.used < r.entitled) := by
  obtain ⟨r, hr, hfree⟩ := decision_admitted h
  simp only [decision, hr, decideRecord_eq, decideTime, refuse_or_admitted_iff] at h
  obtain ⟨hcls, hlisted, hrevoked, hheld, hsettled, -, hended, hfirst, hlast, hpassback, hday⟩ := h
  have hactive : r.state = .active := by cases hs : r.state <;> simp_all
  refine ⟨by simpa using hlisted, r, hr, hactive, hfree, by simpa using hcls, hended, Nat.not_lt.1 hfirst, Nat.not_lt.1 hlast, ?_,
    decideDay_admitted hday⟩
  by_cases hstaff : r.cls = .staff
  · exact .inl hstaff
  · exact .inr (by simpa [hstaff] using hpassback)

end Decision

/-- Settles O24. -/
theorem admissionsPassEveryCheck : Obligations.AdmissionsPassEveryCheck := by
  refine ⟨fun l p r s => decision_resident, fun l p s hr => ?_, fun minutes at_ r => withinPassback_iff,
    fun l p consume s => decision_admitted_passes⟩
  rw [decision_absent hr]
  refine ⟨fun hlisted => if_pos (by simpa [Table.listed] using hlisted), fun hlisted => ?_⟩
  rw [if_neg (by simpa [Table.listed] using hlisted)]
  refine ⟨fun hmissed => if_pos (missedElsewhere_iff.2 hmissed), fun hnot => if_neg fun hmissed => ?_⟩
  obtain ⟨m, x, hne, hpresent, hx, hp⟩ := missedElsewhere_iff.1 hmissed
  exact hnot m x hne hpresent hx hp

end Sys2Proof

/-! ## What ends a miss

A lane that goes on keeps what the end of its miss has left, and takes up what waits (R53, R83, R85, R86). -/

namespace Sys2Proof

open Machine Claims State

namespace Machine.LaneRun

variable {env : LaneEnv} {u r : LaneRun}

/-- What stays of an event's doings while its lane goes on: the miss, the messages, a tone that has just begun, and what is sent
and handed, at whose end more may be added (R53, R54, R61). -/
structure GoesOn (env : LaneEnv) (u r : LaneRun) : Prop where
  miss : r.lane.miss = u.lane.miss
  missWait : r.lane.missWait = u.lane.missWait
  tone : u.lane.toneAt = some (env.now + 300) → r.lane.toneAt = some (env.now + 300)
  sent : u.lane.readerOut <+: r.lane.readerOut
  events : u.events <+: r.events
  msgs : r.msgs = u.msgs

namespace GoesOn

theorem refl : GoesOn env u u := ⟨rfl, rfl, id, List.prefix_rfl, List.prefix_rfl, rfl⟩

theorem send (h : GoesOn env u r) (p : Nat) (k : VerdictKind) : GoesOn env u (r.send env p k) where
  miss := h.miss
  missWait := h.missWait
  tone ht := by cases k <;> simp [LaneRun.send, upd, h.tone ht]
  sent := h.sent.trans (List.prefix_append ..)
  events := h.events
  msgs := h.msgs

theorem hand (h : GoesOn env u r) (e : Event) : GoesOn env u (r.hand e) where
  miss := h.miss
  missWait := h.missWait
  tone := h.tone
  sent := h.sent
  events := h.events.trans (List.prefix_append ..)
  msgs := h.msgs

theorem finishSlot (h : GoesOn env u r) : GoesOn env u r.finishSlot := ⟨h.miss, h.missWait, h.tone, h.sent, h.events, h.msgs⟩

theorem condition (h : GoesOn env u r) (f : Lane → LaneCondition) :
    GoesOn env u (r.upd fun ln => { ln with condition := f ln }) := ⟨h.miss, h.missWait, h.tone, h.sent, h.events, h.msgs⟩

/-- An entry into a state that leaves the tone sounding (R49). -/
theorem enter (h : GoesOn env u r) {st : LaneState} (hst : ¬(st = .closed ∨ st = .fault)) : GoesOn env u (r.enter env st) where
  miss := h.miss
  missWait := h.missWait
  tone ht := (if_neg hst).trans (h.tone ht)
  sent := h.sent
  events := h.events
  msgs := h.msgs

theorem notifyRead (h : GoesOn env u r) (p : Presentation) : GoesOn env u (r.notifyRead env p) := by
  unfold LaneRun.notifyRead
  split
  · cases p.status with
    | good => exact h.condition _
    | corrected | fault => exact (h.hand _).condition _
  · exact h

theorem takeUp (h : GoesOn env u r) (n : Nat) : GoesOn env u (r.takeUp env n) := by
  induction n generalizing r with
  | zero => exact h
  | succ n ih =>
    unfold LaneRun.takeUp
    split
    · split
      · exact h
      · rename_i p _
        have hread := h.notifyRead p
        dsimp only
        split
        · exact hread.enter (by simp)
        · exact ih (hread.send ..).finishSlot
        · exact ih ((hread.send ..).hand _).finishSlot
    · exact h

theorem resume (h : GoesOn env u r) : GoesOn env u (r.resume env) := by
  unfold LaneRun.resume LaneRun.toPaused
  dsimp only
  split
  · have hpaused := h.enter (st := .paused) (by simp)
    split
    · exact hpaused.send ..
    · exact hpaused
  · exact (h.enter (by simp)).takeUp 2

end GoesOn

/-- A lane that goes on with nothing in its slot (R53, R57, R60, R61). -/
theorem resume_empty (h : r.lane.current = none) : r.resume env = { r with lane := { r.lane with
    state := if r.lane.pause then .paused else .ready, lampLit := true, blinkAt := none } } := by
  cases hp : r.lane.pause with
  | false => rw [resume_ready env hp, toReady_empty env h]; rfl
  | true => rw [resume_paused env hp, toPaused_eq]; simp [h]

end Machine.LaneRun

section LaneAfter

variable (l : LaneNo) (r : LaneRun) (s : State)

/-- The lane after its event. -/
theorem laneAfter_laneAt : (laneAfter l r s).laneAt l = r.lane :=
  (laneAt_congr (s := s.setLane l r.lane) (by simp [laneAfter]) l).trans (by simp)

/-- The events of a lane's event are one batch (R149). -/
theorem laneAfter_inbox : (laneAfter l r s).tally.inbox = s.tally.inbox ++ batchesOf r.events :=
  handEvents_inbox (s.setLane l r.lane) r.events

/-- The messages of a lane's event, its notice last (R51). -/
theorem laneAfter_laneMsgs :
    (laneAfter l r s).decoder.laneMsgs = s.decoder.laneMsgs ++ (r.msgs ++ laneNotice l (s.laneAt l) r.lane) := by
  simp [laneAfter, raiseLane, updDecoder]

end LaneAfter

section MissRefused

variable (env : LaneEnv) (m : Miss) (first : List Event) (ln : Lane)

/-- What the end of a miss leaves, whatever the lane then takes up (R83, R85, R86). -/
theorem missRefused_leaves :
    (missRefused env m first ln).lane.miss = none ∧ (missRefused env m first ln).lane.missWait = none
      ∧ (missRefused env m first ln).lane.toneAt = some (env.now + 300)
      ∧ ln.readerOut ++ [{ pass := m.pass, kind := .refuse .notFound }] <+: (missRefused env m first ln).lane.readerOut
      ∧ first ++ [refusedEvent env.lane none .notFound] <+: (missRefused env m first ln).events
      ∧ (missRefused env m first ln).msgs = [.removeMiss env.lane] := by
  obtain ⟨hmiss, hwait, htone, hsent, hevents, hmsgs⟩ := (LaneRun.GoesOn.refl (env := env) (u :=
    { lane := { ln with
        missWait := none, miss := none, toneAt := some (env.now + 300), current := ln.next, next := none,
        readerOut := ln.readerOut ++ [{ pass := m.pass, kind := .refuse .notFound }] },
      events := first ++ [refusedEvent env.lane none .notFound], msgs := [.removeMiss env.lane] })).resume
  exact ⟨hmiss, hwait, htone rfl, hsent, hevents, hmsgs⟩

/-- A miss that ends at a lane with an empty next slot (R83, R85). -/
theorem missRefused_empty (h : ln.next = none) : missRefused env m first ln =
    { lane := { ln with
        miss := none, missWait := none, current := none, toneAt := some (env.now + 300), lampLit := true, blinkAt := none,
        state := if ln.pause then .paused else .ready,
        readerOut := ln.readerOut ++ [{ pass := m.pass, kind := .refuse .notFound }] },
      events := first ++ [refusedEvent env.lane none .notFound], msgs := [.removeMiss env.lane] } := by
  rw [missRefused, LaneRun.resume_empty h]
  simp [h, refusedEvent]

theorem missRefused_events_ne_nil : (missRefused env m first ln).events ≠ [] := by
  obtain ⟨-, -, -, -, hevents, -⟩ := missRefused_leaves env m first ln
  intro hnil
  rw [hnil] at hevents
  simp at hevents

end MissRefused

section Missed

variable {s : State} {l : LaneNo} {m : Miss}

/-- The miss-wait timer runs out (R85). -/
theorem exec_missWaitExpiry (hpresent : s.lanePresent l = true) (h : Expired s (s.laneAt l).missWait)
    (hm : (s.laneAt l).miss = some m) : exec (.missWaitExpiry l) s =
      .next (laneAfter l (missRefused (s.laneEnv l) m [laneEvent .missExpired l] (s.laneAt l)) s) := by
  refine congrArg Host.Outcome.next ((if_pos (due_iff_expired.2 h)).trans ?_)
  rw [runLane_eq_laneAfter _ hpresent, refuseMiss_eq_missRefused hm]

theorem exec_missWaitExpiry_early (h : ¬ Expired s (s.laneAt l).missWait) : exec (.missWaitExpiry l) s = .next s :=
  congrArg Host.Outcome.next (if_neg (due_iff_expired.not.2 h))

/-- The part as the lane controller takes the line's entry into DROPPING (R86). -/
def dropTaken (s : State) : State := s.updLanes fun c => { c with drops := c.drops - 1 }

/-- The line's drop at the lanes (R86). -/
theorem exec_lineDropAtLanes (h : 0 < s.lanes.drops) : exec .lineDropAtLanes s =
    .next ((dropTaken s).runLanes (dropTaken s).presentLanes fun env r => r.refuseMiss env []) :=
  congrArg Host.Outcome.next (if_neg h.ne')

theorem exec_lineDropAtLanes_none (h : s.lanes.drops = 0) : exec .lineDropAtLanes s = .next s :=
  congrArg Host.Outcome.next (if_pos h)

theorem mem_presentLanes : l ∈ s.presentLanes ↔ s.lanePresent l = true := by simp [presentLanes]

theorem presentLanes_nodup (s : State) : s.presentLanes.Nodup := (List.nodup_finRange 8).filter _

/-- The line's drop at a lane with no miss changes nothing of it (R86). -/
theorem laneRunAt_refuseMiss_none (h : (s.laneAt l).miss = none) :
    laneRunAt (fun env r => r.refuseMiss env []) s l = { lane := s.laneAt l, events := [], msgs := [] } := by
  simp only [laneRunAt, LaneRun.refuseMiss, h]

theorem laneRunAt_refuseMiss_some (h : (s.laneAt l).miss = some m) :
    laneRunAt (fun env r => r.refuseMiss env []) s l = missRefused (s.laneEnv l) m [] (s.laneAt l) :=
  refuseMiss_eq_missRefused h

theorem laneNotice_same (l : LaneNo) (ln : Lane) : laneNotice l ln ln = [] := by simp [laneNotice]

/-- The events of the line's drop at a lane are one batch where it has a miss, and none where it has not (R86, R149). -/
theorem batchesOf_refuseMiss (s : State) (l : LaneNo) :
    batchesOf (laneRunAt (fun env r => r.refuseMiss env []) s l).events =
      ((s.laneAt l).miss.map fun m => (missRefused (s.laneEnv l) m [] (s.laneAt l)).events).toList := by
  cases hm : (s.laneAt l).miss with
  | none => rw [laneRunAt_refuseMiss_none hm]; rfl
  | some m =>
    rw [laneRunAt_refuseMiss_some hm, batchesOf, if_neg (missRefused_events_ne_nil _ _ _ _)]
    rfl

/-- The messages of the line's drop at a lane, its notice with them (R51, R83, R86). -/
theorem msgs_refuseMiss (s : State) (l : LaneNo) :
    (laneRunAt (fun env r => r.refuseMiss env []) s l).msgs
        ++ laneNotice l (s.laneAt l) (laneRunAt (fun env r => r.refuseMiss env []) s l).lane =
      if (s.laneAt l).miss.isSome then
        .removeMiss l :: laneNotice l (s.laneAt l) (laneRunAt (fun env r => r.refuseMiss env []) s l).lane
      else [] := by
  cases hm : (s.laneAt l).miss with
  | none => rw [laneRunAt_refuseMiss_none hm, laneNotice_same]; rfl
  | some m =>
    obtain ⟨-, -, -, -, -, hmsgs⟩ := missRefused_leaves (s.laneEnv l) m [] (s.laneAt l)
    rw [laneRunAt_refuseMiss_some hm, hmsgs]
    rfl

end Missed

/-- The line's drop is one event at each present lane, and nothing else (R86). -/
theorem refuseMiss_eachLane (s : State) : EachLane s.presentLanes (fun env r => r.refuseMiss env []) s
    (s.runLanes s.presentLanes fun env r => r.refuseMiss env []) :=
  eachLane_runLanes _ (presentLanes_nodup s) fun _ hl => mem_presentLanes.1 hl

theorem runLanes_lanes (s : State) (ls : List LaneNo) (f : LaneEnv → LaneRun → LaneRun) :
    (s.runLanes ls f).lanes.settleAt = s.lanes.settleAt ∧ (s.runLanes ls f).lanes.drops = s.lanes.drops := by
  unfold runLanes
  induction ls generalizing s with
  | nil => exact ⟨rfl, rfl⟩
  | cons l ls ih =>
    obtain ⟨hsettle, hdrops⟩ := runLane_lanes s l f
    obtain ⟨hsettle', hdrops'⟩ := ih (s.runLane l f)
    exact ⟨hsettle'.trans hsettle, hdrops'.trans hdrops⟩

/-- The line's drop at the lanes, lane by lane (R83, R86). -/
theorem EachLane.missesRefused {s t : State} (h : EachLane s.presentLanes (fun env r => r.refuseMiss env []) s t) :
    (∀ l, s.lanePresent l = false ∨ (s.laneAt l).miss = none → t.laneAt l = s.laneAt l)
      ∧ (∀ l m, s.lanePresent l = true → (s.laneAt l).miss = some m →
          t.laneAt l = (missRefused (s.laneEnv l) m [] (s.laneAt l)).lane)
      ∧ t.tally.inbox = s.tally.inbox ++ (s.presentLanes.filterMap fun l => (s.laneAt l).miss.map fun m =>
          (missRefused (s.laneEnv l) m [] (s.laneAt l)).events)
      ∧ t.decoder.laneMsgs = s.decoder.laneMsgs ++ s.presentLanes.flatMap (fun l =>
          if (s.laneAt l).miss.isSome then .removeMiss l :: laneNotice l (s.laneAt l) (t.laneAt l) else []) := by
  refine ⟨fun l hl => ?_, fun l m hpresent hm => ?_, ?_, ?_⟩
  · by_cases hpresent : l ∈ s.presentLanes
    · have hnone := hl.resolve_left (by simp [mem_presentLanes.1 hpresent])
      rw [h.lane l hpresent, laneRunAt_refuseMiss_none hnone]
    · exact h.other l hpresent
  · rw [h.lane l (mem_presentLanes.2 hpresent), laneRunAt_refuseMiss_some hm]
  · rw [h.inbox, List.filterMap_eq_flatMap_toList, List.flatMap_congr fun l _ => batchesOf_refuseMiss s l]
  · rw [h.laneMsgs, List.flatMap_congr fun l hl => by rw [msgs_refuseMiss, ← h.lane l hl]]

/-- Settles O19. -/
theorem missesEndInNotFound : Obligations.MissesEndInNotFound := by
  refine ⟨fun l m s hpresent hexpired hm => ⟨_, exec_missWaitExpiry hpresent hexpired hm, ?_, rfl, fun hnext => ?_, ?_⟩,
    fun s hdrops => ⟨_, exec_lineDropAtLanes hdrops, ?_⟩, fun s => exec_lineDropAtLanes_none,
    fun l s => exec_missWaitExpiry_early⟩
  · rw [← refuseMiss_eq_missRefused hm,
      ← runLane_eq_laneAfter (fun env r => r.refuseMiss env [laneEvent .missExpired l]) hpresent]
    exact onlyLane_runLane ..
  · rw [missRefused_empty _ _ _ _ hnext]
    exact ⟨laneAfter_laneAt .., laneAfter_inbox ..⟩
  · obtain ⟨-, -, -, -, -, hmsgs⟩ := missRefused_leaves (s.laneEnv l) m [laneEvent .missExpired l] (s.laneAt l)
    rw [laneAfter_laneMsgs, hmsgs, List.take_length_add_append]
    rfl
  · have heach := refuseMiss_eachLane (dropTaken s)
    obtain ⟨hsettle, hcount⟩ := runLanes_lanes (dropTaken s) (dropTaken s).presentLanes fun env r => r.refuseMiss env []
    obtain ⟨hclock, htable, hsettlement, hport, hlink, -⟩ :=
      runLanes_frame (dropTaken s) (dropTaken s).presentLanes fun env r => r.refuseMiss env []
    obtain ⟨hother, hlane, hinbox, hmsgs⟩ := heach.missesRefused
    refine ⟨hcount, hother, fun l m hpresent hm => ⟨hlane l m hpresent hm, ?_⟩, hinbox, hmsgs, heach.tally, heach.decoder,
      hsettle, hclock, htable, hsettlement, hport, hlink⟩
    obtain ⟨hmiss, hwait, htone, hsent, hevents, -⟩ := missRefused_leaves (s.laneEnv l) m [] (s.laneAt l)
    rw [hlane l m hpresent hm]
    exact ⟨hmiss, hwait, htone, hsent, hevents⟩

end Sys2Proof

/-! ## Decisions acted on

What a decision claim leaves of the part, as it admits, refuses or begins a miss, and what a commit claim leaves where no hold
stands on its pass (R53, R57, R77, R78, R81, R87, R88). -/

namespace Sys2Proof

open Machine Claims State

/-! ### The claim of a lane -/

/-- The part as the table engine has served a claim of a lane: with the table and the settlement unit that the claim leaves, and
its events handed. -/
def laneServed (t : Table) (v : Settlement) (es : List Event) (s : State) : State :=
  ({ s with table := t, settlement := v } : State).handEvents es

section LaneClaim

variable {s : State} {l : LaneNo} {t : Table} {v : Settlement} {es : List Event} {r : LaneRun}

theorem lanePresent_of_turn (h : s.laneHasTurn l = true) : s.lanePresent l = true := by
  rw [laneHasTurn, Bool.and_eq_true] at h
  exact h.1

theorem laneServed_inbox : (laneServed t v es s).tally.inbox = s.tally.inbox ++ batchesOf es :=
  handEvents_inbox ({ s with table := t, settlement := v } : State) es

theorem laneServed_laneAt (m : LaneNo) : (laneServed t v es s).laneAt m = s.laneAt m := laneAt_congr (by simp [laneServed]) m

/-- The lane's part of its claim reads the lane and the clock as they were (R12). -/
theorem laneServed_runLane {f : LaneEnv → LaneRun → LaneRun} (hpresent : s.lanePresent l = true)
    (hrun : f (s.laneEnv l) { lane := s.laneAt l, events := [], msgs := [] } = r) :
    (laneServed t v es s).runLane l f = laneAfter l r (laneServed t v es s) := by
  have henv : (laneServed t v es s).laneEnv l = s.laneEnv l := by simp [laneServed, laneEnv, now]
  have hpresent' : (laneServed t v es s).lanePresent l = true := by
    rw [lanePresent_congr (s := s) (by simp [laneServed]), hpresent]
  rw [runLane_eq_laneAfter _ hpresent', laneServed_laneAt, henv, hrun]

@[simp] theorem laneServed_table : (laneAfter l r (laneServed t v es s)).table = t := by simp [laneAfter, laneServed]

theorem laneServed_record (q : Nat) : (laneAfter l r (laneServed t v es s)).record q = t.find q := by rw [record, laneServed_table]

@[simp] theorem laneServed_settlement : (laneAfter l r (laneServed t v es s)).settlement = v := by simp [laneAfter, laneServed]

@[simp] theorem laneServed_port : (laneAfter l r (laneServed t v es s)).port = s.port := by simp [laneAfter, laneServed]

@[simp] theorem laneServed_link : (laneAfter l r (laneServed t v es s)).link = s.link := by simp [laneAfter, laneServed]

/-- A claim of lane l that changes of the table its records and its recency list alone (R12). -/
theorem laneClaimFrame_laneServed {recency : List Nat}
    (ht : { t with records := s.table.records } = { s.table with lastLane := l, recency := recency }) :
    LaneClaimFrame l s (laneAfter l r (laneServed t v es s)) := by
  rw [Table.mk.injEq] at ht
  obtain ⟨-, -, hrevoked, hgeneration, hsweep, hclear, hlane, hlast, hclaims⟩ := ht
  rw [LaneClaimFrame, laneServed_table]
  refine ⟨fun m hm => ?_, by simp [laneAfter, laneServed], by simp [laneAfter, laneServed], hrevoked, hgeneration, hsweep, hclear,
    hlast, hclaims, hlane, ?_, by simp [laneAfter, laneServed]⟩
  · rw [laneAfter, laneAt_congr (s := (laneServed t v es s).setLane l r.lane) (by simp), laneAt_setLane, if_neg hm,
      laneServed_laneAt]
  · have hserved : { (laneServed t v es s).tally with inbox := s.tally.inbox } = s.tally :=
      handEvents_tally ({ s with table := t, settlement := v } : State) es
    have hevent := handEvents_tally ((laneServed t v es s).setLane l r.lane) r.events
    rw [← hserved]
    exact congrArg (fun u => ({ u with inbox := s.tally.inbox } : Tally)) hevent

/-- A lane that hands and raises nothing is all that its part of the claim changes (R51). -/
theorem laneServed_quiet {ln : Lane} (hn : laneNotice l (s.laneAt l) ln = []) :
    laneAfter l { lane := ln, events := [], msgs := [] } (laneServed t v [] s) =
      ({ s with table := t, settlement := v } : State).setLane l ln := by
  rw [laneAfter, laneServed_laneAt, hn]
  exact raiseLane_nil _

/-- A decision's lane raises no LANE notice as it comes to READY, RELEASED or WAITING (R51). -/
theorem laneNotice_deciding {before after : Lane} (hbefore : before.state = .deciding)
    (hcondition : after.condition = before.condition)
    (hafter : after.state = .ready ∨ after.state = .released ∨ after.state = .waiting) : laneNotice l before after = [] := by
  rcases hafter with h | h | h <;> simp [laneNotice, hbefore, hcondition, h]

theorem exec_decisionClaim {p : Presentation} (hturn : s.laneHasTurn l = true) (hs : (s.laneAt l).state = .deciding)
    (hc : (s.laneAt l).current = some p) :
    exec (.decisionClaim l) s = .next ((s.serveLane l).actOn l p.pass (s.decision l p.pass)) := by
  simp only [exec, execDecisionClaim, hturn, hs, hc, and_self, if_true]

end LaneClaim

/-! ### An admission -/

/-- The lane of an admission (R53, R55, R78, R80). -/
def admittedLane (env : LaneEnv) (p day : Nat) (consume : Bool) (left : Option Nat) (rides : Nat) (ln : Lane) : Lane :=
  { ln with
    state := .released, gate := true, lampLit := true, blinkAt := none,
    admission := some { pass := p, day := day, consume := consume, release := env.now, phase := .released },
    window := some (env.now + env.windowMs), current := ln.next, next := none,
    readerOut := ln.readerOut ++ [{ pass := p, kind := .admitted left rides }] }

theorem LaneRun.admitRider_eq (env : LaneEnv) (p day : Nat) (consume : Bool) (left : Option Nat) (rides : Nat) (ln : Lane) :
    LaneRun.admitRider env p day consume left rides { lane := ln, events := [], msgs := [] } =
      { lane := admittedLane env p day consume left rides ln, events := [], msgs := [] } := rfl

theorem laneNotice_admittedLane {env : LaneEnv} {p day : Nat} {consume : Bool} {left : Option Nat} {rides : Nat} {l : LaneNo}
    {ln : Lane} (hs : ln.state = .deciding) : laneNotice l ln (admittedLane env p day consume left rides ln) = [] :=
  laneNotice_deciding hs rfl (.inr (.inl rfl))

/-- The days-left figure of a verdict (R50, R78). -/
theorem daysLeft_eq (day : Nat) (consume : Bool) (r : PassRecord) : daysLeft day consume r =
    if r.kind = .season then none
    else some (r.entitled - sizeDays (if consume then joinDays r.used (oneDay day) else r.used)) := by
  cases hkind : r.kind <;> simp [daysLeft, hkind]

/-- The table as an admission of pass p at lane l leaves it: the record marked, and at the head of the recency list (R78). -/
def admittedTable (l : LaneNo) (p : Nat) (t : Table) : Table :=
  Table.toHead p (Table.update p (fun r => { r with inFlight := some l }) { t with lastLane := l })

/-- The claim that admits (R78). -/
theorem exec_decisionClaim_admitted {s : State} {l : LaneNo} {p : Presentation} {r : PassRecord} {consume : Bool} {run : LaneRun}
    (hturn : s.laneHasTurn l = true) (hs : (s.laneAt l).state = .deciding) (hc : (s.laneAt l).current = some p)
    (hr : s.record p.pass = some r) (hd : s.decision l p.pass = .admitted consume)
    (hrun : LaneRun.admitRider (s.laneEnv l) p.pass s.clock.day consume (daysLeft s.clock.day consume r)
      (ridesFigure s.clock.day r) { lane := s.laneAt l, events := [], msgs := [] } = run) :
    exec (.decisionClaim l) s =
      .next (laneAfter l run (laneServed (admittedTable l p.pass s.table) s.settlement [] s)) := by
  have hr' : (s.serveLane l).record p.pass = some r := hr
  have hadmit : (s.serveLane l).actOn l p.pass (.admitted consume) =
      (laneServed (admittedTable l p.pass s.table) s.settlement [] s).runLane l fun env run =>
        run.admitRider env p.pass s.clock.day consume (daysLeft s.clock.day consume r) (ridesFigure s.clock.day r) := by
    simp only [actOn, hr']
    rfl
  rw [exec_decisionClaim hturn hs hc, hd, hadmit, laneServed_runLane (lanePresent_of_turn hturn) hrun]

/-- Settles O22. -/
theorem decisionAdmits : Obligations.DecisionAdmits := by
  intro l p r consume s hturn hs hc hr hd
  refine ⟨_, exec_decisionClaim_admitted hturn hs hc hr hd (LaneRun.admitRider_eq ..), laneClaimFrame_laneServed rfl, ?_⟩
  rw [laneServed_quiet (laneNotice_admittedLane hs)]
  refine ⟨rfl, rfl, rfl, rfl, rfl, ?_, fun q hq => ?_, rfl, ?_⟩
  · exact Table.find_update_same (t := { s.table with lastLane := l }) (fun _ => rfl) hr
  · exact Table.find_update_ne (t := { s.table with lastLane := l }) (fun _ => rfl) hq
  · rw [laneAt_setLane, if_pos rfl, daysLeft_eq]
    rfl

/-! ### A refusal -/

/-- The table as a refusal of pass p at lane l leaves it: a resident pass is at the head of the recency list (R77). -/
def refusedTable (l : LaneNo) (p : Nat) (t : Table) : Table :=
  { t with lastLane := l, recency := if (t.find p).isSome then p :: t.recency.filter (· != p) else t.recency }

/-- A refusal at a lane with an empty next slot and no pause mark (R53, R77). -/
theorem LaneRun.refuseRider_ready (env : LaneEnv) (p : Nat) (reason : Reason) {ln : Lane} (hnext : ln.next = none)
    (hpause : ln.pause = false) : LaneRun.refuseRider env p reason { lane := ln, events := [], msgs := [] } =
      { lane := { ln with
          state := .ready, lampLit := true, blinkAt := none, current := none, next := none, toneAt := some (env.now + 300),
          readerOut := ln.readerOut ++ [{ pass := p, kind := .refuse reason }] },
        events := [], msgs := [] } := by
  unfold LaneRun.refuseRider
  rw [LaneRun.resume_empty]
  · simp [LaneRun.finishSlot, LaneRun.send, LaneRun.upd, hnext, hpause]
  · exact hnext

/-- The table's part of a refusal, then the lane's (R77). -/
theorem refusePass_eq (s : State) (l : LaneNo) (p : Nat) (reason : Reason) : (s.serveLane l).refusePass l p reason =
    (laneServed (refusedTable l p s.table) s.settlement [refusedEvent l ((s.record p).map (·.cls)) reason] s).runLane l
      fun env run => run.refuseRider env p reason := by
  unfold refusePass refusedTable
  rw [record_serveLane, record]
  cases s.table.find p <;> rfl

/-- The claim that refuses (R77). -/
theorem exec_decisionClaim_refuse {s : State} {l : LaneNo} {p : Presentation} {reason : Reason} {r : LaneRun}
    (hturn : s.laneHasTurn l = true) (hs : (s.laneAt l).state = .deciding) (hc : (s.laneAt l).current = some p)
    (hd : s.decision l p.pass = .refuse reason)
    (hrun : LaneRun.refuseRider (s.laneEnv l) p.pass reason { lane := s.laneAt l, events := [], msgs := [] } = r) :
    exec (.decisionClaim l) s = .next (laneAfter l r (laneServed (refusedTable l p.pass s.table) s.settlement
      [refusedEvent l ((s.record p.pass).map (·.cls)) reason] s)) := by
  rw [exec_decisionClaim hturn hs hc, hd, actOn, refusePass_eq, laneServed_runLane (lanePresent_of_turn hturn) hrun]

/-! ### A miss that begins -/

/-- The lane of a miss that has begun (R48, R81, R82). -/
def missedLane (env : LaneEnv) (p : Nat) (ln : Lane) : Lane :=
  { ln with
    state := .waiting, lampLit := true, blinkAt := some (env.now + 500), miss := some { pass := p, start := env.now },
    missWait := some (env.now + env.missWaitMs), readerOut := ln.readerOut ++ [{ pass := p, kind := .wait }] }

theorem LaneRun.beginMiss_eq (env : LaneEnv) (p : Nat) (ln : Lane) :
    LaneRun.beginMiss env p { lane := ln, events := [], msgs := [] } =
      { lane := missedLane env p ln, events := [laneEvent .missSent env.lane], msgs := [.notice (.miss env.lane p)] } := rfl

theorem laneNotice_missedLane {env : LaneEnv} {p : Nat} {l : LaneNo} {ln : Lane} (hs : ln.state = .deciding) :
    laneNotice l ln (missedLane env p ln) = [] := laneNotice_deciding hs rfl (.inr (.inr rfl))

/-- The claim that begins a miss (R81). -/
theorem exec_decisionClaim_miss {s : State} {l : LaneNo} {p : Presentation} {run : LaneRun} (hturn : s.laneHasTurn l = true)
    (hs : (s.laneAt l).state = .deciding) (hc : (s.laneAt l).current = some p) (hd : s.decision l p.pass = .miss)
    (hrun : LaneRun.beginMiss (s.laneEnv l) p.pass { lane := s.laneAt l, events := [], msgs := [] } = run) :
    exec (.decisionClaim l) s =
      .next (laneAfter l run (laneServed { s.table with lastLane := l } s.settlement [] s)) := by
  rw [exec_decisionClaim hturn hs hc, hd]
  exact congrArg Host.Outcome.next (laneServed_runLane (t := { s.table with lastLane := l }) (es := [])
    (f := fun env run => run.beginMiss env p.pass) (lanePresent_of_turn hturn) hrun)

/-- Settles O23. -/
theorem decisionsRefuseOrBeginAMiss : Obligations.DecisionsRefuseOrBeginAMiss := by
  refine ⟨fun l p reason s hturn hs hc hnext hpause hd => ⟨_, exec_decisionClaim_refuse hturn hs hc hd
      (LaneRun.refuseRider_ready _ _ _ hnext hpause), laneClaimFrame_laneServed rfl, ?_⟩,
    fun l p s hturn hs hc hd => ⟨_, exec_decisionClaim_miss hturn hs hc hd (LaneRun.beginMiss_eq ..),
      laneClaimFrame_laneServed rfl, ?_⟩⟩
  · rw [laneServed_settlement, laneServed_table, laneAfter_laneAt, laneAfter_inbox, laneServed_inbox]
    exact ⟨rfl, rfl, rfl, List.append_nil _, rfl⟩
  · rw [laneServed_settlement, laneServed_table, laneAfter_laneAt, laneAfter_inbox, laneServed_inbox, laneAfter_laneMsgs,
      laneServed_laneAt, laneNotice_missedLane hs]
    exact ⟨rfl, rfl, rfl, List.append_assoc .., rfl, rfl⟩

/-! ### A commit -/

/-- A lane with empty slots that ends its admission without a fault comes back to READY (R57). -/
theorem LaneRun.endAdmission_ready (env : LaneEnv) {ln : Lane} (hmark : ln.faultMark = none) (hcurrent : ln.current = none)
    (hpause : ln.pause = false) (hs : ln.state ≠ .closing) :
    LaneRun.endAdmission env { lane := ln, events := [], msgs := [] } =
      { lane := { ln with
          admission := none, ending := .none, exitSeen := false, state := .ready, lampLit := true, blinkAt := none },
        events := [], msgs := [] } := by
  simp only [LaneRun.endAdmission, LaneRun.upd, hmark, hs, if_false]
  rw [LaneRun.resume_empty hcurrent, hpause]
  rfl

/-- An ending claim: the table's part u, then the lane's (R57). -/
theorem endingClaim_eq_runLane {s u : State} {l : LaneNo} {a : Admission} {r : PassRecord}
    {k : Admission → PassRecord → State → State} (ha : (s.laneAt l).admission = some a) (hr : s.record a.pass = some r)
    (hk : k a r (s.serveLane l) = u) : s.endingClaim l k = u.runLane l fun env run => run.endAdmission env := by
  have ha' : ((s.serveLane l).laneAt l).admission = some a := ha
  have hr' : (s.serveLane l).record a.pass = some r := hr
  rw [endingClaim_eq]
  simp only [endPart, ha', hr', hk]

section Commits

variable {s : State} {l : LaneNo} {a : Admission} {r : PassRecord}

/-- The table's part of a commit with no hold on the pass or awaited (R87, R88). -/
theorem commitRecord_of_no_hold (hhold : s.settlement.hold a.pass = none)
    (hstage : ∀ o, s.stage o ≠ some (.pendingHold a.pass)) : (s.serveLane l).commitRecord l a r =
      laneServed (committedTable l a s.stamp s.table)
        { s.settlement with queue := queueAfterCommit a r s.settlement.queue } (commitEvents l a r) s := by
  have hnot : NotPending a.pass s := fun e he => by simp [hhold] at he
  rw [commitRecord_eq, admissionClaimed_of_notPending hnot]
  refine answerPending_of_none fun o => ?_
  simpa [stage, context] using hstage o

/-- The claim that commits a passage with no hold on the pass or awaited (R57, R87, R88). -/
theorem exec_commitClaim {run : LaneRun} (hturn : s.laneHasTurn l = true) (he : (s.laneAt l).ending = .commit)
    (ha : (s.laneAt l).admission = some a) (hr : s.record a.pass = some r) (hhold : s.settlement.hold a.pass = none)
    (hstage : ∀ o, s.stage o ≠ some (.pendingHold a.pass))
    (hrun : LaneRun.endAdmission (s.laneEnv l) { lane := s.laneAt l, events := [], msgs := [] } = run) :
    exec (.commitClaim l) s = .next (laneAfter l run (laneServed (committedTable l a s.stamp s.table)
      { s.settlement with queue := queueAfterCommit a r s.settlement.queue } (commitEvents l a r) s)) := by
  refine congrArg Host.Outcome.next ((if_pos ⟨hturn, he⟩).trans
    ((endingClaim_eq_runLane ha hr (commitRecord_of_no_hold hhold hstage)).trans ?_))
  exact laneServed_runLane (lanePresent_of_turn hturn) hrun

end Commits

/-- Settles O25. -/
theorem commitCountsTheRider : Obligations.CommitCountsTheRider := by
  intro l a r s hturn he ha hr hhold hstage hmark hcurrent hpause hs hnext
  have hends := commitClaim_endsAdmission hturn hr he
  refine ⟨_, exec_commitClaim hturn he ha hr hhold hstage (LaneRun.endAdmission_ready _ hmark hcurrent hpause hs),
    laneClaimFrame_laneServed hends.rest, laneServed_port, laneServed_link, ?_⟩
  rw [laneServed_settlement, laneServed_table, laneAfter_laneAt, laneAfter_inbox, laneServed_inbox]
  refine ⟨?_, fun q hq => ?_, rfl, ?_, List.append_nil _, rfl⟩
  · exact (laneServed_record _).trans hends.record
  · exact (laneServed_record _).trans (hends.others q hq)
  · rw [queueAfterCommit, Table.find_pass hr]
    rfl

end Sys2Proof

/-! ## The revocation list: loads -/

namespace Sys2Proof

open Machine Claims

namespace Machine.State

@[simp] theorem serve_clearing (s : State) (o : Origin) : (s.serve o).clearing = s.clearing := by cases o <;> rfl

section Loads

variable {s : State} {a : LoadArgs} {o : Origin}

/-- A load that meets a sweep or a TABLE CLEAR is answered BUSY (R97). -/
theorem loadFor_busy (h : s.table.sweep.running = true ∨ s.clearing = true) :
    (s.serve o).loadFor o a = (s.serve o).busy o := by
  simp [loadFor, h]

/-- A broadcast load that meets a sweep or a TABLE CLEAR is not applied (R101). -/
theorem loadBroadcast_busy (h : s.table.sweep.running = true ∨ s.clearing = true) :
    (s.serve o).loadBroadcast a = s.serve o := by
  simp [loadBroadcast, h]

variable (hsweep : s.table.sweep.running = false) (hclear : s.clearing = false)
include hsweep hclear

theorem loadFor_listFull (h : judgeLoad s.table.revoked a = .listFull) :
    (s.serve o).loadFor o a = (s.serve o).fail o .listFull none none := by
  simp [loadFor, hsweep, hclear, h]

theorem loadFor_badList {i : Nat} (h : judgeLoad s.table.revoked a = .badList i) :
    (s.serve o).loadFor o a = (s.serve o).fail o .badList none (some { kind := .entry, index := i }) := by
  simp [loadFor, hsweep, hclear, h]

/-- An accepted load changes the table and is answered COMPLETE (R100). -/
theorem loadFor_accepted {list : List Nat} (h : judgeLoad s.table.revoked a = .accepted list) :
    (s.serve o).loadFor o a = ((s.serve o).updTable (Table.load list)).complete o
      (loadImage s.table.revoked list (nextGeneration s.table.generation)) := by
  simp [loadFor, hsweep, hclear, h, Table.load]

/-- An accepted broadcast load changes the table alone (R100, R101). -/
theorem loadBroadcast_accepted {list : List Nat} (h : judgeLoad s.table.revoked a = .accepted list) :
    (s.serve o).loadBroadcast a = (s.serve o).updTable (Table.load list) := by
  simp [loadBroadcast, hsweep, hclear, h]

/-- A broadcast load that is refused is not applied (R101). -/
theorem loadBroadcast_refused (h : ∀ list, judgeLoad s.table.revoked a ≠ .accepted list) :
    (s.serve o).loadBroadcast a = s.serve o := by
  cases hj : judgeLoad s.table.revoked a with
  | listFull => simp [loadBroadcast, hsweep, hclear, hj]
  | badList i => simp [loadBroadcast, hsweep, hclear, hj]
  | accepted list => exact absurd hj (h list)

end Loads

end Machine.State

open State

/-- REVOKE LOAD of an origin at its turn. -/
theorem execRevokeLoad_own {o : Origin} {a : LoadArgs} {s : State} (h : HasClaim o (.revokeLoad a) s) :
    exec (.revokeLoad (.own o)) s = .next ((s.serve o).loadFor o a) := by
  obtain ⟨hwaits, hturn⟩ := h
  simp only [exec, execRevokeLoad, hwaits, tableClaim_of_turn hturn]

/-- A broadcast REVOKE LOAD, first of the office's claims, at its turn. -/
theorem execRevokeLoad_broadcast {a : LoadArgs} {rest : List OfficeClaim} {s : State}
    (hclaims : s.table.officeClaims = .broadcastLoad a :: rest) (hturn : s.turn = .origin .office) :
    exec (.revokeLoad .broadcast) s = .next ((s.serve .office).loadBroadcast a) := by
  simp only [exec, execRevokeLoad, hclaims, if_pos hturn]

/-- The table as the office's first claim leaves it served. -/
theorem serve_office_of_claims {s : State} {c : OfficeClaim} {rest : List OfficeClaim} (h : s.table.officeClaims = c :: rest) :
    s.serve .office = { s with table := { s.table with lastOrigin := .office, officeClaims := rest } } := by
  simp [serve_eq, served, h]

/-! ### Bad entries -/

/-- The entry after a carried list's first ones is bad by itself, or by the last of those (R98). -/
theorem badAt_length_iff {pre es : List Nat} {e : Nat} :
    BadAt (pre ++ e :: es) pre.length ↔ badPass e = true ∨ pre.getLast?.any (e ≤ ·) = true := by
  have hprev : (∃ j d, pre.length = j + 1 ∧ (pre ++ e :: es)[j]? = some d ∧ e ≤ d) ↔ pre.getLast?.any (e ≤ ·) = true := by
    rw [List.getLast?_eq_getElem?, Option.any_eq_true]
    refine ⟨fun ⟨j, d, hj, hd, hle⟩ => ⟨d, ?_, by simpa using hle⟩, fun ⟨d, hd, hle⟩ => ?_⟩
    · rwa [List.getElem?_append_left (by omega), show j = pre.length - 1 by omega] at hd
    · obtain ⟨hlt, -⟩ := List.getElem?_eq_some_iff.1 hd
      exact ⟨pre.length - 1, d, by omega, by rwa [List.getElem?_append_left hlt], by simpa using hle⟩
  simp [BadAt, badPass_iff, ← hprev, or_assoc]

/-- What the search for a bad entry finds once it is past the entries `pre`: the first bad one of those that follow (R98). -/
theorem badEntry_append_eq_some_iff {pre es : List Nat} {i : Nat} : badEntry pre.length pre.getLast? es = some i ↔
    pre.length ≤ i ∧ BadAt (pre ++ es) i ∧ ∀ j, pre.length ≤ j → j < i → ¬ BadAt (pre ++ es) j := by
  induction es generalizing pre with
  | nil =>
    refine ⟨nofun, fun ⟨hi, ⟨e, he, _⟩, _⟩ => ?_⟩
    simp [List.getElem?_eq_none hi] at he
  | cons e es ih =>
    unfold badEntry
    split
    case isTrue hbad =>
      rw [← badAt_length_iff (es := es)] at hbad
      refine ⟨fun h => ?_, fun ⟨hi, _, hfirst⟩ => ?_⟩
      · obtain rfl : pre.length = i := by simpa using h
        exact ⟨le_rfl, hbad, fun j hj hlt => absurd hj (Nat.not_le.2 hlt)⟩
      · have hle : i ≤ pre.length := Nat.not_lt.1 fun hlt => hfirst _ le_rfl hlt hbad
        rw [le_antisymm hi hle]
    case isFalse hgood =>
      rw [← badAt_length_iff (es := es)] at hgood
      have hnext := ih (pre := pre ++ [e])
      simp only [List.length_append, List.length_singleton, List.getLast?_concat, List.append_assoc,
        List.singleton_append] at hnext
      rw [hnext]
      refine ⟨fun ⟨hi, hat, hfirst⟩ => ⟨by omega, hat, fun j hj hlt => ?_⟩, fun ⟨hi, hat, hfirst⟩ =>
        ⟨?_, hat, fun j hj hlt => hfirst j (by omega) hlt⟩⟩
      · obtain rfl | hlt' := eq_or_lt_of_le hj
        · exact hgood
        · exact hfirst j hlt' hlt
      · exact lt_of_le_of_ne hi fun heq => hgood (heq ▸ hat)

/-- The entry that the list checks name is the first bad one (R98). -/
theorem badEntry_eq_some_iff {es : List Nat} {i : Nat} :
    badEntry 0 none es = some i ↔ BadAt es i ∧ ∀ j, j < i → ¬ BadAt es j := by
  simpa using badEntry_append_eq_some_iff (pre := []) (es := es) (i := i)

/-- The list checks pass a list without a bad entry (R98). -/
theorem badEntry_of_no_badAt {es : List Nat} (h : ∀ i, ¬ BadAt es i) : badEntry 0 none es = none :=
  Option.eq_none_iff_forall_ne_some.2 fun i hi => h i (badEntry_eq_some_iff.1 hi).1

/-- A carried list without a bad entry is ascending and names pass numbers only (R98). -/
theorem no_badAt_iff {es : List Nat} :
    (∀ i, ¬ BadAt es i) ↔ es.Pairwise (· < ·) ∧ ∀ e ∈ es, badPass e = false := by
  refine ⟨fun h => ?_, fun ⟨hsorted, hgood⟩ i ⟨e, he, hbad⟩ => ?_⟩
  · obtain ⟨hsorted, hall⟩ := badEntry_eq_none (badEntry_of_no_badAt h)
    exact ⟨hsorted, fun e he => (hall e he).1⟩
  · have hpass := hgood e (List.mem_of_getElem? he)
    rcases or_assoc.2 hbad with hbad | ⟨j, d, rfl, hd, hle⟩
    · simp [badPass_iff.2 hbad] at hpass
    · obtain ⟨hj, rfl⟩ := List.getElem?_eq_some_iff.1 hd
      obtain ⟨hj', rfl⟩ := List.getElem?_eq_some_iff.1 he
      exact absurd (List.pairwise_iff_getElem.1 hsorted j (j + 1) hj hj' (Nat.lt_succ_self j)) (Nat.not_lt.2 hle)

/-! ### The tests of a load -/

section Judged

variable {held : List Nat} {a : LoadArgs}

/-- The resulting list of a load (R99). -/
def loadedList (held : List Nat) (a : LoadArgs) : List Nat := if a.merge then joinPasses held a.entries else a.entries

theorem loadedList_complete (h : a.merge = false) : loadedList held a = a.entries := by simp [loadedList, h]

theorem loadedList_merge (h : a.merge = true) : loadedList held a = joinPasses held a.entries := by simp [loadedList, h]

theorem judgeLoad_of_count (h : 2048 < a.count) : judgeLoad held a = .listFull := by simp [judgeLoad, h]

/-- A load of an allowed count whose entries are good (R97, R99). -/
theorem judgeLoad_of_good (hcount : a.count ≤ 2048) (hgood : badEntry 0 none a.entries = none) : judgeLoad held a =
    if 2048 < (loadedList held a).length then .listFull else .accepted (loadedList held a) := by
  simp only [judgeLoad, if_neg (Nat.not_lt.2 hcount), hgood]
  rfl

/-- A load of an allowed count fails BAD LIST by its first bad entry (R97, R98). -/
theorem judgeLoad_eq_badList_iff (hcount : a.count ≤ 2048) {i : Nat} :
    judgeLoad held a = .badList i ↔ badEntry 0 none a.entries = some i := by
  cases hbad : badEntry 0 none a.entries with
  | none => rw [judgeLoad_of_good hcount hbad]; split <;> simp
  | some j => simp [judgeLoad, Nat.not_lt.2 hcount, hbad]

/-- The list that a load is accepted with (R99). -/
theorem eq_loadedList_of_accepted {list : List Nat} (h : judgeLoad held a = .accepted list) : list = loadedList held a := by
  have hcount : a.count ≤ 2048 := Nat.not_lt.1 fun hover => by simp [judgeLoad_of_count hover] at h
  have hgood : badEntry 0 none a.entries = none := by
    refine Option.eq_none_iff_forall_ne_some.2 fun i hi => ?_
    simp [(judgeLoad_eq_badList_iff (held := held) hcount).2 hi] at h
  rw [judgeLoad_of_good hcount hgood] at h
  split at h
  · simp at h
  · exact (LoadOutcome.accepted.inj h).symm

end Judged

/-- Settles O32. -/
theorem loadsReplaceTheListOrLeaveIt : Obligations.LoadsReplaceTheListOrLeaveIt := by
  refine ⟨fun a list s hsweep hclear hj => ⟨fun o h => ?_, fun rest hclaims hturn => ?_, fun hm => ?_, fun hm p => ?_⟩,
    fun a s => ⟨fun o h => ⟨fun hbusy => ?_, fun hsweep hclear hj => ?_, fun hsweep hclear i hj => ?_⟩,
      fun rest hclaims hturn hwhy => ?_⟩,
    fun a held => ⟨judgeLoad_of_count, fun hcount => ⟨fun i => ?_, fun hsorted hgood => ?_⟩⟩, fun es => no_badAt_iff⟩
  · rw [execRevokeLoad_own h, loadFor_accepted hsweep hclear hj, updTable, Table.load, serve_generation]
    rfl
  · rw [execRevokeLoad_broadcast hclaims hturn, loadBroadcast_accepted hsweep hclear hj,
      serve_office_of_claims hclaims]
    rfl
  · rw [eq_loadedList_of_accepted hj, loadedList_complete hm]
  · rw [eq_loadedList_of_accepted hj, loadedList_merge hm, mem_joinPasses]
  · rw [execRevokeLoad_own h, loadFor_busy hbusy]
  · rw [execRevokeLoad_own h, loadFor_listFull hsweep hclear hj]
  · rw [execRevokeLoad_own h, loadFor_badList hsweep hclear hj]
  · have hleft : (s.serve .office).loadBroadcast a = s.serve .office := by
      by_cases hbusy : s.table.sweep.running = true ∨ s.clearing = true
      · exact loadBroadcast_busy hbusy
      · obtain ⟨hsweep, hclear⟩ : s.table.sweep.running = false ∧ s.clearing = false := by simpa using hbusy
        have hrefused : ∀ list, judgeLoad s.table.revoked a ≠ .accepted list := by simpa [hsweep, hclear] using hwhy
        exact loadBroadcast_refused hsweep hclear hrefused
    rw [execRevokeLoad_broadcast hclaims hturn, hleft, serve_office_of_claims hclaims]
  · rw [judgeLoad_eq_badList_iff hcount, badEntry_eq_some_iff]
  · rw [judgeLoad_of_good hcount (badEntry_of_no_badAt (no_badAt_iff.2 ⟨hsorted, hgood⟩))]
    exact ⟨fun hm => by rw [loadedList_complete hm], fun hm =>
      ⟨joinPasses held a.entries, fun p => mem_joinPasses, joinPasses_sorted _, by rw [loadedList_merge hm]⟩⟩

end Sys2Proof

/-! ## The sweep -/

namespace Sys2Proof

open Machine Claims

/-! ### The record dealt with -/

theorem above_iff {t : Table} {r : PassRecord} : t.sweep.position.all (· < r.pass) = true ↔ AboveSweep t r := by
  simp [AboveSweep, Option.all_eq_true]

/-- In the sorted index a sweep step finds the record of lowest pass number above the position (R8, R102). -/
theorem sweepTarget_eq_some_iff {t : Table} (h : t.IndexOk) {r : PassRecord} : t.sweepTarget = some r ↔
    r ∈ t.records ∧ AboveSweep t r ∧ ∀ x ∈ t.records, AboveSweep t x → r.pass ≤ x.pass := by
  obtain ⟨hsorted, -⟩ := h
  rw [Table.sweepTarget, List.find?_eq_some_iff_append, above_iff]
  simp only [Bool.not_eq_true', ← Bool.not_eq_true, above_iff]
  constructor
  · rintro ⟨habove, before, after, hrec, hbefore⟩
    rw [hrec] at hsorted ⊢
    obtain ⟨-, hafter, -⟩ := List.pairwise_append.1 hsorted
    refine ⟨by simp, habove, fun x hx hxabove => ?_⟩
    rcases List.mem_append.1 hx with hx | hx
    · exact absurd hxabove (hbefore x hx)
    · rcases List.mem_cons.1 hx with rfl | hx
      · exact le_rfl
      · exact ((List.pairwise_cons.1 hafter).1 x hx).le
  · rintro ⟨hmem, habove, hlowest⟩
    obtain ⟨before, after, hrec⟩ := List.append_of_mem hmem
    refine ⟨habove, before, after, hrec, fun x hx hxabove => ?_⟩
    rw [hrec] at hsorted hlowest
    have hlt : x.pass < r.pass := (List.pairwise_append.1 hsorted).2.2 x hx r (by simp)
    exact absurd (hlowest x (by simp [hx]) hxabove) (Nat.not_le.2 hlt)

theorem sweepTarget_eq_none_iff {t : Table} : t.sweepTarget = none ↔ ∀ x ∈ t.records, ¬ AboveSweep t x := by
  simp only [Table.sweepTarget, List.find?_eq_none, above_iff]

/-! ### The step -/

/-- The state of a record after its step (R103). -/
theorem sweptState_eq (listed pending : Bool) (st : RecordState) : sweptState listed pending st =
    if st = .active ∧ listed = true ∧ pending = false then .revoked
    else if st = .revoked ∧ listed = false then .active else st := by
  cases st <;> cases listed <;> cases pending <;> rfl

/-- A step makes a record REVOKED exactly where it is ACTIVE, listed and without a PENDING hold (R103). -/
theorem swept_revoked_iff {listed pending : Bool} {st : RecordState} :
    (st = .active ∧ sweptState listed pending st = .revoked) ↔ st = .active ∧ listed = true ∧ pending = false := by
  refine and_congr_right fun hst => ?_
  simp [hst, sweptState]

/-- A step makes a record ACTIVE again exactly where it is REVOKED and not listed (R103). -/
theorem swept_active_iff {listed pending : Bool} {st : RecordState} :
    (st = .revoked ∧ sweptState listed pending st = .active) ↔ st = .revoked ∧ listed = false := by
  refine and_congr_right fun hst => ?_
  simp [hst, sweptState]

/-- The position and the counts after a step, by what the step did to its record (R102, R103). -/
theorem Machine.Sweep.advance_swept (w : Sweep) (p : Nat) (listed pending : Bool) (st : RecordState) :
    w.advance p st (sweptState listed pending st) = { w with
      position := some p,
      revokedCount := w.revokedCount + (if st = .active ∧ listed = true ∧ pending = false then 1 else 0),
      restoredCount := w.restoredCount + (if st = .revoked ∧ listed = false then 1 else 0) } := by
  simp only [Sweep.advance, swept_revoked_iff, swept_active_iff, add_ite, Nat.add_zero]

section Step

variable {s : State}

/-- A sweep step that is taken with a record above the position (R102). -/
theorem exec_sweepStep_record (hrun : s.table.sweep.running = true) (hmay : s.mayStep = true) {r : PassRecord}
    (h : s.table.sweepTarget = some r) : exec .sweepStep s = .next (s.sweepRecord r) := by
  simp only [exec, execSweepStep, hrun, hmay, and_self, if_true, h]

/-- A sweep step that is taken with no record above the position (R104). -/
theorem exec_sweepStep_end (hrun : s.table.sweep.running = true) (hmay : s.mayStep = true)
    (h : s.table.sweepTarget = none) : exec .sweepStep s = .next s.sweepEnd := by
  simp only [exec, execSweepStep, hrun, hmay, and_self, if_true, h]

/-- A sweep step without a sweep, or while another claim waits (R12, R102). -/
theorem exec_sweepStep_waits (h : s.table.sweep.running = false ∨ s.mayStep = false) : exec .sweepStep s = .next s := by
  have hnot : ¬ (s.table.sweep.running = true ∧ s.mayStep = true) := by
    rintro ⟨hrun, hmay⟩
    simp [hrun, hmay] at h
  simp only [exec, execSweepStep, if_neg hnot]

/-- The record dealt with, in the state its step gives it (R103). -/
theorem record_sweepRecord {r : PassRecord} (hr : s.record r.pass = some r) : (s.sweepRecord r).record r.pass =
    some { r with state := sweptState (s.table.listed r.pass) (s.settlement.pending r.pass) r.state } :=
  Table.find_update_same (t := s.table) (fun _ => rfl) hr

/-- The sweep after its step on a record, both counts as the record's change has them (R102, R103). -/
theorem sweep_sweepRecord (r : PassRecord) : (s.sweepRecord r).table.sweep = {
    running := s.table.sweep.running, position := some r.pass,
    revokedCount := s.table.sweep.revokedCount
      + (if r.state = .active ∧ s.table.listed r.pass = true ∧ s.settlement.pending r.pass = false then 1 else 0),
    restoredCount := s.table.sweep.restoredCount
      + (if r.state = .revoked ∧ s.table.listed r.pass = false then 1 else 0) } :=
  s.table.sweep.advance_swept ..

/-- A step changes no other record (R103). -/
theorem otherRecords_sweepRecord (r : PassRecord) : OtherRecords r.pass s (s.sweepRecord r) :=
  fun _ hq => Table.find_update_ne (t := s.table) (fun _ => rfl) hq

end Step

/-- Settles O33. -/
theorem sweepBringsRecordsIntoLine : Obligations.SweepBringsRecordsIntoLine := by
  refine ⟨fun s hrun hmay => ⟨fun r htarget hr => ⟨s.sweepRecord r, ?_, rfl, otherRecords_sweepRecord r, rfl, rfl, rfl, rfl, ?_, ?_⟩,
    fun hnone => ?_⟩, fun s => exec_sweepStep_waits, fun t h => ⟨fun r => sweepTarget_eq_some_iff h, sweepTarget_eq_none_iff⟩⟩
  · exact exec_sweepStep_record hrun hmay htarget
  · rw [record_sweepRecord hr, sweptState_eq]
  · rw [sweep_sweepRecord, hrun]
  · exact exec_sweepStep_end hrun hmay hnone

end Sys2Proof

/-! ## The hold list and the records it names

What the hold list must agree with: the state and the mark of each record, and the REFUND HOLDs that wait for a PENDING hold
(R109 to R111, R114); and the moves by which commands change the three together. -/

namespace Sys2Proof.Machine

/-- What the hold list says of a record: its state, and whether it is in flight (R110, R111). -/
def PassRecord.standing (r : PassRecord) : RecordState × Bool := (r.state, r.inFlight.isSome)

/-- The standing of a pass, if it is resident. -/
def Table.standing (t : Table) (p : Nat) : Option (RecordState × Bool) := (t.find p).map PassRecord.standing

/-- An origin's request in flight is the REFUND HOLD placed PENDING on this pass. -/
def Decoder.awaits (d : Decoder) (o : Origin) (p : Nat) : Prop :=
  (d.context o).inFlight.map (·.stage) = some (.pendingHold p)

/-- The agreement of a hold list with the standing of the passes and the requests that wait for a PENDING hold (R109 to R111). -/
structure HoldsFit (standing : Nat → Option (RecordState × Bool)) (holds : List HoldEntry) (awaits : Origin → Nat → Prop) :
    Prop where
  room : holds.length ≤ 16
  order : holds.Pairwise holdBefore
  once : (holds.map (·.pass)).Nodup
  held : ∀ e ∈ holds, e.phase = .held → e.deadline.isSome = true ∧ ∃ b, standing e.pass = some (.held, b)
  pending : ∀ e ∈ holds, e.phase = .pending → e.deadline = none ∧ standing e.pass = some (.active, true)
  named : ∀ p b, standing p = some (.held, b) → ∃ e ∈ holds, e.pass = p ∧ e.phase = .held
  awaited : ∀ o p, awaits o p → ∃ e ∈ holds, e.pass = p ∧ e.phase = .pending ∧ e.owner = o

/-- The hold list of the part agrees with its records and its requests in flight. -/
def State.HoldsAgree (s : State) : Prop := HoldsFit s.table.standing s.settlement.holds s.decoder.awaits

/-! ### Looking up holds and standings -/

/-- Where no pass has two entries, the entry found for a pass is the one that names it (R110). -/
theorem Settlement.hold_eq_some_iff {u : Settlement} (h : (u.holds.map (·.pass)).Nodup) {p : Nat} {e : HoldEntry} :
    u.hold p = some e ↔ e ∈ u.holds ∧ e.pass = p := by
  refine ⟨fun he => ⟨List.mem_of_find?_eq_some he, hold_pass he⟩, fun ⟨hmem, hp⟩ => ?_⟩
  cases hf : u.hold p with
  | none => exact absurd hp (by simpa using List.find?_eq_none.1 hf e hmem)
  | some x =>
    have hx : x.pass = e.pass := (hold_pass hf).trans hp.symm
    rw [List.inj_on_of_nodup_map h (List.mem_of_find?_eq_some hf) hmem hx]

/-- The entry found for a pass passes a test exactly when an entry of the pass does. -/
theorem Settlement.hold_any_iff {u : Settlement} (h : (u.holds.map (·.pass)).Nodup) {p : Nat} {q : HoldEntry → Bool} :
    (u.hold p).any q = true ↔ ∃ e ∈ u.holds, e.pass = p ∧ q e = true := by
  simp only [Option.any_eq_true, hold_eq_some_iff h, and_assoc]

theorem Settlement.hold_eq_none_iff {u : Settlement} {p : Nat} : u.hold p = none ↔ ∀ e ∈ u.holds, e.pass ≠ p := by
  simp [hold]

theorem Table.standing_eq_some_iff {t : Table} {p : Nat} {x : RecordState × Bool} :
    t.standing p = some x ↔ ∃ r, t.find p = some r ∧ r.standing = x := by
  simp [standing]

/-- In the sorted index the record found for a pass is the one of that pass (R2, R8). -/
theorem Table.IndexOk.find_of_mem {t : Table} (h : t.IndexOk) {r : PassRecord} (hr : r ∈ t.records) : t.find r.pass = some r := by
  obtain ⟨x, hx⟩ := Option.isSome_iff_exists.1 (find_isSome_iff.2 (mem_passes.2 ⟨r, hr, rfl⟩))
  have hnodup : (t.records.map (·.pass)).Nodup := (indexOk_iff.1 h).1.imp fun hlt => Nat.ne_of_lt hlt
  rw [hx, List.inj_on_of_nodup_map hnodup (find_mem hx) hr (find_pass hx)]

/-- The invariant of the hold list, in the terms of standings and of the entries themselves. -/
theorem State.holdsOk_iff {s : State} (h : s.table.IndexOk) : s.HoldsOk ↔ s.HoldsAgree := by
  have hheld (p : Nat) : (s.record p).any (fun r => r.state == .held) = true ↔ ∃ b, s.table.standing p = some (.held, b) := by
    cases hr : s.table.find p <;> simp [record, Table.standing, PassRecord.standing, hr]
  have hpending (p : Nat) : (s.record p).any (fun r => r.state == .active && r.inFlight.isSome) = true
      ↔ s.table.standing p = some (.active, true) := by
    cases hr : s.table.find p <;> simp [record, Table.standing, PassRecord.standing, hr]
  have hnamed {hold : Nat → Prop} : (∀ r ∈ s.table.records, r.state = .held → hold r.pass)
      ↔ ∀ p b, s.table.standing p = some (.held, b) → hold p := by
    refine ⟨fun hr p b hp => ?_, fun hp r hr hst => hp r.pass r.inFlight.isSome ?_⟩
    · obtain ⟨r, hfind, hst⟩ := Table.standing_eq_some_iff.1 hp
      exact Table.find_pass hfind ▸ hr r (Table.find_mem hfind) (congrArg Prod.fst hst)
    · simp [Table.standing, h.find_of_mem hr, PassRecord.standing, hst]
  have hentry (hn : (s.settlement.holds.map (·.pass)).Nodup) (p : Nat) (q : HoldEntry → Bool) :=
    Settlement.hold_any_iff (u := s.settlement) hn (p := p) (q := q)
  constructor
  · rintro ⟨hroom, horder, honce, hh, hp, hn, hw⟩
    simp only [hheld, hpending, hentry honce, Bool.and_eq_true, beq_iff_eq] at hh hp hn hw
    exact ⟨hroom, horder, honce, hh, hp, hnamed.1 hn, hw⟩
  · rintro ⟨hroom, horder, honce, hh, hp, hn, hw⟩
    simp only [HoldsOk, hheld, hpending, hentry honce, Bool.and_eq_true, beq_iff_eq]
    exact ⟨hroom, horder, honce, hh, hp, hnamed.2 hn, hw⟩

/-! ### The moves of the hold list -/

/-- A HELD entry's place keeps the list's order (R109). -/
theorem insertHeld_order {e : HoldEntry} (he : e.phase = .held) {hs : List HoldEntry} (h : hs.Pairwise holdBefore) :
    (insertHeld e hs).Pairwise holdBefore := by
  obtain ⟨before, after, hnew, rfl, hbefore, hafter⟩ := insertHeld_split e hs
  obtain ⟨hb, ha, hba⟩ := List.pairwise_append.1 h
  have hfirst : ∀ y ∈ after, holdBefore e y := by
    intro y hy
    obtain ⟨x, rest, rfl⟩ := List.exists_cons_of_ne_nil (List.ne_nil_of_mem hy)
    have hx : x.phase = .held → e.deadline.getD 0 ≤ x.deadline.getD 0 := fun hp => by
      have := hafter x rfl
      simp [holdAfter, hp] at this
      omega
    refine ⟨fun _ => he, fun _ hyp => ?_⟩
    rcases List.mem_cons.1 hy with rfl | hy
    · exact hx hyp
    · obtain ⟨hxp, hle⟩ := (List.pairwise_cons.1 ha).1 y hy
      exact (hx (hxp hyp)).trans (hle (hxp hyp) hyp)
  rw [hnew]
  refine List.pairwise_append.2 ⟨hb, List.pairwise_cons.2 ⟨hfirst, ha⟩, fun x hx y hy => ?_⟩
  rcases List.mem_cons.1 hy with rfl | hy
  · have := hbefore x hx
    simp only [holdAfter, Bool.and_eq_true, beq_iff_eq, decide_eq_true_eq] at this
    exact ⟨fun _ => this.1, fun _ _ => this.2⟩
  · exact hba x hx y hy

theorem insertHeld_perm (e : HoldEntry) (hs : List HoldEntry) : (insertHeld e hs).Perm (e :: hs) := by
  obtain ⟨before, after, hnew, rfl, -⟩ := insertHeld_split e hs
  exact hnew ▸ List.perm_middle

namespace HoldsFit

variable {standing standing' : Nat → Option (RecordState × Bool)} {holds : List HoldEntry} {awaits awaits' : Origin → Nat → Prop}

/-- A pass without an entry is not HELD (R111). -/
theorem not_held (h : HoldsFit standing holds awaits) {p : Nat} (hp : ∀ e ∈ holds, e.pass = p → e.phase ≠ .held) (b : Bool) :
    standing p ≠ some (.held, b) := fun hst => by
  obtain ⟨e, he, hpass, hphase⟩ := h.named p b hst
  exact hp e he hpass hphase

/-- No pass has two entries (R110). -/
theorem eq_of_pass (h : HoldsFit standing holds awaits) {e x : HoldEntry} (he : e ∈ holds) (hx : x ∈ holds)
    (hp : x.pass = e.pass) : x = e := List.inj_on_of_nodup_map h.once hx he hp

/-- No request waits for a hold that is HELD. -/
theorem not_awaits (h : HoldsFit standing holds awaits) {e : HoldEntry} (he : e ∈ holds) (hp : e.phase = .held) (o : Origin) :
    ¬ awaits o e.pass := fun ho => by
  obtain ⟨x, hx, hpass, hphase, -⟩ := h.awaited o e.pass ho
  simp [h.eq_of_pass he hx hpass, hp] at hphase

/-- A request that waits for the hold of a pass is its owner's (R114). -/
theorem owner_of_awaits (h : HoldsFit standing holds awaits) {e : HoldEntry} (he : e ∈ holds) {o : Origin}
    (ho : awaits o e.pass) : o = e.owner := by
  obtain ⟨x, hx, hpass, -, howner⟩ := h.awaited o e.pass ho
  rw [← howner, h.eq_of_pass he hx hpass]

/-- The list left as it is: the same passes are HELD, those with a PENDING entry stand as they must, no request begins to wait. -/
theorem keep (h : HoldsFit standing holds awaits)
    (hheld : ∀ p, (∃ b, standing' p = some (.held, b)) ↔ ∃ b, standing p = some (.held, b))
    (hpending : ∀ e ∈ holds, e.phase = .pending → standing e.pass = some (.active, true) → standing' e.pass = some (.active, true))
    (hawaits : ∀ o p, awaits' o p → awaits o p) : HoldsFit standing' holds awaits' where
  room := h.room
  order := h.order
  once := h.once
  held e he hp := ⟨(h.held e he hp).1, (hheld _).2 (h.held e he hp).2⟩
  pending e he hp := ⟨(h.pending e he hp).1, hpending e he hp (h.pending e he hp).2⟩
  named p b hst := by
    obtain ⟨c, hc⟩ := (hheld p).1 ⟨b, hst⟩
    exact h.named p c hc
  awaited o p ho := h.awaited o p (hawaits o p ho)

/-- The entry of a pass leaves, which is not HELD from then on, and no request waits for it (R115, R119, R120, R122). -/
theorem remove (h : HoldsFit standing holds awaits) (p : Nat) (hother : ∀ q, q ≠ p → standing' q = standing q)
    (hfree : ∀ b, standing' p ≠ some (.held, b)) (hawaits : ∀ o q, awaits' o q → q ≠ p ∧ awaits o q) :
    HoldsFit standing' (holds.filter fun e => e.pass != p) awaits' where
  room := (List.length_filter_le _ _).trans h.room
  order := h.order.filter _
  once := h.once.sublist (List.filter_sublist.map _)
  held e he hp := by
    obtain ⟨hmem, hne⟩ := List.mem_filter.1 he
    rw [hother _ (by simpa using hne)]
    exact h.held e hmem hp
  pending e he hp := by
    obtain ⟨hmem, hne⟩ := List.mem_filter.1 he
    rw [hother _ (by simpa using hne)]
    exact h.pending e hmem hp
  named q b hq := by
    have hne : q ≠ p := fun heq => hfree b (heq ▸ hq)
    obtain ⟨e, he, hpass, hphase⟩ := h.named q b (hother q hne ▸ hq)
    exact ⟨e, List.mem_filter.2 ⟨he, by simpa [hpass] using hne⟩, hpass, hphase⟩
  awaited o q ho := by
    obtain ⟨hne, hq⟩ := hawaits o q ho
    obtain ⟨e, he, hpass, hphase⟩ := h.awaited o q hq
    exact ⟨e, List.mem_filter.2 ⟨he, by simpa [hpass] using hne⟩, hpass, hphase⟩

/-- A PENDING entry joins the tail, on an ACTIVE record in flight, its request waiting for it (R112, R114). -/
theorem join (h : HoldsFit standing holds awaits) {e : HoldEntry} (hroom : holds.length < 16) (hnew : ∀ x ∈ holds, x.pass ≠ e.pass)
    (hphase : e.phase = .pending) (hdeadline : e.deadline = none) (hstanding : standing e.pass = some (.active, true))
    (hawaits : ∀ o q, awaits' o q → awaits o q ∨ o = e.owner ∧ q = e.pass) : HoldsFit standing (holds ++ [e]) awaits' where
  room := by simpa using hroom
  order := List.pairwise_append.2 ⟨h.order, List.pairwise_singleton .., fun x _ y hy => by
    obtain rfl := List.mem_singleton.1 hy
    exact ⟨fun hp => by simp [hphase] at hp, fun _ hp => by simp [hphase] at hp⟩⟩
  once := by
    rw [List.map_append, List.nodup_append]
    refine ⟨h.once, List.nodup_singleton _, ?_⟩
    simpa using hnew
  held x hx hp := by
    rcases List.mem_append.1 hx with hx | hx
    · exact h.held x hx hp
    · simp [List.mem_singleton.1 hx, hphase] at hp
  pending x hx hp := by
    rcases List.mem_append.1 hx with hx | hx
    · exact h.pending x hx hp
    · exact List.mem_singleton.1 hx ▸ ⟨hdeadline, hstanding⟩
  named p b hp := by
    obtain ⟨x, hx, hrest⟩ := h.named p b hp
    exact ⟨x, List.mem_append_left _ hx, hrest⟩
  awaited o q ho := by
    rcases hawaits o q ho with ho | ⟨rfl, rfl⟩
    · obtain ⟨x, hx, hrest⟩ := h.awaited o q ho
      exact ⟨x, List.mem_append_left _ hx, hrest⟩
    · exact ⟨e, by simp, rfl, hphase, rfl⟩

/-- A HELD entry takes its place, and its record becomes HELD (R109, R113). -/
theorem enter (h : HoldsFit standing holds awaits) {e : HoldEntry} (hroom : holds.length < 16) (hnew : ∀ x ∈ holds, x.pass ≠ e.pass)
    (hphase : e.phase = .held) (hdeadline : e.deadline.isSome = true) (hheld : ∃ b, standing' e.pass = some (.held, b))
    (hother : ∀ q, q ≠ e.pass → standing' q = standing q) : HoldsFit standing' (insertHeld e holds) awaits where
  room := by simpa [(insertHeld_perm e holds).length_eq] using hroom
  order := insertHeld_order hphase h.order
  once := by
    rw [((insertHeld_perm e holds).map _).nodup_iff, List.map_cons, List.nodup_cons]
    exact ⟨by simpa using hnew, h.once⟩
  held x hx hp := by
    rcases List.mem_cons.1 ((insertHeld_perm e holds).mem_iff.1 hx) with rfl | hx
    · exact ⟨hdeadline, hheld⟩
    · rw [hother _ (hnew x hx)]
      exact h.held x hx hp
  pending x hx hp := by
    rcases List.mem_cons.1 ((insertHeld_perm e holds).mem_iff.1 hx) with rfl | hx
    · simp [hphase] at hp
    · rw [hother _ (hnew x hx)]
      exact h.pending x hx hp
  named p b hp := by
    by_cases hpe : p = e.pass
    · exact ⟨e, (insertHeld_perm e holds).mem_iff.2 List.mem_cons_self, hpe.symm, hphase⟩
    · obtain ⟨x, hx, hrest⟩ := h.named p b (hother p hpe ▸ hp)
      exact ⟨x, (insertHeld_perm e holds).mem_iff.2 (List.mem_cons_of_mem _ hx), hrest⟩
  awaited o q ho := by
    obtain ⟨x, hx, hrest⟩ := h.awaited o q ho
    exact ⟨x, (insertHeld_perm e holds).mem_iff.2 (List.mem_cons_of_mem _ hx), hrest⟩

/-- A hold that is not HELD yet reaches HELD, and no request waits for it any more (R113, R114). -/
theorem reach (h : HoldsFit standing holds awaits) {e : HoldEntry} (hroom : (holds.filter fun x => x.pass != e.pass).length < 16)
    (hphase : e.phase = .held) (hdeadline : e.deadline.isSome = true) (hfree : ∀ b, standing e.pass ≠ some (.held, b))
    (hheld : ∃ b, standing' e.pass = some (.held, b)) (hother : ∀ q, q ≠ e.pass → standing' q = standing q)
    (hawaits : ∀ o q, awaits' o q → q ≠ e.pass ∧ awaits o q) :
    HoldsFit standing' (insertHeld e (holds.filter fun x => x.pass != e.pass)) awaits' :=
  (h.remove e.pass (fun _ _ => rfl) hfree hawaits).enter hroom (fun x hx => by simpa using (List.mem_filter.1 hx).2) hphase hdeadline
    hheld hother

end HoldsFit

end Sys2Proof.Machine

namespace Sys2Proof.Machine

/-! ### The requests that wait for a PENDING hold -/

theorem Decoder.context_updContext (d : Decoder) (o q : Origin) (f : Context → Context) :
    (d.updContext o f).context q = if q = o then f (d.context o) else d.context q := by
  cases o <;> cases q <;> rfl

/-- Whether a request waits for a hold is a matter of the two contexts. -/
theorem Decoder.awaits_congr {d d' : Decoder} (hstation : d'.station = d.station) (hoffice : d'.office = d.office) (o : Origin)
    (p : Nat) : d'.awaits o p ↔ d.awaits o p := by
  cases o <;> simp [awaits, context, hstation, hoffice]

namespace State

variable (s : State) (o q : Origin) (p : Nat)

theorem awaits_updContext (f : Context → Context) : (s.updContext o f).decoder.awaits q p ↔
    if q = o then (f (s.context o)).inFlight.map (·.stage) = some (.pendingHold p) else s.decoder.awaits q p := by
  have hdecoder : (s.updContext o f).decoder = s.decoder.updContext o f := rfl
  rw [hdecoder, Decoder.awaits, Decoder.context_updContext]
  split <;> rfl

/-- A change of a context that leaves its request in flight. -/
theorem awaits_updContext_of_flight {f : Context → Context} (hf : ∀ c, (f c).inFlight = c.inFlight) :
    (s.updContext o f).decoder.awaits q p ↔ s.decoder.awaits q p := by
  rw [awaits_updContext]
  split
  · rename_i hq
    rw [hf, hq]
    rfl
  · rfl

/-- A request that moves on to another stage than that of a PENDING hold waits for none. -/
theorem awaits_setStage {st : Stage} (hst : ∀ p, st ≠ .pendingHold p) :
    (s.setStage o st).decoder.awaits q p ↔ q ≠ o ∧ s.decoder.awaits q p := by
  rw [setStage, awaits_updContext]
  split
  · cases hf : (s.context o).inFlight <;> simp [*]
  · simp [*]

/-- A request that has ended waits for nothing. -/
@[simp] theorem awaits_endWith (a : Answer) : (s.endWith o a).decoder.awaits q p ↔ q ≠ o ∧ s.decoder.awaits q p := by
  unfold endWith
  split
  · rename_i hf
    refine ⟨fun h => ⟨fun hq => ?_, h⟩, And.right⟩
    have hnone : (s.decoder.context o).inFlight = none := hf
    simp [Decoder.awaits, hq, hnone] at h
  · have hended (u : State) (hu : u.decoder = (s.updContext o fun c =>
        { c with inFlight := none, condition := if a.status = .failed then a.condition else c.condition }).decoder) :
        u.decoder.awaits q p ↔ q ≠ o ∧ s.decoder.awaits q p := by
      rw [hu, awaits_updContext]
      split <;> simp [*]
    dsimp only
    split
    · exact hended _ (by simp)
    · exact hended _ rfl

@[simp] theorem awaits_complete (d : List Byte) : (s.complete o d).decoder.awaits q p ↔ q ≠ o ∧ s.decoder.awaits q p :=
  awaits_endWith ..

@[simp] theorem awaits_found (d : List Byte) : (s.found o d).decoder.awaits q p ↔ q ≠ o ∧ s.decoder.awaits q p :=
  awaits_endWith ..

@[simp] theorem awaits_fail (c : ConditionCode) (r : Option Nat) (f : Option FieldRef) :
    (s.fail o c r f).decoder.awaits q p ↔ q ≠ o ∧ s.decoder.awaits q p := awaits_endWith ..

@[simp] theorem awaits_busy : (s.busy o).decoder.awaits q p ↔ q ≠ o ∧ s.decoder.awaits q p := awaits_endWith ..

@[simp] theorem awaits_raiseLane (ms : List LaneMsg) : (s.raiseLane ms).decoder.awaits q p ↔ s.decoder.awaits q p :=
  Decoder.awaits_congr rfl rfl q p

@[simp] theorem awaits_raiseTally (ns : List Notice) : (s.raiseTally ns).decoder.awaits q p ↔ s.decoder.awaits q p :=
  Decoder.awaits_congr rfl rfl q p

@[simp] theorem awaits_raiseLapse (n : OwnedNotice) : (s.raiseLapse n).decoder.awaits q p ↔ s.decoder.awaits q p :=
  Decoder.awaits_congr rfl rfl q p

@[simp] theorem awaits_raiseLink (n : Notice) : (s.raiseLink n).decoder.awaits q p ↔ s.decoder.awaits q p :=
  Decoder.awaits_congr rfl rfl q p

@[simp] theorem awaits_raiseSweep (n : Notice) : (s.raiseSweep n).decoder.awaits q p ↔ s.decoder.awaits q p :=
  Decoder.awaits_congr rfl rfl q p

@[simp] theorem awaits_runLane (l : LaneNo) (f : LaneEnv → LaneRun → LaneRun) :
    (s.runLane l f).decoder.awaits q p ↔ s.decoder.awaits q p := by
  unfold runLane
  split <;> simp

@[simp] theorem awaits_runLanes (ls : List LaneNo) (f : LaneEnv → LaneRun → LaneRun) :
    (s.runLanes ls f).decoder.awaits q p ↔ s.decoder.awaits q p := by
  unfold runLanes
  induction ls generalizing s with
  | nil => rfl
  | cons l ls ih => exact (ih _).trans (awaits_runLane ..)

@[simp] theorem awaits_laneRequest (m : LaneMask) (f : LaneEnv → LaneRun → LaneRun) :
    (s.laneRequest o m f).decoder.awaits q p ↔ q ≠ o ∧ s.decoder.awaits q p := by
  simp [laneRequest]

@[simp] theorem awaits_tellMiss (n : Nat) (f : LaneEnv → LaneRun → LaneRun) :
    (s.tellMiss n f).decoder.awaits q p ↔ s.decoder.awaits q p := by
  unfold tellMiss
  split <;> simp

@[simp] theorem awaits_loadFor (a : LoadArgs) : (s.loadFor o a).decoder.awaits q p ↔ q ≠ o ∧ s.decoder.awaits q p := by
  unfold loadFor
  (repeat' split) <;> simp

@[simp] theorem awaits_collect (n : Nat) : (s.collect o n).decoder.awaits q p ↔ q ≠ o ∧ s.decoder.awaits q p := by
  unfold collect
  (repeat' split) <;> simp

@[simp] theorem awaits_sweepEnd : s.sweepEnd.decoder.awaits q p ↔ s.decoder.awaits q p := by
  simp [sweepEnd]

@[simp] theorem awaits_refusePass (l : LaneNo) (n : Nat) (r : Reason) :
    (s.refusePass l n r).decoder.awaits q p ↔ s.decoder.awaits q p := by
  unfold refusePass
  dsimp only
  rw [awaits_runLane]
  split <;> simp

@[simp] theorem awaits_clearCondition (n : Nat) : (s.clearCondition o n).decoder.awaits q p ↔ s.decoder.awaits q p := by
  unfold clearCondition
  split
  · rfl
  · exact awaits_updContext_of_flight s o q p fun _ => rfl

@[simp] theorem awaits_failBlock (a : Answer) : (s.failBlock o a).decoder.awaits q p ↔ s.decoder.awaits q p := by
  simp only [failBlock, handAnswer_frame]
  exact awaits_updContext_of_flight s o q p fun _ => rfl

/-- A request as it is taken waits for its owner, or is answered BUSY (R172). -/
@[simp] theorem awaits_takeRequest (r : Request) : (s.takeRequest o r).decoder.awaits q p ↔ q ≠ o ∧ s.decoder.awaits q p := by
  have htaken : (s.updContext o fun c => { c with inFlight := some { request := r, answerable := true, stage := .waiting } }).decoder.awaits q p
      ↔ q ≠ o ∧ s.decoder.awaits q p := by
    rw [awaits_updContext]
    split <;> simp [*]
  unfold takeRequest
  dsimp only
  (repeat' split) <;> simp [htaken]

/-- The drop of the line ends a REFUND HOLD of the office that waits for a PENDING hold (R199). -/
@[simp] theorem awaits_enterDropping (why : DropReason) :
    (s.enterDropping why).decoder.awaits q p ↔ q ≠ .office ∧ s.decoder.awaits q p := by
  have hdecoder : (s.enterDropping why).decoder = (s.updContext .office Context.lineDropped).decoder := rfl
  rw [hdecoder, awaits_updContext]
  split
  · rename_i hq
    simp only [hq, ne_eq, not_true_eq_false, false_and, iff_false, Context.lineDropped]
    split
    · simp
    · rename_i f hst hf
      simp only [Option.map_some, Option.some.injEq]
      exact fun hstage => hst f.request f.answerable p (by rw [← hstage])
    · simp
  · simp [*]

end State
end Sys2Proof.Machine

namespace Sys2Proof.Machine

/-! ### Changes beside the hold list -/

theorem Table.standing_congr {t t' : Table} (h : t'.records = t.records) : t'.standing = t.standing := by
  funext p
  simp [standing, find, h]

namespace State

@[simp] theorem submitClaim_records (s : State) (o : Origin) : (s.submitClaim o).table.records = s.table.records := by
  cases o <;> rfl

@[simp] theorem dropClaim_records (s : State) (o : Origin) : (s.dropClaim o).table.records = s.table.records := by
  cases o <;> rfl

@[simp] theorem takeRequest_records (s : State) (o : Origin) (r : Request) :
    (s.takeRequest o r).table.records = s.table.records := by
  unfold takeRequest
  dsimp only
  (repeat' split) <;> simp

@[simp] theorem deliver_records (s : State) (o : Origin) (b : List Byte) : (s.deliver o b).table.records = s.table.records := by
  unfold deliver
  (repeat' split) <;> simp

@[simp] theorem deliverBroadcast_records (s : State) (b : List Byte) :
    (s.deliverBroadcast b).table.records = s.table.records := by
  unfold deliverBroadcast
  (repeat' split) <;> simp

@[simp] theorem loadFor_records (s : State) (o : Origin) (a : LoadArgs) :
    (s.loadFor o a).table.records = s.table.records := by
  unfold loadFor
  (repeat' split) <;> simp [Table.load]

@[simp] theorem loadBroadcast_records (s : State) (a : LoadArgs) :
    (s.loadBroadcast a).table.records = s.table.records := by
  unfold loadBroadcast
  (repeat' split) <;> simp [Table.load]

@[simp] theorem sweepEnd_records (s : State) : s.sweepEnd.table.records = s.table.records := by simp [sweepEnd]

@[simp] theorem collect_holds (s : State) (o : Origin) (n : Nat) : (s.collect o n).settlement.holds = s.settlement.holds := by
  unfold collect
  (repeat' split) <;> simp

/-- A change beside the hold list: of no record, of no hold, and no request begins to wait for a PENDING hold. -/
structure HoldsAside (s t : State) : Prop where
  records : t.table.records = s.table.records
  holds : t.settlement.holds = s.settlement.holds
  awaits : ∀ q p, t.decoder.awaits q p → s.decoder.awaits q p

/-- A change of records that keeps every pass's standing, the list as it is. -/
theorem HoldsAgree.restand {s t : State} (hs : s.HoldsAgree) (hstanding : t.table.standing = s.table.standing)
    (hholds : t.settlement.holds = s.settlement.holds) (hawaits : ∀ q p, t.decoder.awaits q p → s.decoder.awaits q p) :
    t.HoldsAgree := by
  unfold HoldsAgree
  rw [hstanding, hholds]
  exact hs.keep (fun _ => .rfl) (fun _ _ _ => id) hawaits

theorem HoldsAside.agree {s t : State} (h : HoldsAside s t) (hs : s.HoldsAgree) : t.HoldsAgree :=
  hs.restand (Table.standing_congr h.records) h.holds h.awaits

namespace HoldsAside

variable {s u t : State}

theorem refl : HoldsAside s s := ⟨rfl, rfl, fun _ _ => id⟩

theorem trans (h₁ : HoldsAside s u) (h₂ : HoldsAside u t) : HoldsAside s t :=
  ⟨h₂.records.trans h₁.records, h₂.holds.trans h₁.holds, fun q p h => h₁.awaits q p (h₂.awaits q p h)⟩

theorem serve (o : Origin) : HoldsAside s (s.serve o) := ⟨by simp, by simp, by simp⟩

/-- A change that leaves the two contexts. -/
theorem of_contexts (hrecords : t.table.records = s.table.records) (hholds : t.settlement.holds = s.settlement.holds)
    (hstation : t.decoder.station = s.decoder.station) (hoffice : t.decoder.office = s.decoder.office) : HoldsAside s t :=
  ⟨hrecords, hholds, fun q p => (Decoder.awaits_congr hstation hoffice q p).1⟩

theorem updDecoder {f : Decoder → Decoder} (hstation : (f s.decoder).station = s.decoder.station)
    (hoffice : (f s.decoder).office = s.decoder.office) : HoldsAside s (s.updDecoder f) :=
  .of_contexts rfl rfl hstation hoffice

theorem ite {c : Prop} [Decidable c] {a b : State} (ha : HoldsAside s a) (hb : HoldsAside s b) :
    HoldsAside s (if c then a else b) := by
  split
  · exact ha
  · exact hb

/-- A table request of one claim, by what it does at its turn. -/
theorem tableClaim {o : Origin} {k : State → State} (hk : HoldsAside (s.serve o) (k (s.serve o))) :
    HoldsAside s (s.tableClaim o k) := .ite ((serve o).trans hk) .refl

/-- The start of a table request of several claims, by what it does at its turn. -/
theorem tableBegin {o : Origin} {k : State → State} (hk : HoldsAside s (k s)) : HoldsAside s (s.tableBegin o k) := .ite hk .refl

theorem complete (h : HoldsAside s u) (o : Origin) (d : List Byte) : HoldsAside s (u.complete o d) :=
  h.trans ⟨by simp, by simp, by simp⟩

theorem updLink (f : Link → Link) : HoldsAside s (s.updLink f) := ⟨rfl, rfl, fun _ _ => id⟩

theorem enterDropping (why : DropReason) : HoldsAside s (s.enterDropping why) := ⟨by simp, rfl, by simp⟩

/-- An event at the line control machine, by what it does there. -/
theorem lineEvent {f : State → State} (h : HoldsAside s (f s)) : HoldsAside s (s.lineEvent f) := by
  obtain ⟨-, htable, hsettlement, -⟩ := lineEvent_frame s f
  refine h.trans ⟨congrArg _ htable, congrArg _ hsettlement, fun q p hq => ?_⟩
  unfold State.lineEvent at hq
  dsimp only at hq
  split at hq <;> simpa using hq

theorem lineReadyLow : HoldsAside s s.lineReadyLow := by
  unfold State.lineReadyLow
  split
  iterate 3 exact .enterDropping _
  · exact .ite (.updLink _) .refl
  iterate 2 exact .refl

/-- A request block that reaches the decoder (R172). -/
theorem deliver (o : Origin) (b : List Byte) : HoldsAside s (s.deliver o b) := by
  refine ⟨by simp, by simp, fun q p h => ?_⟩
  unfold State.deliver at h
  (repeat' split at h) <;> simp_all

end HoldsAside

end State

end Sys2Proof.Machine

namespace Sys2Proof

open Machine State

/-- The commands that may reach the hold list, the state or the mark of a record, or a REFUND HOLD that waits for a PENDING hold. -/
def Instr.reachesHolds : Instr → Bool
  | .coldReset .. | .warmReset .. | .decisionClaim .. | .commitClaim .. | .withdrawClaim .. | .lapseClaim | .sweepStep | .clearStep
  | .passInsert .. | .passDrop .. | .dayMergeEntry .. | .usageConfirm .. | .refundHold .. | .refundSettle .. | .refundRelease .. => true
  -- those by which an ABORT or a frame may come
  | .request .. | .abort .. | .outputTaken .. | .errorClear .. | .requestFrame .. | .broadcast .. | .abortFrame
  | .frameDiscarded .. | .broadcastAbort => true
  | _ => false

/-- Every other command makes a change beside the hold list. -/
theorem exec_holdsAside {i : Instr} (hi : i.reachesHolds = false) {s t : State} (h : exec i s = .next t) : HoldsAside s t := by
  cases i <;> injection h with h <;> subst h
  case coldReset | warmReset | decisionClaim | commitClaim | withdrawClaim | lapseClaim | sweepStep | clearStep | passInsert
      | passDrop | dayMergeEntry | usageConfirm | refundHold | refundSettle | refundRelease | request | abort | outputTaken
      | errorClear | requestFrame | broadcast | abortFrame | frameDiscarded | broadcastAbort => exact nomatch hi
  case ignoredWrite => exact .refl
  -- one shared operation
  case intervalClose | presence | presentation | outputWindow | frameSent => exact ⟨by simp, by simp, by simp [takePresentation]⟩
  -- the same, where the event can occur
  case operatingSecondAdvance | rollover | readerSilence | passageWindowExpiry | passingLimitExpiry | missWaitExpiry | toneEnd
      | lampBlink | beamSettle | beamBreak | beamRestore | lapseTimerExpiry | shortTransfer | badCommandByte | collectionVoid
      | lineDropAtLanes | discardedReaderMessage | pacingStart | pacingEnd | tallyEvent =>
    split <;> exact ⟨by simp, by simp, by simp [takePresentation]⟩
  -- requests that are no table requests
  case clockRead | holdListRead | linkStatus | readyCheck | profileRead | laneOpen | laneClose | laneReset | laneStatus
      | tallyProgram | tallyRead | tallyClear | historyRead =>
    (repeat' split) <;> exact ⟨by simp, by simp, by simp⟩
  -- the decoder
  case noticePlacement | missNoticeRemoval =>
    (repeat' split) <;> exact .of_contexts (by simp) (by simp) (by simp) (by simp)
  case profileSet =>
    (repeat' split)
    iterate 2 exact ⟨by simp, by simp, by simp⟩
    · exact (HoldsAside.updDecoder rfl rfl).complete ..
    · exact .refl
  case markWarm =>
    split
    · exact (HoldsAside.updDecoder rfl rfl).complete ..
    · exact .refl
  case watchSet | conditionRead => 
    (repeat' split) <;> exact ⟨by simp, by simp, by simp +contextual [awaits_updContext]⟩
  case clockSet =>
    dsimp only
    (repeat' split) <;> exact ⟨by simp, by simp, by simp⟩
  case requestWindow =>
    refine .ite (.ite ?_ ⟨by simp, by simp, by simp⟩) ⟨by simp, by simp, by simp⟩
    exact HoldsAside.trans ⟨by simp, by simp, by simp⟩ (.deliver ..)
  -- table requests, which act at their turn
  case passRead | tableSize | revokeRead | usageCollect =>
    split
    · refine .tableClaim ?_
      (repeat' split) <;> exact ⟨by simp, by simp, by simp⟩
    · exact .refl
  case tableClear =>
    split
    · refine .tableClaim ?_
      (repeat' split) <;> exact ⟨by simp, by simp, by simp [awaits_setStage]⟩
    · exact .refl
  case revokeLoad =>
    split
    · split
      · exact .tableClaim ⟨by simp, by simp, by simp⟩
      · exact .refl
    · (repeat' split) <;> exact ⟨by simp, by simp, by simp⟩
  case passFind | dayMerge =>
    split
    · refine .tableBegin ?_
      (repeat' split) <;> exact ⟨by simp, by simp, by simp [awaits_setStage]⟩
    · exact .refl
  case passFindStep => 
    dsimp only
    (repeat' split) <;> exact ⟨by simp, by simp, by simp [awaits_setStage]⟩
  -- events at the line control machine
  case startTimerExpiry | fadeTimerExpiry => exact .ite (.lineEvent (.enterDropping _)) .refl
  case dropShortExpiry | dropLongExpiry => exact .ite (.lineEvent (.updLink _)) .refl
  case lineReady =>
    exact .ite .refl (.ite (.updLink _) ((HoldsAside.updLink _).trans (.lineEvent (.ite (.updLink _) .lineReadyLow))))
  case carrier => exact .ite .refl (.ite (.updLink _) ((HoldsAside.updLink _).trans (.lineEvent ⟨by simp, by simp, by simp⟩)))
  case clearToSend =>
    exact .ite .refl (.ite (.updLink _) ((HoldsAside.updLink _).trans (.lineEvent (.ite (.updLink _) .refl))))
  case linkOpen =>
    split
    · rename_i address rate source mode _
      have hopened : HoldsAside s (s.lineEvent fun s => s.updLink (Link.opened s.now address rate source mode)) :=
        .lineEvent (.updLink _)
      split
      · exact ⟨by simp, by simp, by simp⟩
      · exact .ite ⟨by simp, by simp, by simp⟩ (hopened.complete ..)
    · exact .refl
  case linkClose =>
    have hclosed : HoldsAside s (s.lineEvent fun s => (s.updLink Link.pendClose).enterDropping .close) :=
      .lineEvent ((HoldsAside.updLink _).trans (.enterDropping _))
    split
    · split
      · exact ⟨by simp, by simp, by simp⟩
      iterate 4 exact hclosed.complete ..
      · exact .ite ⟨by simp, by simp, by simp⟩ ⟨by simp, by simp, by simp⟩
    · exact .refl

end Sys2Proof

namespace Sys2Proof.Machine

/-! ### The standing of a pass after each operation of the table -/

section Standing

variable {t : Table} {p q : Nat} {f : PassRecord → PassRecord}

theorem Table.standing_update_same (hf : ∀ r, (f r).pass = r.pass) :
    (t.update p f).standing p = (t.find p).map fun r => (f r).standing := by
  rw [standing, find_update t p p f hf]
  cases hr : t.find p with
  | none => rfl
  | some r => simp [find_pass hr]

theorem Table.standing_update_ne (hf : ∀ r, (f r).pass = r.pass) (h : q ≠ p) : (t.update p f).standing q = t.standing q := by
  rw [standing, find_update_ne hf h, standing]

/-- A change of a record that leaves its state and its mark. -/
theorem Table.standing_update_of_eq (hpass : ∀ r, (f r).pass = r.pass) (hf : ∀ r, (f r).standing = r.standing) :
    (t.update p f).standing = t.standing := by
  funext q
  by_cases hq : q = p
  · rw [hq, standing_update_same hpass, standing]
    simp only [hf]
  · exact standing_update_ne hpass hq

theorem Table.standing_remove : (t.remove p).standing q = if q = p then none else t.standing q := by
  rw [standing, find_remove]
  split <;> rfl

theorem Table.standing_create {r : PassRecord} (h : t.find r.pass = none) :
    (t.create r).standing q = if q = r.pass then some r.standing else t.standing q := by
  rw [standing, find_create q h]
  split <;> rfl

theorem Table.listState_ne_held (t : Table) (p : Nat) : t.listState p ≠ .held := by
  unfold listState
  split <;> simp

end Standing

namespace State

/-- A request of one claim at the table, by what it does at its turn. -/
theorem HoldsAgree.tableClaim {s : State} (hs : s.HoldsAgree) {o : Origin} {k : State → State}
    (hk : (s.serve o).HoldsAgree → (k (s.serve o)).HoldsAgree) : (s.tableClaim o k).HoldsAgree := by
  unfold State.tableClaim
  split
  · exact hk ((HoldsAside.serve o).agree hs)
  · exact hs

namespace HoldsAgree

variable {s t u : State}

theorem ite {c : Prop} [Decidable c] {a b : State} (ha : c → a.HoldsAgree) (hb : ¬ c → b.HoldsAgree) :
    (if c then a else b).HoldsAgree := by
  split
  · exact ha ‹_›
  · exact hb ‹_›

theorem complete (hs : s.HoldsAgree) (o : Origin) (d : List Byte) : (s.complete o d).HoldsAgree :=
  HoldsAside.agree ⟨by simp, by simp, by simp⟩ hs

theorem fail (hs : s.HoldsAgree) (o : Origin) (c : ConditionCode) (p : Option Nat) (f : Option FieldRef) :
    (s.fail o c p f).HoldsAgree := HoldsAside.agree ⟨by simp, by simp, by simp⟩ hs

theorem busy (hs : s.HoldsAgree) (o : Origin) : (s.busy o).HoldsAgree := HoldsAside.agree ⟨by simp, by simp, by simp⟩ hs

/-- A change of one record that leaves it HELD or not as it was, and one with a PENDING hold ACTIVE and in flight. -/
theorem edit (hs : s.HoldsAgree) {p : Nat} {f : PassRecord → PassRecord} (hpass : ∀ r, (f r).pass = r.pass)
    (hrecords : t.table.records = (s.table.update p f).records) (hholds : t.settlement.holds = s.settlement.holds)
    (hawaits : ∀ q n, t.decoder.awaits q n → s.decoder.awaits q n)
    (hheld : ∀ r, s.record p = some r → ((f r).state = .held ↔ r.state = .held))
    (hpending : ∀ r, s.record p = some r → r.standing = (.active, true) →
      (∃ e ∈ s.settlement.holds, e.pass = p ∧ e.phase = .pending) → (f r).standing = (.active, true)) : t.HoldsAgree := by
  unfold HoldsAgree
  rw [hholds, Table.standing_congr hrecords]
  refine HoldsFit.keep hs (fun q => ?_) (fun e he hp hst => ?_) hawaits
  · by_cases hq : q = p
    · rw [hq, Table.standing_update_same hpass, Table.standing]
      cases hr : s.table.find p with
      | none => rfl
      | some r => simpa [PassRecord.standing] using hheld r hr
    · rw [Table.standing_update_ne hpass hq]
  · by_cases hq : e.pass = p
    · obtain ⟨r, hr, hstr⟩ := Table.standing_eq_some_iff.1 (hq ▸ hst)
      rw [hq, Table.standing_update_same hpass, hr, Option.map_some, hpending r hr hstr ⟨e, he, hq, hp⟩]
    · rwa [Table.standing_update_ne hpass hq]

/-- A record that is neither HELD nor in flight leaves the table (R10, R18). -/
theorem remove (hs : s.HoldsAgree) {p : Nat} {r : PassRecord} (hr : s.record p = some r) (hheld : r.state ≠ .held)
    (hfree : r.inFlight = none) : (s.updTable (Table.remove p)).HoldsAgree := by
  have hstanding : s.table.standing p = some (r.state, false) := by
    have hr' : s.table.find p = some r := hr
    simp [Table.standing, hr', PassRecord.standing, hfree]
  refine HoldsFit.keep hs (fun q => ?_) (fun e _ _ he => ?_) fun _ _ => id
  · by_cases hq : q = p
    · simp [Table.standing_remove, hq, hstanding, hheld]
    · simp [Table.standing_remove, hq]
  · have hne : e.pass ≠ p := fun hp => by simp [hp, hstanding] at he
    simpa [Table.standing_remove, hne] using he

/-- A new record is neither HELD nor in flight (R15). -/
theorem create (hs : s.HoldsAgree) {r : PassRecord} (hnew : s.record r.pass = none) (hheld : r.state ≠ .held) :
    (s.updTable (Table.create r)).HoldsAgree := by
  have hstanding : s.table.standing r.pass = none := by
    have hnew' : s.table.find r.pass = none := hnew
    simp [Table.standing, hnew']
  refine HoldsFit.keep hs (fun q => ?_) (fun e _ _ he => ?_) fun _ _ => id
  · by_cases hq : q = r.pass
    · simp [Table.standing_create hnew, hq, hstanding, PassRecord.standing, hheld]
    · simp [Table.standing_create hnew, hq]
  · have hne : e.pass ≠ r.pass := fun hp => by simp [hp, hstanding] at he
    simpa [Table.standing_create hnew, hne] using he

/-- A HELD hold leaves the list, and its record becomes other than HELD (R119, R120, R122). -/
theorem unhold (hs : s.HoldsAgree) {e : HoldEntry} (he : e ∈ s.settlement.holds) (hp : e.phase = .held)
    {f : PassRecord → PassRecord} (hpass : ∀ r, (f r).pass = r.pass) (hf : ∀ r, (f r).state ≠ .held)
    (hrecords : t.table.records = (s.table.update e.pass f).records)
    (hholds : t.settlement.holds = s.settlement.holds.filter fun x => x.pass != e.pass)
    (hawaits : ∀ q n, t.decoder.awaits q n → s.decoder.awaits q n) : t.HoldsAgree := by
  unfold HoldsAgree
  rw [hholds, Table.standing_congr hrecords]
  refine HoldsFit.remove hs e.pass (fun q hq => Table.standing_update_ne hpass hq) (fun b => ?_) fun q n hq => ⟨fun hn => ?_, hawaits q n hq⟩
  · rw [Table.standing_update_same hpass]
    cases s.table.find e.pass <;> simp [PassRecord.standing, hf]
  · exact hs.not_awaits he hp q (hn ▸ hawaits q n hq)

end HoldsAgree
end State

open State

/-! ### Usage -/

/-- An entry of a confirm keeps every pass's standing (R138). -/
theorem standing_entry (c : Confirming) (e : CollectionEntry) : (c.entry e).table.standing = c.table.standing := by
  have hedit : (c.table.update e.pass (PassRecord.reported e.carried)).standing = c.table.standing :=
    Table.standing_update_of_eq (fun _ => rfl) fun _ => rfl
  unfold Confirming.entry
  (repeat' split)
  iterate 2 rfl
  iterate 2 exact hedit

theorem standing_confirmEntries (s : State) (es : List CollectionEntry) : (s.confirmEntries es).table.standing = s.table.standing := by
  have hfold (c : Confirming) : (es.foldl Confirming.entry c).table.standing = c.table.standing := by
    induction es generalizing c with
    | nil => rfl
    | cons e es ih => exact (ih _).trans (standing_entry c e)
  exact hfold _

section

variable {s t : State} (hs : s.HoldsAgree) (o : Origin)
include hs

/-! ### Requests of the pass table -/

theorem holdsAgree_insertNew {a : InsertArgs} (hnew : s.record a.pass = none) : (s.insertNew o a).HoldsAgree := by
  have hcreate (ev : Option Nat) {u : State} (hu : u.HoldsAgree) (hfree : u.record a.pass = none) : (u.createPass o a ev).HoldsAgree := by
    have hcreated := hu.create (r := a.newRecord (u.table.listState a.pass)) hfree fun h => Table.listState_ne_held _ _ h
    exact HoldsAside.agree (s := u.updTable (Table.create (a.newRecord (u.table.listState a.pass))))
      ⟨by simp [createPass], by simp [createPass], by simp [createPass]⟩ hcreated
  unfold insertNew
  split
  · exact hcreate none hs hnew
  · split
    · rename_i p hp
      obtain ⟨r, hr, hev⟩ := evictee_some hp
      have hstate : r.state ≠ .held := by simp [evictable] at hev; exact hev.1.1.1
      refine hcreate (some p) (hs.remove hr hstate (evictable_inFlight hev)) ?_
      exact (Table.find_remove s.table p a.pass).trans (by simp [show s.table.find a.pass = none from hnew])
    · exact HoldsAside.agree ⟨by simp, by simp, by simp⟩ hs

theorem holdsAgree_insertOver (a : InsertArgs) (r : PassRecord) : (s.insertOver o a r).HoldsAgree := by
  have hreplaced : ((s.updRecord a.pass a.replace).updTable (Table.toHead a.pass)).HoldsAgree :=
    hs.restand (Table.standing_update_of_eq (t := s.table) (f := a.replace) (fun _ => rfl) fun _ => rfl) rfl fun _ _ => id
  unfold insertOver
  refine .ite (fun _ => hs.busy o) fun _ => ?_
  split
  · exact .ite (fun _ => hs.fail ..) fun _ => hs.fail ..
  · exact hs.fail ..
  iterate 2 exact hreplaced.complete ..

theorem holdsAgree_passInsert (h : execPassInsert o s = .next t) : t.HoldsAgree := by
  injection h with h
  subst h
  split
  · refine hs.tableClaim fun hs => ?_
    split
    · exact hs.fail ..
    · split
      · exact holdsAgree_insertNew hs o ‹_›
      · exact holdsAgree_insertOver hs o ..
  · exact hs

theorem holdsAgree_passDrop (h : execPassDrop o s = .next t) : t.HoldsAgree := by
  injection h with h
  subst h
  split
  · refine hs.tableClaim fun hs => .ite (fun _ => hs.fail ..) fun _ => ?_
    split
    · exact hs.fail ..
    · rename_i r hr
      refine .ite (fun _ => hs.busy o) fun hfree => .ite (fun _ => .ite (fun _ => hs.fail ..) fun _ => hs.fail ..) fun hheld =>
        .ite (fun _ => hs.fail ..) fun _ => .ite (fun _ => hs.fail ..) fun _ => ?_
      exact (hs.remove hr hheld (by simpa using hfree)).complete ..
  · exact hs

/-! ### Usage -/

theorem holdsAgree_dayMergeEntry (h : execDayMergeEntry o s = .next t) : t.HoldsAgree := by
  injection h with h
  subst h
  split
  · rename_i e todo done _
    have hserve : (s.serve o).HoldsAgree := (HoldsAside.serve o).agree hs
    have hmerged : ((s.serve o).applyMerge e).HoldsAgree :=
      .ite (fun _ => hserve) fun _ => hserve.restand
        (Table.standing_update_of_eq (f := PassRecord.merge (mergeDays e.days)) (fun _ => rfl) fun _ => rfl) rfl fun _ _ => id
    refine .ite (fun _ => .ite (fun _ => hmerged.complete ..) fun _ => ?_) fun _ => hs
    exact HoldsAside.agree ⟨by simp, by simp, by simp [awaits_setStage]⟩ hmerged
  · exact hs

theorem holdsAgree_usageConfirm (h : execUsageConfirm o s = .next t) : t.HoldsAgree := by
  injection h with h
  subst h
  split
  · refine hs.tableClaim fun hs => ?_
    split
    · exact hs.fail ..
    · refine .ite (fun _ => hs.fail ..) fun _ => .ite (fun _ => ?_) fun _ => ?_
      · exact (hs.restand (t := (s.serve o).updSettlement _) rfl rfl fun _ _ => id).complete ..
      · refine HoldsAgree.complete ?_ ..
        exact hs.restand (standing_confirmEntries (s.serve o) _) rfl fun _ _ => id
  · exact hs

/-! ### Decisions and the sweep -/

theorem holdsAgree_admitPass (l : LaneNo) (p : Nat) (c : Bool) (r : PassRecord) : (s.admitPass l p c r).HoldsAgree := by
  refine hs.edit (p := p) (f := fun r => { r with inFlight := some l }) (fun _ => rfl) (by rw [admitPass_table]; rfl) (by simp)
    (by simp [admitPass]) (fun _ _ => .rfl) fun x _ hx _ => ?_
  simpa [PassRecord.standing] using congrArg Prod.fst hx

theorem holdsAgree_decisionClaim {l : LaneNo} (h : execDecisionClaim l s = .next t) : t.HoldsAgree := by
  injection h with h
  subst h
  refine .ite (fun _ => ?_) fun _ => hs
  have hserve : (s.serveLane l).HoldsAgree := hs.restand rfl rfl fun _ _ => id
  split
  · unfold actOn
    split
    · split
      · exact holdsAgree_admitPass hserve ..
      · exact hserve
    · rename_i pr _ _ reason _
      refine hserve.restand ?_ (by simp) (by simp)
      exact Table.standing_congr (by unfold refusePass; dsimp only; rw [(runLane_frame ..).2.1, handEvents_table]; split <;> rfl)
    · exact HoldsAside.agree ⟨by simp, by simp, by simp⟩ hserve
  · exact hs

end

/-- A sweep step leaves a HELD record HELD, and an ACTIVE one with a PENDING hold ACTIVE (R103). -/
theorem holdsAgree_sweepStep {s t : State} (hs : s.HoldsAgree) (hindex : s.table.IndexOk) (h : execSweepStep s = .next t) :
    t.HoldsAgree := by
  injection h with h
  subst h
  refine .ite (fun _ => ?_) fun _ => hs
  split
  · rename_i r hr
    have hfind : s.record r.pass = some r := hindex.find_of_mem (List.mem_of_find?_eq_some hr)
    refine hs.edit (p := r.pass)
      (f := fun x => { x with state := sweptState (s.table.listed r.pass) (s.settlement.pending r.pass) r.state })
      (fun _ => rfl) rfl rfl (fun _ _ => id) (fun x hx => ?_) fun x hx hst ⟨e, he, hpass, hp⟩ => ?_
    · obtain rfl : r = x := Option.some.inj (hfind.symm.trans hx)
      cases r.state <;> simp [sweptState] <;> split <;> simp
    · obtain rfl : r = x := Option.some.inj (hfind.symm.trans hx)
      have hpending : s.settlement.pending r.pass = true := (Settlement.hold_any_iff hs.once).2 ⟨e, he, hpass, by simp [hp]⟩
      have hactive : r.state = .active ∧ r.inFlight.isSome = true := by simpa [PassRecord.standing] using hst
      simp [PassRecord.standing, hpending, hactive, sweptState]
  · exact HoldsAside.agree ⟨by simp, by simp, by simp⟩ hs

end Sys2Proof.Machine

namespace Sys2Proof.Machine

open State Claims

theorem State.standing_reachHeld_same {s : State} {p n : Nat} {o : Origin} {r : PassRecord} (hr : s.record p = some r) :
    (s.reachHeld p o n).table.standing p = some (.held, r.inFlight.isSome) := by
  have hr' : s.table.find p = some r := hr
  exact (Table.standing_update_same (t := s.table) (f := fun r => { r with state := .held, holdLapsed := false }) fun _ => rfl).trans
    (by rw [hr']; rfl)

theorem State.standing_reachHeld_ne {s : State} {p q n : Nat} {o : Origin} (h : q ≠ p) :
    (s.reachHeld p o n).table.standing q = s.table.standing q :=
  Table.standing_update_ne (t := s.table) (f := fun r => { r with state := .held, holdLapsed := false }) (fun _ => rfl) h

namespace State.HoldsAgree

variable {s t : State}

/-- A hold that is not HELD yet reaches HELD, where the list has room for it, and no request waits for it from then on (R113, R114). -/
theorem reachHeld (hs : s.HoldsAgree) {p : Nat} {o : Origin} {placedAt : Nat} {r : PassRecord} {u : State}
    (hroom : (s.settlement.holds.filter fun x => x.pass != p).length < 16) (hstate : ∀ b, s.table.standing p ≠ some (.held, b))
    (hr : u.record p = some r) (hother : ∀ q, q ≠ p → u.table.standing q = s.table.standing q)
    (hu : u.settlement.holds = s.settlement.holds) (htable : t.table = (u.reachHeld p o placedAt).table)
    (hsettlement : t.settlement = (u.reachHeld p o placedAt).settlement)
    (hawaits : ∀ q n, t.decoder.awaits q n → n ≠ p ∧ s.decoder.awaits q n) : t.HoldsAgree := by
  have hholds : t.settlement.holds = insertHeld
      { pass := p, owner := o, phase := .held, deadline := some (u.now + u.holdLapseMs), placedAt := placedAt }
      (s.settlement.holds.filter fun x => x.pass != p) := by
    rw [hsettlement, ← hu]
    rfl
  unfold HoldsAgree
  rw [hholds, htable]
  exact HoldsFit.reach hs hroom rfl rfl hstate ⟨_, standing_reachHeld_same hr⟩
    (fun q hq => (standing_reachHeld_ne hq).trans (hother q hq)) hawaits

/-- A request waits only for a hold of its own (R114). -/
theorem awaits_unique (hs : s.HoldsAgree) {p : Nat} {q q' : Origin} (hq : s.decoder.awaits q p) (hq' : s.decoder.awaits q' p) :
    q = q' := by
  obtain ⟨e, he, rfl, -, howner⟩ := hs.awaited q p hq
  exact (hs.owner_of_awaits he hq).trans (hs.owner_of_awaits he hq').symm

/-- A request waits for no pass without an entry. -/
theorem ne_of_awaits (hs : s.HoldsAgree) {p n : Nat} (hp : s.settlement.hold p = none) {q : Origin} (hq : s.decoder.awaits q n) :
    n ≠ p := by
  obtain ⟨e, he, rfl, -⟩ := hs.awaited q n hq
  exact Settlement.hold_eq_none_iff.1 hp e he

/-- A pass without an entry is not HELD (R111). -/
theorem not_held_of_none (hs : s.HoldsAgree) {p : Nat} (hp : s.settlement.hold p = none) (b : Bool) :
    s.table.standing p ≠ some (.held, b) :=
  hs.not_held (fun e he hpass => absurd hpass (Settlement.hold_eq_none_iff.1 hp e he)) b

end State.HoldsAgree

section

variable {s t : State} (hs : s.HoldsAgree) (o : Origin)
include hs

/-! ### Placing -/

theorem holdsAgree_placeHold (p : Nat) : (s.placeHold o p).HoldsAgree := by
  unfold placeHold
  refine .ite (fun _ => hs.fail ..) fun _ => ?_
  split
  · exact hs.fail ..
  · rename_i r hr
    split
    · exact .ite (fun _ => hs.fail ..) fun _ => hs.fail ..
    · rename_i hnone
      refine .ite (fun _ => hs.fail ..) fun hrevoked => .ite (fun _ => hs.fail ..) fun hsettled =>
        .ite (fun _ => hs.fail ..) fun hroom => .ite (fun hflight => ?_) fun _ => ?_
      · have hactive : s.table.standing p = some (.active, true) := by
          have hr' : s.table.find p = some r := hr
          have hheld := hs.not_held_of_none hnone
          cases hst : r.state <;> simp_all [Table.standing, PassRecord.standing]
        have hjoin (u : State) (htable : u.table = s.table) (hholds : u.settlement.holds = s.settlement.holds ++
              [{ pass := p, owner := o, phase := .pending, deadline := none, placedAt := s.now }])
            (hawaits : ∀ q n, u.decoder.awaits q n → s.decoder.awaits q n ∨ q = o ∧ n = p) : u.HoldsAgree := by
          unfold State.HoldsAgree
          rw [htable, hholds]
          exact HoldsFit.join hs (by omega) (Settlement.hold_eq_none_iff.1 hnone) rfl rfl hactive hawaits
        refine .ite (fun _ => hjoin _ rfl rfl fun q n hq => ?_) fun _ => hjoin _ rfl rfl fun q n hq => ?_
        · rw [setStage, awaits_updContext] at hq
          split at hq
          · rename_i hqo
            simp only [Option.map_map, Option.map_eq_some_iff, Function.comp_apply, Stage.pendingHold.injEq] at hq
            obtain ⟨-, -, rfl⟩ := hq
            exact .inr ⟨hqo, rfl⟩
          · exact .inl hq
        · rw [awaits_updContext] at hq
          split at hq
          · simp at hq
          · exact .inl hq
      · refine hs.reachHeld (p := p) (o := o) (placedAt := s.now) (u := s)
          ((List.length_filter_le _ _).trans_lt (by omega)) (hs.not_held_of_none hnone) hr (fun _ _ => rfl) rfl (by simp) (by simp)
          fun q n hq => ?_
        have hq' : s.decoder.awaits q n := by simp at hq; exact hq.2
        exact ⟨hs.ne_of_awaits hnone hq', hq'⟩

theorem holdsAgree_refundHold (h : execRefundHold o s = .next t) : t.HoldsAgree := by
  injection h with h
  subst h
  split
  · exact hs.tableClaim fun hs => holdsAgree_placeHold hs o _
  · exact hs

/-! ### Settling, releasing, lapsing -/

/-- The tests that a settle and a release share, by what either does with a HELD hold (R117). -/
theorem holdsAgree_heldByMe {p : Nat} {k : PassRecord → State → State}
    (hk : ∀ r, ∀ e ∈ s.settlement.holds, e.pass = p → e.phase = .held → (k r s).HoldsAgree) : (s.heldByMe o p k).HoldsAgree := by
  unfold heldByMe
  split
  · exact hs.fail ..
  · split
    · rename_i e he
      refine .ite (fun _ => hs.fail ..) fun _ => ?_
      split
      · exact hs.busy o
      · exact hk _ e (List.mem_of_find?_eq_some he) (Settlement.hold_pass he) ‹_›
    · exact .ite (fun _ => hs.fail ..) fun _ => .ite (fun _ => hs.fail ..) fun _ =>
        .ite (fun _ => hs.fail ..) fun _ => hs.fail ..

theorem holdsAgree_refundSettle (h : execRefundSettle o s = .next t) : t.HoldsAgree := by
  injection h with h
  subst h
  split
  · refine hs.tableClaim fun hs => .ite (fun _ => hs.fail ..) fun _ => .ite (fun _ => hs.fail ..) fun _ =>
      holdsAgree_heldByMe hs o fun r e he hpass hp => ?_
    subst hpass
    refine .ite (fun _ => hs.fail ..) fun _ => .ite (fun _ => hs.fail ..) fun _ => ?_
    exact hs.unhold he hp (f := fun r => { r with state := .settled, unreported := 0 }) (fun _ => rfl) (by simp)
      (by simp; rfl) (by simp [Settlement.settle]) (by simp)
  · exact hs

theorem holdsAgree_refundRelease (h : execRefundRelease o s = .next t) : t.HoldsAgree := by
  injection h with h
  subst h
  split
  · refine hs.tableClaim fun hs => .ite (fun _ => hs.fail ..) fun _ => holdsAgree_heldByMe hs o fun r e he hpass hp => ?_
    subst hpass
    exact hs.unhold he hp (f := fun r => { r with state := (s.serve o).table.listState e.pass }) (fun _ => rfl)
      (fun _ h => Table.listState_ne_held _ _ h) (by simp; rfl) (by simp [Settlement.dropHold]) (by simp)
  · exact hs

theorem holdsAgree_lapseClaim (h : execLapseClaim s = .next t) : t.HoldsAgree := by
  have hset {u : State} (hu : u.HoldsAgree) (c : Option Nat) : (u.updSettlement fun v => { v with lapseClaim := c }).HoldsAgree :=
    hu.restand rfl rfl fun _ _ => id
  injection h with h
  subst h
  split
  · exact hs
  · refine .ite (fun _ => hset ?_ _) fun _ => hs
    split
    · rename_i e he
      refine .ite (fun hheld => ?_) fun _ => hs
      exact hs.unhold (List.mem_of_find?_eq_some he) hheld.1
        (f := fun r => { r with state := s.table.listState e.pass, holdLapsed := true }) (fun _ => rfl)
        (fun _ h => Table.listState_ne_held _ _ h) rfl rfl (by simp [State.lapse])
    · exact hs

/-! ### ABORT and the ports by which it comes -/

/-- An ABORT of a REFUND HOLD that waits takes its PENDING entry with it (R115). -/
theorem holdsAgree_abortEvent : (s.abortEvent o).HoldsAgree := by
  unfold abortEvent
  split
  · exact HoldsAside.agree ⟨by simp, by simp, by simp⟩ hs
  · rename_i p hflight
    have hawaits : s.decoder.awaits o p := by
      have hflight' : (s.decoder.context o).inFlight = _ := hflight
      simp [Decoder.awaits, hflight']
    obtain ⟨e, he, hpass, hp, -⟩ := hs.awaited o p hawaits
    have hstanding : s.table.standing p = some (.active, true) := hpass ▸ (hs.pending e he hp).2
    unfold State.HoldsAgree
    simp only [fail_frame, updSettlement_table, updSettlement_settlement]
    refine HoldsFit.remove hs p (fun _ _ => rfl) (by simp [hstanding]) fun q n hq => ?_
    rw [awaits_fail] at hq
    exact ⟨fun hn => hq.1 (hs.awaits_unique (hn ▸ hq.2) hawaits), hq.2⟩
  · exact HoldsAside.agree ⟨by simp, by simp, by simp⟩ hs
  · exact HoldsAside.agree ⟨by simp, by simp, by simp⟩ hs
  · exact hs

theorem holdsAgree_writeControl (w : Word) : (s.writeControl w).HoldsAgree := by
  have hport {u : State} (hu : u.HoldsAgree) (f : Port → Port) : (u.updPort f).HoldsAgree := hu.restand rfl rfl fun _ _ => id
  have hcleared := HoldsAgree.ite (c := w.getLsbD 3) (fun _ => hport hs Port.clearError) fun _ => hs
  have htaken := HoldsAgree.ite (c := w.getLsbD 2) (fun _ => hport hcleared Port.taken) fun _ => hcleared
  have haborted := HoldsAgree.ite (c := w.getLsbD 1) (fun _ => holdsAgree_abortEvent (hport htaken Port.abort) .station) fun _ => htaken
  exact .ite (fun _ => hport haborted _) fun _ => haborted

theorem holdsAgree_receive (r : Received) : (s.receive r).HoldsAgree := by
  refine .ite (fun _ => ?_) fun _ => hs
  unfold takeFrame
  split
  iterate 3 exact hs
  · exact HoldsAside.agree ⟨by simp, by simp, by simp⟩ hs
  · exact (HoldsAside.deliver ..).agree hs
  · exact HoldsAside.agree ⟨by simp, by simp, by simp⟩ hs
  · exact holdsAgree_abortEvent hs _

end

/-! ### The step of a TABLE CLEAR, and the resets -/

/-- While a TABLE CLEAR runs in a sound part no record is in flight, so no hold is PENDING (R23, R110). -/
theorem holdsAgree_clearStep {s t : State} (hs : s.HoldsAgree) (hsound : s.Sound) (h : execClearStep s = .next t) : t.HoldsAgree := by
  injection h with h
  subst h
  split
  · exact hs
  · rename_i c hclear
    refine .ite (fun _ => ?_) fun _ => hs
    split
    · rename_i r _ _
      have hawaits (q : Origin) (n : Nat) : ¬ s.decoder.awaits q n := fun hq => by
        obtain ⟨e, he, rfl, hp, -⟩ := hs.awaited q n hq
        obtain ⟨x, hx, hst⟩ := Table.standing_eq_some_iff.1 (hs.pending e he hp).2
        obtain ⟨l, hl⟩ := Option.isSome_iff_exists.1 (show x.inFlight.isSome = true from congrArg Prod.snd hst)
        have hrider := ((flightOk_iff.1 hsound.flight).1 x (Table.find_mem hx) l).1 hl
        simp [hsound.no_rider (by simp [clearing, hclear]) l] at hrider
      refine HoldsFit.remove hs r.pass (fun q hq => ?_) (fun b => ?_) fun q n hq => absurd hq (hawaits q n)
      · exact Table.standing_remove.trans (if_neg hq)
      · exact (Table.standing_remove.trans (if_pos rfl)).trans_ne (by simp)
    · have hended : (s.updTable fun t => { t with clear := none }).HoldsAgree := hs.restand rfl rfl fun _ _ => id
      exact .ite (fun _ => hended) fun _ => hended.complete ..

theorem coldReset_holdsAgree {s t : State} {eight spi : Bool} (h : execColdReset eight spi s = .next t) : t.HoldsAgree := by
  injection h with h
  subst h
  have hsound := resetIsSound eight spi s.link.lineReady s.link.carrier s.link.clearToSend s.pending
  exact (holdsOk_iff hsound.index).1 hsound.holds

/-- After a warm reset no hold is left, no record HELD, no request in flight (R128). -/
theorem warmReset_holdsAgree {s t : State} {eight spi : Bool} (h : execWarmReset eight spi s = .next t) : t.HoldsAgree := by
  obtain ⟨-, -, htable, hsettle, -, hdecoder, -⟩ := warmReset_blocks h
  have hheld (p : Nat) (b : Bool) : t.table.standing p ≠ some (.held, b) := fun hst => by
    obtain ⟨r, hr, hst⟩ := Table.standing_eq_some_iff.1 hst
    have hmem := Table.find_mem hr
    rw [htable] at hmem
    obtain ⟨x, -, rfl⟩ := List.mem_map.1 hmem
    have : (if x.state = .held then RecordState.active else x.state) = .held := congrArg Prod.fst hst
    split at this <;> simp_all
  have hawaits (o : Origin) (p : Nat) : ¬ t.decoder.awaits o p := by
    rw [hdecoder]
    cases o <;> simp [Decoder.awaits, Decoder.context, Decoder.warm, Context.warm]
  unfold HoldsAgree
  rw [hsettle]
  exact ⟨Nat.zero_le _, .nil, .nil, nofun, nofun, fun p b hp => absurd hp (hheld p b), fun o p ho => absurd ho (hawaits o p)⟩

/-! ### The end of an admission -/

/-- The deferred answer ends the one request that waits for the pass (R114). -/
theorem awaits_of_answerPending {s : State} {p n : Nat} {q : Origin}
    (honly : ∀ o o', s.decoder.awaits o p → s.decoder.awaits o' p → o = o') (h : (s.answerPending p).decoder.awaits q n) :
    n ≠ p ∧ s.decoder.awaits q n := by
  by_cases hex : ∃ o, s.decoder.awaits o p
  · obtain ⟨o, ho⟩ := hex
    have hother : s.stage (otherOrigin o) ≠ some (.pendingHold p) := fun hw => by
      have := honly o _ ho hw
      cases o <;> exact nomatch this
    rw [answerPending_of_one ho hother, awaits_complete] at h
    exact ⟨fun hn => h.1 (honly q o (hn ▸ h.2) ho), h.2⟩
  · rw [answerPending_of_none fun o ho => hex ⟨o, ho⟩] at h
    exact ⟨fun hn => hex ⟨q, hn ▸ h⟩, h⟩

/-- The claim that ends an admission: a PENDING hold of its pass reaches HELD, and the request that waited is answered (R114). -/
theorem holdsAgree_admissionClaimed {s : State} (hs : s.HoldsAgree) {p : Nat} {r base : PassRecord} {t : Table} {queue : List Nat}
    {events : List Event} (hr : s.record p = some r) (ht : t.find p = some base) (hstate : base.state = r.state)
    (hother : ∀ q, q ≠ p → t.find q = s.record q) : ((admissionClaimed p t queue events s).answerPending p).HoldsAgree := by
  obtain ⟨-, -, hdecoder, -⟩ := admissionClaimed_frame (p := p) (t := t) (queue := queue) (events := events) (s := s)
  have hawaits (q : Origin) (n : Nat) (hq : ((admissionClaimed p t queue events s).answerPending p).decoder.awaits q n) :
      n ≠ p ∧ s.decoder.awaits q n := by
    have h := awaits_of_answerPending (by rw [hdecoder]; exact fun _ _ => hs.awaits_unique) hq
    rwa [hdecoder] at h
  obtain ⟨-, htable, hsettlement, -⟩ := answerPending_frame (admissionClaimed p t queue events s) p
  have hfar (q : Nat) (hq : q ≠ p) : t.standing q = s.table.standing q := by
    rw [Table.standing, hother q hq]
    rfl
  by_cases hpending : ∃ e, s.settlement.hold p = some e ∧ e.phase = .pending
  · obtain ⟨e, he, hp⟩ := hpending
    have hmem := List.mem_of_find?_eq_some he
    have hpass := Settlement.hold_pass he
    have hclaimed := admissionClaimed_of_pending (t := t) (queue := queue) (events := events) he hp hr
    refine hs.reachHeld (p := p) (o := e.owner) (placedAt := e.placedAt)
      (u := { s with table := t, settlement := { s.settlement with queue := queue } }) ?_ (fun b => ?_) ht hfar rfl
      (htable.trans ((congrArg State.table hclaimed).trans (handEvents_table ..)))
      (hsettlement.trans ((congrArg State.settlement hclaimed).trans (handEvents_settlement ..))) hawaits
    · have hshort : (s.settlement.holds.filter fun x => x.pass != p).length < s.settlement.holds.length :=
        List.length_filter_lt_length_iff_exists.2 ⟨e, hmem, by simp [hpass]⟩
      exact hshort.trans_le hs.room
    · rw [← hpass, (hs.pending e hmem hp).2]
      simp
  · have hnot : NotPending p s := fun e he hp => hpending ⟨e, he, hp⟩
    have hclaimed := admissionClaimed_of_notPending (t := t) (queue := queue) (events := events) hnot
    unfold HoldsAgree
    rw [htable, hsettlement, congrArg State.table hclaimed, congrArg State.settlement hclaimed, handEvents_table,
      handEvents_settlement]
    refine HoldsFit.keep hs (fun q => ?_) (fun e he hp hst => ?_) fun q n hq => (hawaits q n hq).2
    · by_cases hq : q = p
      · have hr' : s.table.find p = some r := hr
        simp [hq, Table.standing, ht, hr', PassRecord.standing, hstate]
      · exact hfar q hq ▸ .rfl
    · have hne : e.pass ≠ p := fun hpass => hnot e ((Settlement.hold_eq_some_iff hs.once).2 ⟨he, hpass⟩) hp
      exact (hfar _ hne).trans hst

/-- An ending claim, by what its part at the table does with the admission's record. -/
theorem holdsAgree_endingClaim {s : State} (hs : s.HoldsAgree) {l : LaneNo} {k : Admission → PassRecord → State → State}
    (hk : ∀ a r, s.record a.pass = some r → (k a r (s.serveLane l)).HoldsAgree) : (s.endingClaim l k).HoldsAgree := by
  have hserve : (s.serveLane l).HoldsAgree := hs.restand rfl rfl fun _ _ => id
  have hpart : ((s.serveLane l).endPart l k).HoldsAgree := by
    unfold endPart
    split
    · split
      · exact hk _ _ ‹_›
      · exact hserve
    · exact hserve
  rw [endingClaim_eq]
  exact HoldsAside.agree ⟨by simp, by simp, by simp⟩ hpart

theorem holdsAgree_commitClaim {s t : State} (hs : s.HoldsAgree) {l : LaneNo} (h : execCommitClaim l s = .next t) : t.HoldsAgree := by
  injection h with h
  subst h
  refine .ite (fun hturn => holdsAgree_endingClaim hs fun a r hr => ?_) fun _ => hs
  have hends := commitClaim_endsAdmission hturn.1 hr hturn.2
  exact holdsAgree_admissionClaimed hs hr hends.record rfl hends.others

theorem holdsAgree_withdrawClaim {s t : State} (hs : s.HoldsAgree) {l : LaneNo} (h : execWithdrawClaim l s = .next t) :
    t.HoldsAgree := by
  injection h with h
  subst h
  refine .ite (fun hturn => holdsAgree_endingClaim hs fun a r hr => ?_) fun _ => hs
  have hends := withdrawClaim_endsAdmission hturn.1 hr hturn.2
  exact holdsAgree_admissionClaimed hs hr hends.record rfl hends.others

/-! ### Every step -/

/-- Every command of a sound part keeps the hold list and what it names in agreement. -/
theorem exec_holdsAgree {i : Instr} {s t : State} (hsound : s.Sound) (h : exec i s = .next t) : t.HoldsAgree := by
  have hs : s.HoldsAgree := (holdsOk_iff hsound.index).1 hsound.holds
  have hnext {u : State} (hu : u.HoldsAgree) (h : Host.Outcome.next u = (.next t : Host.Outcome State Fault Refusal)) : t.HoldsAgree := by
    injection h with h
    exact h ▸ hu
  cases i with
  | coldReset => exact coldReset_holdsAgree h
  | warmReset => exact warmReset_holdsAgree h
  | decisionClaim => exact holdsAgree_decisionClaim hs h
  | commitClaim => exact holdsAgree_commitClaim hs h
  | withdrawClaim => exact holdsAgree_withdrawClaim hs h
  | lapseClaim => exact holdsAgree_lapseClaim hs h
  | sweepStep => exact holdsAgree_sweepStep hs hsound.index h
  | clearStep => exact holdsAgree_clearStep hs hsound h
  | passInsert o => exact holdsAgree_passInsert hs o h
  | passDrop o => exact holdsAgree_passDrop hs o h
  | dayMergeEntry o => exact holdsAgree_dayMergeEntry hs o h
  | usageConfirm o => exact holdsAgree_usageConfirm hs o h
  | refundHold o => exact holdsAgree_refundHold hs o h
  | refundSettle o => exact holdsAgree_refundSettle hs o h
  | refundRelease o => exact holdsAgree_refundRelease hs o h
  | request | abort | outputTaken | errorClear => exact hnext (holdsAgree_writeControl hs _) h
  | requestFrame | broadcast | abortFrame | frameDiscarded | broadcastAbort => exact hnext (holdsAgree_receive hs _) h
  | _ => exact (exec_holdsAside rfl h).agree hs

end Sys2Proof.Machine

namespace Sys2Proof

open Machine State

/-- Settles O59: each command makes one of the moves of the hold list that keep it in order and in agreement with its records. -/
theorem holdsMatchTheirRecords : Obligations.HoldsMatchTheirRecords := by
  intro s t hs h
  rw [holdsOk_iff ((step_keeps h).index hs.index)]
  unfold step at h
  split at h
  · injection h with h
    have htick : HoldsAside s (tick s) :=
      .ite ⟨by simp, by simp, by simp⟩ (.ite ⟨by simp, by simp, by simp⟩ (.ite ⟨by simp, by simp, by simp⟩ ⟨by simp, by simp, by simp⟩))
    exact h ▸ htick.agree ((holdsOk_iff hs.index).1 hs.holds)
  · rename_i rest _
    exact exec_holdsAgree (hs.pending rest) h

end Sys2Proof

/-! ## Holds placed

REFUND HOLD at its turn: its tests in order, a hold HELD at once, a hold that waits PENDING (R112 to R114). -/

namespace Sys2Proof

open Machine Claims State

/-! ### The hold list and a record as a hold reaches HELD -/

section Reached

variable {s : State} {p placedAt : Nat} {o : Origin}

/-- A hold that reaches HELD, with its deadline (R113). -/
theorem hold_reachHeld : (s.reachHeld p o placedAt).settlement.hold p = some {
    pass := p, owner := o, phase := .held, deadline := some (s.now + s.decoder.profile.holdLapse * 60000), placedAt := placedAt } :=
  hold_insertHeld s.settlement

/-- A hold that reaches HELD leaves the holds of the other passes. -/
theorem hold_reachHeld_ne {q : Nat} (hq : q ≠ p) : (s.reachHeld p o placedAt).settlement.hold q = s.settlement.hold q := by
  have hfree : (s.settlement.dropHold p).hold p = none := by rw [Settlement.hold_dropHold, if_pos rfl]
  have hfind := find_insertHeld
    { pass := p, owner := o, phase := .held, deadline := some (s.now + s.holdLapseMs), placedAt := placedAt } q _ hfree
  rw [if_neg hq] at hfind
  have hdropped := s.settlement.hold_dropHold p q
  rw [if_neg hq] at hdropped
  exact hfind.trans hdropped

/-- The record of a hold that reaches HELD (R5, R113). -/
theorem record_reachHeld {r : PassRecord} (hr : s.record p = some r) :
    (s.reachHeld p o placedAt).record p = some { r with state := .held, holdLapsed := false } :=
  Table.find_update_same (t := s.table) (fun _ => rfl) hr

theorem record_reachHeld_ne {q : Nat} (hq : q ≠ p) : (s.reachHeld p o placedAt).record q = s.record q :=
  Table.find_update_ne (t := s.table) (fun _ => rfl) hq

end Reached

/-! ### The tests of REFUND HOLD, and what it places -/

/-- The part once a hold on a pass in flight joins the list's tail, PENDING (R114). -/
def Machine.State.joinPending (o : Origin) (p : Nat) (s : State) : State :=
  s.updSettlement fun u => { u with holds := u.holds ++
    [{ pass := p, owner := o, phase := .pending, deadline := none, placedAt := s.now }] }

/-- The part once a hold on a pass not in flight is placed, its event handed (R113). -/
def Machine.State.placeHeld (o : Origin) (p : Nat) (r : PassRecord) (s : State) : State :=
  (s.reachHeld p o s.now).handEvents [holdEvent .holdPlaced r]

theorem record_placeHeld (s : State) {o : Origin} {p : Nat} {r : PassRecord} (q : Nat) :
    (s.placeHeld o p r).record q = (s.reachHeld p o s.now).record q := record_handEvents ..

theorem settlement_placeHeld (s : State) {o : Origin} {p : Nat} {r : PassRecord} :
    (s.placeHeld o p r).settlement = (s.reachHeld p o s.now).settlement := handEvents_settlement ..

/-- REFUND HOLD at its turn. -/
theorem execRefundHold_at_turn {o : Origin} {p : Nat} {s : State} (h : HasClaim o (.refundHold p) s) :
    exec (.refundHold o) s = .next ((s.serve o).placeHold o p) := by
  obtain ⟨hwaits, hturn⟩ := h
  simp only [exec, execRefundHold, hwaits, tableClaim_of_turn hturn]

section Place

variable {o : Origin} {p : Nat} {r : PassRecord} {s : State} (hbad : badPass p = false) (hr : s.record p = some r)
include hbad hr

/-- A pass that has a hold takes no other (R112). -/
theorem placeHold_of_hold {e : HoldEntry} (he : s.settlement.hold p = some e) :
    s.placeHold o p = s.fail o (if e.owner = o then .double else .heldByOther) (some p) none := by
  simp only [placeHold, hbad, hr, he, Bool.false_eq_true, if_false]
  split <;> rfl

variable (hnone : s.settlement.hold p = none)
include hnone

/-- A REVOKED or SETTLED record takes no hold (R112). -/
theorem placeHold_of_state (hstate : r.state = .revoked ∨ r.state = .settled) :
    s.placeHold o p = s.fail o (if r.state = .revoked then .revoked else .settled) (some p) none := by
  simp only [placeHold, hbad, hr, hnone]
  rcases hstate with hstate | hstate <;> simp [hstate]

variable (hrevoked : r.state ≠ .revoked) (hsettled : r.state ≠ .settled)
include hrevoked hsettled

/-- A full hold list, or a full hold count, takes no hold (R112, R123). -/
theorem placeHold_of_full
    (hfull : 16 ≤ s.settlement.holds.length ∨ (16 ≤ (s.countedPasses o).length ∧ p ∉ s.countedPasses o)) :
    s.placeHold o p = s.fail o .holdListFull (some p) none := by
  simp only [placeHold, hbad, hr, hnone, if_neg hrevoked, if_neg hsettled, if_pos hfull]
  rfl

variable (hroom : s.settlement.holds.length < 16) (hcount : (s.countedPasses o).length < 16 ∨ p ∈ s.countedPasses o)
include hroom hcount

/-- A hold that passes its tests (R113, R114). -/
theorem placeHold_of_room : s.placeHold o p =
    if r.inFlight.isSome then
      if (s.context o).inFlight.any (·.answerable) then (s.joinPending o p).setStage o (.pendingHold p)
      else (s.joinPending o p).updContext o fun c => { c with inFlight := none }
    else (s.placeHeld o p r).complete o ((s.placeHeld o p r).holdAnswer p false) := by
  have hspace : ¬ (16 ≤ s.settlement.holds.length ∨ (16 ≤ (s.countedPasses o).length ∧ p ∉ s.countedPasses o)) := by
    rintro (h | ⟨h, hp⟩)
    · omega
    · exact hcount.elim (fun hc => by omega) hp
  simp only [placeHold, hbad, hr, hnone, if_neg hrevoked, if_neg hsettled, if_neg hspace]
  rfl

end Place

/-- Settles O34, by the tests of REFUND HOLD in their order. -/
theorem holdsArePlaced : Obligations.HoldsArePlaced := by
  intro o p r s h hbad hr
  have hr' : (s.serve o).record p = some r := by rw [record_serve, hr]
  have hsettlement : (s.serve o).settlement = s.settlement := by simp
  have hcounted : (s.serve o).countedPasses o = s.countedPasses o := by cases o <;> rfl
  rw [execRefundHold_at_turn h]
  refine ⟨fun e he => ?_, fun hnone hstate => ?_, fun hnone hrevoked hsettled => ⟨fun hfull => ?_, fun hroom hcount => ?_⟩⟩
  · rw [placeHold_of_hold hbad hr' (by rw [hsettlement, he])]
  · rw [placeHold_of_state hbad hr' (by rw [hsettlement, hnone]) hstate]
  · rw [placeHold_of_full hbad hr' (by rw [hsettlement, hnone]) hrevoked hsettled (by rwa [hsettlement, hcounted])]
  · rw [placeHold_of_room hbad hr' (by rw [hsettlement, hnone]) hrevoked hsettled (by rwa [hsettlement]) (by rwa [hcounted])]
    refine ⟨fun hfree => ⟨(s.serve o).placeHeld o p r, ?_⟩, fun hflight =>
      ⟨(s.serve o).joinPending o p, ?_, fun hsent => ?_, fun hsent => ?_⟩⟩
    · refine ⟨by simp [hfree], (record_placeHeld ..).trans (record_reachHeld hr'), fun q hq => ?_, ?_, fun q hq => ?_, ?_, ?_⟩
      · rw [record_placeHeld, record_reachHeld_ne hq, record_serve]
      · rw [settlement_placeHeld, hold_reachHeld]
        simp [now]
      · rw [settlement_placeHeld, hold_reachHeld_ne hq, hsettlement]
      · rw [placeHeld, handEvents_inbox]
        simp
      · simp [placeHeld, reachHeld, updRecord, Table.update]
    · cases o <;> rfl
    · rw [if_pos hflight, context_serve, if_pos hsent]
    · rw [if_pos hflight, context_serve, if_neg (by simp [hsent])]

end Sys2Proof

/-! ## Holds settled and released

REFUND SETTLE and REFUND RELEASE at their turn: the tests they share, in order, then what each does with the origin's own HELD
hold (R116 to R120). -/

namespace Sys2Proof

open Machine Claims State

/-! ### The tests they share (R117) -/

section Shared

variable {o : Origin} {p : Nat} {r : PassRecord} {e : HoldEntry} {s : State} (hr : s.record p = some r)
  (k : PassRecord → State → State)
include hr

theorem heldByMe_of_other (he : s.settlement.hold p = some e) (howner : e.owner ≠ o) :
    s.heldByMe o p k = s.fail o .heldByOther (some p) none := by
  simp only [heldByMe, hr, he, if_pos howner]

theorem heldByMe_of_pending (he : s.settlement.hold p = some e) (howner : e.owner = o) (hphase : e.phase = .pending) :
    s.heldByMe o p k = s.busy o := by
  simp only [heldByMe, hr, he, if_neg (not_not.2 howner), hphase]

theorem heldByMe_of_held (he : s.settlement.hold p = some e) (howner : e.owner = o) (hphase : e.phase = .held) :
    s.heldByMe o p k = k r s := by
  simp only [heldByMe, hr, he, if_neg (not_not.2 howner), hphase]

theorem heldByMe_of_none (hnone : s.settlement.hold p = none) :
    s.heldByMe o p k = s.fail o (if r.state = .settled then .settled else if r.holdLapsed then .holdLapsed
      else if r.state = .revoked then .revoked else .noHold) (some p) none := by
  simp only [heldByMe, hr, hnone]
  split_ifs <;> rfl

end Shared

/-! ### Settling (R118, R119) -/

/-- REFUND SETTLE at its turn, its fields in range. -/
theorem execRefundSettle_at_turn {o : Origin} {p refunded : Nat} {s : State} (h : HasClaim o (.refundSettle p refunded) s)
    (hbad : badPass p = false) (hrange : refunded ≤ 240) :
    exec (.refundSettle o) s = .next ((s.serve o).heldByMe o p fun r s => s.settleHeld o p refunded r) := by
  obtain ⟨hwaits, hturn⟩ := h
  simp only [exec, execRefundSettle, hwaits, tableClaim_of_turn hturn, hbad, Bool.false_eq_true, if_false,
    if_neg (Nat.not_lt.2 hrange)]

/-- The part once a hold is settled: the record SETTLED, the settlement unit's part, and the SETTLED event handed (R119). -/
def Machine.State.settled (p : Nat) (r : PassRecord) (s : State) : State :=
  ((s.updRecord p fun r => { r with state := .settled, unreported := 0 }).updSettlement (Settlement.settle p)).handEvents
    [holdEvent .settled r]

section Settle

variable {o : Origin} {p refunded : Nat} {r : PassRecord} {s : State}

theorem settleHeld_of_more (h : r.refundable s.clock.day < refunded) :
    s.settleHeld o p refunded r = s.fail o .badArgument (some p) (blockField 8) := if_pos h

theorem settleHeld_of_listed (h : refunded ≤ r.refundable s.clock.day) (hlisted : s.table.listed p = true) :
    s.settleHeld o p refunded r = s.fail o .revoked (some p) none :=
  (if_neg (Nat.not_lt.2 h)).trans (if_pos hlisted)

theorem settleHeld_of_unlisted (h : refunded ≤ r.refundable s.clock.day) (hlisted : s.table.listed p = false) :
    s.settleHeld o p refunded r = (s.settled p r).complete o
      (imgPass (some p) ++ img1 refunded ++ img1 (r.refundable s.clock.day) ++ imgDays r.used ++ imgDays r.unreported
        ++ img1 (s.settlement.tagNaming p)) :=
  (if_neg (Nat.not_lt.2 h)).trans (if_neg (by simp [hlisted]))

/-- The record of a hold that is settled (R119). -/
theorem record_settled (hr : s.record p = some r) :
    (s.settled p r).record p = some { r with state := .settled, unreported := 0 } :=
  (record_handEvents ..).trans (Table.find_update_same (t := s.table) (fun _ => rfl) hr)

theorem record_settled_ne {q : Nat} (hq : q ≠ p) : (s.settled p r).record q = s.record q :=
  (record_handEvents ..).trans (Table.find_update_ne (t := s.table) (fun _ => rfl) hq)

theorem settlement_settled : (s.settled p r).settlement = s.settlement.settle p := handEvents_settlement ..

theorem Machine.Settlement.hold_settle (u : Settlement) (p q : Nat) :
    (u.settle p).hold q = if q = p then none else u.hold q := find_hold_filter p q u.holds

end Settle

/-! ### Releasing (R120) -/

/-- REFUND RELEASE at its turn. -/
theorem execRefundRelease_at_turn {o : Origin} {p : Nat} {s : State} (h : HasClaim o (.refundRelease p) s)
    (hbad : badPass p = false) :
    exec (.refundRelease o) s = .next ((s.serve o).heldByMe o p fun _ s =>
      ((s.updSettlement (Settlement.dropHold p)).updRecord p fun r => { r with state := s.table.listState p }).complete o
        (imgPass (some p) ++ img1 (if s.table.listed p then 3 else 0))) := by
  obtain ⟨hwaits, hturn⟩ := h
  simp only [exec, execRefundRelease, hwaits, tableClaim_of_turn hturn, hbad, Bool.false_eq_true, if_false, listState_code]

/-- Settles O35, by the tests the two commands share, then the effect of each on the origin's own HELD hold. -/
theorem holdsAreSettledAndReleased : Obligations.HoldsAreSettledAndReleased := by
  intro o p r s hbad hr
  have hr' : (s.serve o).record p = some r := by rw [record_serve, hr]
  have hsettlement : (s.serve o).settlement = s.settlement := serve_settlement s o
  have hlisted : (s.serve o).table.listed p = s.table.listed p := serve_listed s o p
  have hday : (s.serve o).clock = s.clock := (serve_frame s o).1
  rw [← hsettlement]
  refine ⟨fun refunded h hrange => ?_, fun h => ?_⟩
  · rw [execRefundSettle_at_turn h hbad hrange]
    refine ⟨fun e he howner hphase => ?_, fun e he howner => ?_, fun e he howner hphase => ?_, fun hnone => ?_⟩
    · rw [heldByMe_of_held hr' _ he howner hphase, ← hday, ← hlisted]
      refine ⟨fun hmore => ?_, fun hle hl => ?_, fun hle hl => ⟨(s.serve o).settled p r, ?_, record_settled hr', fun q hq => ?_, ?_,
        fun q hq => ?_, ?_⟩⟩
      · rw [settleHeld_of_more hmore]
      · rw [settleHeld_of_listed hle hl]
      · rw [settleHeld_of_unlisted hle hl]
      · rw [record_settled_ne hq, record_serve]
      · rw [settlement_settled, Settlement.hold_settle, if_pos rfl]
      · rw [settlement_settled, Settlement.hold_settle, if_neg hq]
      · rw [settlement_settled]
        refine ⟨rfl, rfl, ?_, ?_⟩
        · rw [settled, handEvents_inbox]
          simp
        · simp [settled, updRecord, Table.update]
    · rw [heldByMe_of_other hr' _ he howner]
    · rw [heldByMe_of_pending hr' _ he howner hphase]
    · rw [heldByMe_of_none hr' _ hnone]
  · rw [execRefundRelease_at_turn h hbad]
    refine ⟨fun e he howner hphase => ?_, fun e he howner => ?_, fun e he howner hphase => ?_, fun hnone => ?_⟩
    · rw [heldByMe_of_held hr' _ he howner hphase, ← hlisted]
      refine ⟨_, rfl, Table.find_update_same (t := (s.serve o).table) (fun _ => rfl) hr', fun q hq => ?_, rfl, ?_⟩
      · rw [← record_serve s o q]
        exact Table.find_update_ne (t := (s.serve o).table) (fun _ => rfl) hq
      · simp [updRecord, Table.update]
    · rw [heldByMe_of_other hr' _ he howner]
    · rw [heldByMe_of_pending hr' _ he howner hphase]
    · rw [heldByMe_of_none hr' _ hnone]

end Sys2Proof

/-! ## Holds lapsed

The lapse timer and the lapse claim: the first HELD entry whose deadline is reached (R121 to R123). -/

namespace Sys2Proof

open Machine Claims State

/-! ### The lapse timer (R121) -/

/-- The claim that waits once the timer is set anew is the one the model submits (R121). -/
theorem lapseSet_iff {s : State} {claim : Option Nat} : LapseSet s claim ↔ claim = s.duePass := by
  unfold LapseSet duePass Settlement.firstHeld
  cases s.settlement.holds.find? fun x => x.phase == .held with
  | none => rfl
  | some x => by_cases h : Expired s x.deadline <;> simp [h, due_iff_expired]

/-- The timer of a first HELD entry that is due names its pass (R121). -/
theorem duePass_of_expired {s : State} {e : HoldEntry} (hfirst : s.settlement.firstHeld = some e) (h : Expired s e.deadline) :
    s.duePass = some e.pass := by
  simp only [duePass, hfirst, if_pos (due_iff_expired.2 h)]

/-! ### The lapse claim (R121, R122) -/

section Claim

variable {p : Nat} {s : State} (hclaim : s.settlement.lapseClaim = some p) (hturn : s.turn = .settlement)
include hclaim hturn

/-- The lapse claim at its turn whose pass has a HELD hold with its deadline reached: the hold lapses, and the timer is set anew. -/
theorem execLapseClaim_of_expired {e : HoldEntry} (he : s.settlement.hold p = some e) (hphase : e.phase = .held)
    (h : Expired s e.deadline) :
    exec .lapseClaim s = .next ((s.lapse e).updSettlement fun u => { u with lapseClaim := (s.lapse e).duePass }) := by
  simp only [exec, execLapseClaim, hclaim, if_pos hturn, he, if_pos (And.intro hphase (due_iff_expired.2 h))]

/-- The lapse claim at its turn with no such hold: the timer alone is set anew. -/
theorem execLapseClaim_of_not_expired
    (h : ∀ e, s.settlement.hold p = some e → e.phase = .pending ∨ ¬ Expired s e.deadline) :
    exec .lapseClaim s = .next (s.updSettlement fun u => { u with lapseClaim := s.duePass }) := by
  cases he : s.settlement.hold p with
  | none => simp only [exec, execLapseClaim, hclaim, if_pos hturn, he]
  | some e =>
    have hstays : ¬ (e.phase = .held ∧ due s.now e.deadline = true) := by
      rintro ⟨hphase, hdue⟩
      rcases h e he with hpending | hnot
      · simp [hphase] at hpending
      · exact hnot (due_iff_expired.1 hdue)
    simp only [exec, execLapseClaim, hclaim, if_pos hturn, he, if_neg hstays]

end Claim

/-- The lapse claim without its turn, or where none waits, does nothing (R121). -/
theorem execLapseClaim_of_no_turn {s : State} (h : s.settlement.lapseClaim = none ∨ s.turn ≠ .settlement) :
    exec .lapseClaim s = .next s := by
  cases hclaim : s.settlement.lapseClaim with
  | none => simp only [exec, execLapseClaim, hclaim]
  | some p => simp only [exec, execLapseClaim, hclaim, if_neg (h.resolve_left (by simp [hclaim]))]

/-- The expiry of the lapse timer while no lapse claim waits: the claim of the entry it is set to. -/
theorem execLapseTimerExpiry_of_no_claim {s : State} (h : s.settlement.lapseClaim = none) :
    exec .lapseTimerExpiry s = .next { s with settlement := { s.settlement with lapseClaim := s.duePass } } := by
  simp only [exec, execLapseTimerExpiry, h]
  rfl

/-- The expiry of the lapse timer while a lapse claim waits. -/
theorem execLapseTimerExpiry_of_claim {s : State} (h : s.settlement.lapseClaim.isSome = true) :
    exec .lapseTimerExpiry s = .next s := by
  simp only [exec, execLapseTimerExpiry]
  rw [if_neg (by simpa using Option.isSome_iff_ne_none.1 h)]

/-- Settles O36, by the claim's own cases: its hold lapses or stays, it has not its turn, its timer is not due. -/
theorem holdsLapseAtTheirDeadline : Obligations.HoldsLapseAtTheirDeadline := by
  refine ⟨fun e s hfirst hexpired hnone => ?_, fun p e r s hclaim hturn he hphase hexpired hr => ?_, fun p s hclaim hturn h => ?_,
    fun s => ⟨execLapseClaim_of_no_turn, fun h => ?_⟩⟩
  · rw [execLapseTimerExpiry_of_no_claim hnone, duePass_of_expired hfirst hexpired]
  · obtain rfl : e.pass = p := Settlement.hold_pass he
    exact ⟨_, execLapseClaim_of_expired hclaim hturn he hphase hexpired,
      Table.find_update_same (t := s.table) (fun _ => rfl) hr,
      fun q hq => Table.find_update_ne (t := s.table) (fun _ => rfl) hq,
      rfl, lapseSet_iff.2 rfl, rfl, rfl, rfl, rfl, rfl, rfl, rfl, rfl⟩
  · exact ⟨_, execLapseClaim_of_not_expired hclaim hturn h, lapseSet_iff.2 rfl⟩
  · cases hclaim : s.settlement.lapseClaim with
    | some p => exact execLapseTimerExpiry_of_claim (by simp [hclaim])
    | none =>
      have hnot : s.duePass = none := (lapseSet_iff.1 (h.resolve_left (by simp [hclaim]))).symm
      rw [execLapseTimerExpiry_of_no_claim hclaim, hnot, ← hclaim]

end Sys2Proof

/-! ## The report queue, the open collection and the unreported days

What usage reporting must agree with: the unreported days of each resident pass (R131, R133, R136); and the moves by which
commands change the days, the queue and the collection together. -/

namespace Sys2Proof.Machine

/-- The unreported days of a pass, if it is resident (R1). -/
def Table.unreported (t : Table) (p : Nat) : Option DaySet := (t.find p).map (·.unreported)

/-- What the settlement unit holds of usage reporting (R131, R133). -/
structure Usage where
  queue : List Nat
  collection : Option Collection
  lastTag : Nat

/-- The settlement unit's part in usage reporting. -/
def Settlement.usage (u : Settlement) : Usage := { queue := u.queue, collection := u.collection, lastTag := u.lastTag }

/-- A pass has unreported days. -/
def HasDays (days : Nat → Option DaySet) (p : Nat) : Prop := ∃ ds, days p = some ds ∧ ds ≠ 0

/-- The queue names exactly the passes with unreported days, each once (R131). -/
structure QueueFits (days : Nat → Option DaySet) (queue : List Nat) : Prop where
  once : queue.Nodup
  names : ∀ p, p ∈ queue ↔ HasDays days p

/-- A collection's entry names a resident pass, and where it is not void its carried days are still unreported (R133, R136). -/
def CollectionEntry.Fits (days : Nat → Option DaySet) (e : CollectionEntry) : Prop :=
  ∃ ds, days e.pass = some ds ∧ (e.void = false → e.carried ≠ 0 ∧ withoutDays e.carried ds = 0)

/-- An open collection agrees with the unreported days (R133, R136). -/
structure Collection.Fits (days : Nat → Option DaySet) (c : Collection) : Prop where
  tag : 1 ≤ c.tag
  filled : 1 ≤ c.entries.length
  room : c.entries.length ≤ 64
  once : (c.entries.map (·.pass)).Nodup
  entries : ∀ e ∈ c.entries, e.Fits days

/-- Usage reporting agrees with the unreported days of the passes (R131, R133, R136). -/
structure UsageFits (days : Nat → Option DaySet) (u : Usage) : Prop where
  queue : QueueFits days u.queue
  lastTag : u.lastTag ≤ 255
  collection : ∀ c ∈ u.collection, c.tag = u.lastTag ∧ c.Fits days

/-- The part's report queue and collection agree with its records. -/
def State.UsageAgrees (s : State) : Prop := UsageFits s.table.unreported s.settlement.usage

theorem Table.unreported_eq_some_iff {t : Table} {p : Nat} {ds : DaySet} :
    t.unreported p = some ds ↔ ∃ r, t.find p = some r ∧ r.unreported = ds := by
  simp [unreported]

theorem Table.unreported_of_find {t : Table} {p : Nat} {r : PassRecord} (h : t.find p = some r) :
    t.unreported p = some r.unreported := by simp [unreported, h]

/-- The invariant of the report queue, in the terms of the passes that have unreported days. -/
theorem State.queueOk_iff {s : State} (h : s.table.IndexOk) : s.QueueOk ↔ QueueFits s.table.unreported s.settlement.queue := by
  have hrecord (p : Nat) : (s.record p).any (fun r => r.unreported != 0) = true ↔ HasDays s.table.unreported p := by
    cases hr : s.table.find p <;> simp [record, HasDays, Table.unreported, hr]
  have hnamed : (∀ r ∈ s.table.records, r.unreported ≠ 0 → r.pass ∈ s.settlement.queue)
      ↔ ∀ p, HasDays s.table.unreported p → p ∈ s.settlement.queue := by
    constructor
    · rintro hr p ⟨ds, hp, hds⟩
      obtain ⟨r, hfind, rfl⟩ := Table.unreported_eq_some_iff.1 hp
      exact Table.find_pass hfind ▸ hr r (Table.find_mem hfind) hds
    · exact fun hp r hr hds => hp r.pass ⟨_, Table.unreported_of_find (h.find_of_mem hr), hds⟩
  simp only [QueueOk, hrecord, hnamed]
  exact ⟨fun ⟨honce, hdays, hall⟩ => ⟨honce, fun p => ⟨hdays p, hall p⟩⟩,
    fun ⟨honce, hnames⟩ => ⟨honce, fun p => (hnames p).1, fun p => (hnames p).2⟩⟩

/-- The invariant of the collection, in the terms of the unreported days. -/
theorem State.collectionOk_iff {s : State} : s.CollectionOk ↔ s.settlement.lastTag ≤ 255
    ∧ ∀ c ∈ s.settlement.collection, c.tag = s.settlement.lastTag ∧ c.Fits s.table.unreported := by
  have hentry (e : CollectionEntry) : ((s.record e.pass).isSome = true ∧ (e.void = false → e.carried ≠ 0
      ∧ (s.record e.pass).any (fun r => withoutDays e.carried r.unreported == 0) = true)) ↔ e.Fits s.table.unreported := by
    cases hr : s.table.find e.pass <;> simp [record, CollectionEntry.Fits, Table.unreported, hr]
  simp only [CollectionOk, hentry]
  refine and_congr_right fun _ => forall₂_congr fun c _ => and_congr_right fun _ => ?_
  exact ⟨fun ⟨htag, hsome, hroom, honce, hall⟩ => ⟨htag, hsome, hroom, honce, hall⟩,
    fun ⟨htag, hsome, hroom, honce, hall⟩ => ⟨htag, hsome, hroom, honce, hall⟩⟩

theorem State.usageAgrees_iff {s : State} (h : s.table.IndexOk) : s.UsageAgrees ↔ s.QueueOk ∧ s.CollectionOk := by
  rw [queueOk_iff h, collectionOk_iff]
  exact ⟨fun ⟨hqueue, htag, hcoll⟩ => ⟨hqueue, htag, hcoll⟩, fun ⟨hqueue, htag, hcoll⟩ => ⟨hqueue, htag, hcoll⟩⟩

/-! ### The moves of the report queue -/

namespace QueueFits

variable {days days' : Nat → Option DaySet} {queue queue' : List Nat} {p : Nat}

/-- The days of one pass change, and the queue in that pass alone. -/
theorem change (h : QueueFits days queue) (hother : ∀ q, q ≠ p → days' q = days q) (honce : queue'.Nodup)
    (hqueue : ∀ q, q ≠ p → (q ∈ queue' ↔ q ∈ queue)) (hp : p ∈ queue' ↔ HasDays days' p) : QueueFits days' queue' := by
  refine ⟨honce, fun q => ?_⟩
  by_cases hq : q = p
  · exact hq ▸ hp
  · rw [hqueue q hq, h.names q, HasDays, HasDays, hother q hq]

/-- A pass that has unreported days before and after, or neither, keeps its place. -/
theorem stay (h : QueueFits days queue) (hother : ∀ q, q ≠ p → days' q = days q) (hp : HasDays days' p ↔ HasDays days p) :
    QueueFits days' queue := h.change hother h.once (fun _ _ => .rfl) ((h.names p).trans hp.symm)

/-- A pass left with no unreported days leaves the queue. -/
theorem leave (h : QueueFits days queue) (hother : ∀ q, q ≠ p → days' q = days q) (hp : ¬ HasDays days' p) :
    QueueFits days' (queue.filter (· != p)) :=
  h.change hother (h.once.filter _) (fun q hq => by simp [hq]) (by simp [hp])

/-- A pass with unreported days goes to the tail of the queue. -/
theorem toTail (h : QueueFits days queue) (hother : ∀ q, q ≠ p → days' q = days q) (hp : HasDays days' p) :
    QueueFits days' (queue.filter (· != p) ++ [p]) := by
  refine h.change hother ?_ (fun q hq => by simp [hq]) (by simp [hp])
  exact List.nodup_append.2 ⟨h.once.filter _, List.nodup_singleton p, by simp⟩

/-- A pass that had no unreported days and has some joins the tail of the queue (R88, R131). -/
theorem join (h : QueueFits days queue) (hother : ∀ q, q ≠ p → days' q = days q) (hfree : ¬ HasDays days p)
    (hp : HasDays days' p) : QueueFits days' (queue ++ [p]) := by
  have hout : queue.filter (· != p) = queue := List.filter_eq_self.2 fun q hq => by
    rw [bne_iff_ne]
    rintro rfl
    exact hfree ((h.names q).1 hq)
  exact hout ▸ h.toTail hother hp

end QueueFits

/-! ### The moves of the collection -/

/-- A collection agrees with new days where each entry does. -/
theorem Collection.Fits.of_entries {days days' : Nat → Option DaySet} {c : Collection} (h : c.Fits days)
    (hentry : ∀ e ∈ c.entries, e.Fits days → e.Fits days') : c.Fits days' :=
  ⟨h.tag, h.filled, h.room, h.once, fun e he => hentry e he (h.entries e he)⟩

/-- An entry of another pass than the one whose days change. -/
theorem CollectionEntry.Fits.of_eq {days days' : Nat → Option DaySet} {e : CollectionEntry} (h : e.Fits days)
    (heq : days' e.pass = days e.pass) : e.Fits days' := by
  rwa [CollectionEntry.Fits, heq]

/-- The entry of a pass is void, whatever days the pass still has (R119, R136). -/
theorem Collection.Fits.voidEntry {days days' : Nat → Option DaySet} {c : Collection} (h : c.Fits days) {p : Nat}
    (hother : ∀ q, q ≠ p → days' q = days q) (hp : (days' p).isSome = true) : (c.voidEntry p).Fits days' := by
  have hpasses : (c.voidEntry p).entries.map (·.pass) = c.entries.map (·.pass) := by
    rw [Collection.voidEntry, List.map_map]
    exact List.map_congr_left fun e _ => by simp only [Function.comp_apply]; split <;> rfl
  have hlength : (c.voidEntry p).entries.length = c.entries.length := List.length_map ..
  refine ⟨h.tag, hlength ▸ h.filled, hlength ▸ h.room, hpasses ▸ h.once, fun e he => ?_⟩
  obtain ⟨x, hx, rfl⟩ := List.mem_map.1 he
  by_cases hxp : x.pass = p
  · obtain ⟨ds, hds⟩ := Option.isSome_iff_exists.1 hp
    exact ⟨ds, by rw [if_pos hxp, hxp, hds], by simp [hxp]⟩
  · rw [if_neg hxp]
    exact (h.entries x hx).of_eq (hother _ hxp)

namespace UsageFits

variable {days days' : Nat → Option DaySet} {u : Usage} {p : Nat}

/-- The collection closes (R138 to R140). -/
theorem close (h : UsageFits days u) : UsageFits days { u with collection := none } := ⟨h.queue, h.lastTag, nofun⟩

/-- A pass without unreported days comes, goes or is changed, that no entry of the collection names. -/
theorem idle (h : UsageFits days u) (hother : ∀ q, q ≠ p → days' q = days q) (hbefore : ¬ HasDays days p)
    (hafter : ¬ HasDays days' p) (hnamed : ∀ c ∈ u.collection, ∀ e ∈ c.entries, e.pass ≠ p) : UsageFits days' u where
  queue := h.queue.stay hother (by simp only [hbefore, hafter])
  lastTag := h.lastTag
  collection c hc := by
    obtain ⟨htag, hfits⟩ := h.collection c hc
    exact ⟨htag, hfits.of_entries fun e he hfit => hfit.of_eq (hother _ (hnamed c hc e he))⟩

/-- An entry's pass is resident, so none names a pass that is not (R133). -/
theorem not_named (h : UsageFits days u) (hp : days p = none) : ∀ c ∈ u.collection, ∀ e ∈ c.entries, e.pass ≠ p := by
  rintro c hc e he rfl
  obtain ⟨ds, hds, -⟩ := (h.collection c hc).2.entries e he
  simp [hp] at hds

/-- A pass gains unreported days, in the queue from then on (R87, R88). -/
theorem gain (h : UsageFits days u) {queue : List Nat} (hother : ∀ q, q ≠ p → days' q = days q)
    (hp : ∀ ds, days p = some ds → ∃ more, days' p = some (joinDays ds more)) (hqueue : QueueFits days' queue) :
    UsageFits days' { u with queue := queue } where
  queue := hqueue
  lastTag := h.lastTag
  collection c hc := by
    obtain ⟨htag, hfits⟩ := h.collection c hc
    refine ⟨htag, hfits.of_entries fun e _ hfit => ?_⟩
    by_cases he : e.pass = p
    · obtain ⟨ds, hds, hcarried⟩ := hfit
      obtain ⟨more, hmore⟩ := hp ds (he ▸ hds)
      exact ⟨_, he ▸ hmore, fun hvoid => ⟨(hcarried hvoid).1, withoutDays_joinDays (hcarried hvoid).2 more⟩⟩
    · exact hfit.of_eq (hother _ he)

/-- A pass is settled: it leaves the queue with no unreported days, and its entry is void (R119, R136). -/
theorem settle (h : UsageFits days u) (hother : ∀ q, q ≠ p → days' q = days q) (hp : days' p = some 0) :
    UsageFits days' { u with
      queue := u.queue.filter (· != p), collection := u.collection.map (Collection.voidEntry p) } where
  queue := h.queue.leave hother (by simp [HasDays, hp])
  lastTag := h.lastTag
  collection c hc := by
    obtain ⟨x, hx, rfl⟩ := Option.map_eq_some_iff.1 hc
    obtain ⟨htag, hfits⟩ := h.collection x hx
    exact ⟨htag, hfits.voidEntry hother (by simp [hp])⟩

end UsageFits

/-! ### The unreported days after each operation of the table -/

section Unreported

variable {t t' : Table} {p q : Nat} {f : PassRecord → PassRecord}

theorem Table.unreported_congr (h : t'.records = t.records) : t'.unreported = t.unreported := by
  funext p
  simp [unreported, find, h]

/-- A change of records one by one that keeps their passes and their unreported days. -/
theorem Table.unreported_mapRecords (hrecords : t'.records = t.records.map f) (hpass : ∀ r, (f r).pass = r.pass)
    (hdays : ∀ r, (f r).unreported = r.unreported) : t'.unreported = t.unreported := by
  funext p
  simp [unreported, find, hrecords, List.find?_map, Function.comp_def, hpass, hdays]

/-- A change of one record that keeps its unreported days. -/
theorem Table.unreported_update_of_eq (hpass : ∀ r, (f r).pass = r.pass) (hdays : ∀ r, (f r).unreported = r.unreported) :
    (t.update p f).unreported = t.unreported :=
  unreported_mapRecords rfl (fun r => by split <;> simp [hpass]) fun r => by split <;> simp [hdays]

theorem Table.unreported_update_same {r : PassRecord} (hpass : ∀ r, (f r).pass = r.pass) (hr : t.find p = some r) :
    (t.update p f).unreported p = some (f r).unreported := unreported_of_find (find_update_same hpass hr)

theorem Table.unreported_update_ne (hpass : ∀ r, (f r).pass = r.pass) (h : q ≠ p) :
    (t.update p f).unreported q = t.unreported q := by
  rw [unreported, find_update_ne hpass h, unreported]

theorem Table.unreported_remove : (t.remove p).unreported q = if q = p then none else t.unreported q := by
  rw [unreported, find_remove]
  split <;> rfl

theorem Table.unreported_create {r : PassRecord} (h : t.find r.pass = none) :
    (t.create r).unreported q = if q = r.pass then some r.unreported else t.unreported q := by
  rw [unreported, find_create q h]
  split <;> rfl

end Unreported

end Sys2Proof.Machine

namespace Sys2Proof.Machine

/-! ### The commands beside usage reporting -/

namespace State

variable (s : State)

theorem lineEvent_settlement (f : State → State) : (s.lineEvent f).settlement = (f s).settlement := (lineEvent_frame s f).2.2.1

@[simp] theorem usage_enterDropping (why : DropReason) : (s.enterDropping why).settlement.usage = s.settlement.usage := rfl

@[simp] theorem usage_lineReadyLow : s.lineReadyLow.settlement.usage = s.settlement.usage := by
  unfold lineReadyLow
  (repeat' split) <;> simp

@[simp] theorem usage_reachHeld (p n : Nat) (o : Origin) : (s.reachHeld p o n).settlement.usage = s.settlement.usage := rfl

@[simp] theorem usage_pendingToHeld (p : Nat) : (s.pendingToHeld p).settlement.usage = s.settlement.usage := by
  unfold pendingToHeld
  (repeat' split) <;> simp

@[simp] theorem usage_placeHold (o : Origin) (p : Nat) : (s.placeHold o p).settlement.usage = s.settlement.usage := by
  unfold placeHold
  dsimp only
  (repeat' split) <;> simp [Settlement.usage, reachHeld]

@[simp] theorem usage_lapse (e : HoldEntry) : (s.lapse e).settlement.usage = s.settlement.usage := rfl

@[simp] theorem usage_abortEvent (o : Origin) : (s.abortEvent o).settlement.usage = s.settlement.usage := by
  unfold abortEvent
  (repeat' split) <;> simp [Settlement.usage]

@[simp] theorem usage_writeControl (w : Word) : (s.writeControl w).settlement.usage = s.settlement.usage := by
  unfold writeControl
  dsimp only
  (repeat' split) <;> simp

@[simp] theorem usage_receive (r : Received) : (s.receive r).settlement.usage = s.settlement.usage := by
  unfold receive takeFrame
  (repeat' split) <;> simp

@[simp] theorem usage_withdrawRecord (l : LaneNo) (a : Admission) (r : PassRecord) :
    (s.withdrawRecord l a r).settlement.usage = s.settlement.usage := by
  simp [withdrawRecord]

theorem usage_tableClaim {o : Origin} {k : State → State} (hk : (k (s.serve o)).settlement.usage = s.settlement.usage) :
    (s.tableClaim o k).settlement.usage = s.settlement.usage := by
  unfold tableClaim
  split
  · exact hk
  · rfl

theorem usage_tableBegin {o : Origin} {k : State → State} (hk : (k s).settlement.usage = s.settlement.usage) :
    (s.tableBegin o k).settlement.usage = s.settlement.usage := by
  unfold tableBegin
  split
  · exact hk
  · rfl

theorem usage_heldByMe {o : Origin} {p : Nat} {k : PassRecord → State → State}
    (hk : ∀ r, (k r s).settlement.usage = s.settlement.usage) : (s.heldByMe o p k).settlement.usage = s.settlement.usage := by
  unfold heldByMe
  (repeat' split) <;> simp [hk]

end State

end Sys2Proof.Machine

namespace Sys2Proof

open Machine State

/-- The commands that may reach the unreported days of a pass, the report queue or the collection. -/
def Instr.reachesUsage : Instr → Bool
  | .coldReset .. | .warmReset .. | .commitClaim .. | .clearStep | .passInsert .. | .passDrop .. | .refundSettle ..
  | .usageCollect .. | .usageConfirm .. | .collectionVoid => true
  | _ => false

/-- Every other command leaves the report queue and the collection. -/
theorem exec_usage {i : Instr} (hi : i.reachesUsage = false) {s t : State} (h : exec i s = .next t) :
    t.settlement.usage = s.settlement.usage := by
  cases i <;> injection h with h <;> subst h
  case coldReset | warmReset | commitClaim | clearStep | passInsert | passDrop | refundSettle | usageCollect | usageConfirm
      | collectionVoid => exact nomatch hi
  case ignoredWrite => rfl
  -- one shared operation
  case intervalClose | presence | presentation | outputWindow | frameSent | request | outputTaken | abort | errorClear
      | requestFrame | broadcast | abortFrame | frameDiscarded | broadcastAbort => simp
  -- the same, where the event can occur
  case operatingSecondAdvance | rollover | readerSilence | passageWindowExpiry | passingLimitExpiry | missWaitExpiry | toneEnd
      | lampBlink | beamSettle | beamBreak | beamRestore | shortTransfer | badCommandByte | lineDropAtLanes
      | discardedReaderMessage | pacingStart | pacingEnd | tallyEvent => split <;> simp
  case lapseTimerExpiry => split <;> rfl
  -- requests that are no table requests, and the decoder
  case clockRead | holdListRead | linkStatus | readyCheck | profileRead | conditionRead | markWarm | laneOpen | laneClose
      | laneReset | laneStatus | tallyProgram | tallyRead | tallyClear | historyRead | profileSet | watchSet | noticePlacement
      | missNoticeRemoval => (repeat' split) <;> simp
  case clockSet | requestWindow =>
    dsimp only
    (repeat' split) <;> simp
  -- claims of lanes, of the settlement unit and of the table engine itself
  case withdrawClaim l =>
    split
    · rw [endingClaim_eq, (runLane_frame ..).2.2.1]
      unfold endPart
      (repeat' split) <;> simp
    · rfl
  case lapseClaim =>
    dsimp only
    (repeat' split) <;> rfl
  case decisionClaim | sweepStep => (repeat' split) <;> simp
  -- table requests, which act at their turn
  case passRead | tableSize | tableClear | revokeRead | refundHold =>
    split
    · refine usage_tableClaim s ?_
      (repeat' split) <;> simp
    · rfl
  case revokeLoad =>
    split
    · split
      · exact usage_tableClaim s (by simp)
      · rfl
    · (repeat' split) <;> simp
  case refundRelease =>
    split
    · refine usage_tableClaim s ?_
      split
      · simp
      · exact (usage_heldByMe _ fun r => by simp [Settlement.dropHold, Settlement.usage]).trans (by simp)
    · rfl
  case passFind | dayMerge =>
    split
    · refine usage_tableBegin s ?_
      (repeat' split) <;> simp
    · rfl
  case passFindStep | dayMergeEntry =>
    dsimp only
    (repeat' split) <;> simp
  -- events at the line control machine
  case startTimerExpiry | fadeTimerExpiry | dropShortExpiry | dropLongExpiry => split <;> simp [lineEvent_settlement]
  case lineReady | carrier | clearToSend =>
    dsimp only
    (repeat' split) <;> simp [lineEvent_settlement]
  case linkOpen | linkClose => (repeat' split) <;> simp [lineEvent_settlement]

end Sys2Proof

namespace Sys2Proof.Machine

namespace State

variable (s : State)

@[simp] theorem abortEvent_records (o : Origin) : (s.abortEvent o).table.records = s.table.records := by
  unfold abortEvent
  (repeat' split) <;> simp

@[simp] theorem writeControl_records (w : Word) : (s.writeControl w).table.records = s.table.records := by
  unfold writeControl
  dsimp only
  (repeat' split) <;> simp

@[simp] theorem receive_records (r : Received) : (s.receive r).table.records = s.table.records := by
  unfold receive takeFrame
  (repeat' split) <;> simp

@[simp] theorem refusePass_records (l : LaneNo) (p : Nat) (r : Reason) :
    (s.refusePass l p r).table.records = s.table.records := by
  unfold refusePass
  dsimp only
  rw [(runLane_frame ..).2.1, handEvents_table]
  split <;> rfl

@[simp] theorem unreported_admitPass (l : LaneNo) (p : Nat) (c : Bool) (r : PassRecord) :
    (s.admitPass l p c r).table.unreported = s.table.unreported := by
  rw [admitPass_table]
  exact Table.unreported_update_of_eq (f := fun r => { r with inFlight := some l }) (fun _ => rfl) fun _ => rfl

@[simp] theorem unreported_reachHeld (p n : Nat) (o : Origin) :
    (s.reachHeld p o n).table.unreported = s.table.unreported :=
  Table.unreported_update_of_eq (f := fun r => { r with state := .held, holdLapsed := false }) (fun _ => rfl) fun _ => rfl

@[simp] theorem unreported_pendingToHeld (p : Nat) : (s.pendingToHeld p).table.unreported = s.table.unreported := by
  unfold pendingToHeld
  (repeat' split) <;> simp

@[simp] theorem unreported_placeHold (o : Origin) (p : Nat) :
    (s.placeHold o p).table.unreported = s.table.unreported := by
  unfold placeHold
  dsimp only
  (repeat' split) <;> simp

@[simp] theorem unreported_lapse (e : HoldEntry) : (s.lapse e).table.unreported = s.table.unreported :=
  Table.unreported_update_of_eq (f := fun r => { r with state := s.table.listState e.pass, holdLapsed := true }) (fun _ => rfl)
    fun _ => rfl

@[simp] theorem unreported_sweepRecord (r : PassRecord) : (s.sweepRecord r).table.unreported = s.table.unreported :=
  Table.unreported_update_of_eq
    (f := fun x => { x with state := sweptState (s.table.listed r.pass) (s.settlement.pending r.pass) r.state }) (fun _ => rfl)
    fun _ => rfl

@[simp] theorem unreported_applyMerge (e : MergeEntry) : (s.applyMerge e).table.unreported = s.table.unreported := by
  unfold applyMerge
  split
  · rfl
  · exact Table.unreported_update_of_eq (f := PassRecord.merge (mergeDays e.days)) (fun _ => rfl) fun _ => rfl

@[simp] theorem unreported_withdrawRecord (l : LaneNo) (a : Admission) (r : PassRecord) :
    (s.withdrawRecord l a r).table.unreported = s.table.unreported := by
  simp only [withdrawRecord, answerPending_frame, handEvents_table, unreported_pendingToHeld]
  exact Table.unreported_update_of_eq (f := fun r => { r with inFlight := none }) (fun _ => rfl) fun _ => rfl

@[simp] theorem unreported_serve (o : Origin) : (s.serve o).table.unreported = s.table.unreported :=
  Table.unreported_congr (by simp)

@[simp] theorem unreported_submitClaim (o : Origin) : (s.submitClaim o).table.unreported = s.table.unreported :=
  Table.unreported_congr (by simp)

theorem unreported_tableClaim {o : Origin} {k : State → State}
    (hk : (k (s.serve o)).table.unreported = s.table.unreported) : (s.tableClaim o k).table.unreported = s.table.unreported := by
  unfold tableClaim
  split
  · exact hk
  · rfl

theorem unreported_heldByMe {o : Origin} {p : Nat} {k : PassRecord → State → State}
    (hk : ∀ r, (k r s).table.unreported = s.table.unreported) : (s.heldByMe o p k).table.unreported = s.table.unreported := by
  unfold heldByMe
  (repeat' split) <;> simp [hk]

end State

end Sys2Proof.Machine

namespace Sys2Proof

open Machine State

/-- Every command that does not reach usage reporting leaves the unreported days of every pass. -/
theorem exec_unreported {i : Instr} (hi : i.reachesUsage = false) {s t : State} (h : exec i s = .next t) :
    t.table.unreported = s.table.unreported := by
  cases hholds : i.reachesHolds with
  | false => exact Table.unreported_congr (exec_holdsAside hholds h).records
  | true =>
    cases i with
    | coldReset | warmReset | commitClaim | clearStep | passInsert | passDrop | refundSettle | usageConfirm => exact nomatch hi
    | request | abort | outputTaken | errorClear | requestFrame | broadcast | abortFrame | frameDiscarded | broadcastAbort =>
      injection h with h
      subst h
      exact Table.unreported_congr (by simp)
    | decisionClaim l =>
      injection h with h
      subst h
      split
      · split
        · unfold actOn
          split
          · split
            · exact unreported_admitPass ..
            · rfl
          · exact Table.unreported_congr (refusePass_records ..)
          · exact Table.unreported_congr (by simp; rfl)
        · rfl
      · rfl
    | withdrawClaim l =>
      injection h with h
      subst h
      split
      · rw [endingClaim_eq, (runLane_frame ..).2.1]
        unfold endPart
        split
        · split
          · exact unreported_withdrawRecord ..
          · rfl
        · rfl
      · rfl
    | lapseClaim =>
      injection h with h
      subst h
      dsimp only
      (repeat' split) <;> simp
    | sweepStep =>
      injection h with h
      subst h
      split
      · split
        · exact unreported_sweepRecord ..
        · exact Table.unreported_congr (sweepEnd_records s)
      · rfl
    | dayMergeEntry o =>
      injection h with h
      subst h
      dsimp only
      (repeat' split) <;> simp
    | refundHold o =>
      injection h with h
      subst h
      split
      · exact unreported_tableClaim s (by simp)
      · rfl
    | refundRelease o =>
      injection h with h
      subst h
      split
      · refine unreported_tableClaim s ?_
        split
        · simp
        · rename_i p _ _
          refine (unreported_heldByMe _ fun r => ?_).trans (unreported_serve s o)
          rw [(complete_frame ..).2.1]
          exact Table.unreported_update_of_eq (f := fun r => { r with state := (s.serve o).table.listState p }) (fun _ => rfl)
            fun _ => rfl
      · rfl
    | _ => exact nomatch hholds

end Sys2Proof

namespace Sys2Proof.Machine

open State

/-! ### Sets of days -/

theorem withoutDays_self (a : DaySet) : withoutDays a a = 0 := BitVec.and_not_self a

theorem joinDays_ne_zero_left {a : DaySet} (h : a ≠ 0) (b : DaySet) : joinDays a b ≠ 0 := fun hj =>
  h (BitVec.or_eq_zero_iff.1 hj).1

theorem joinDays_ne_zero_right {b : DaySet} (h : b ≠ 0) (a : DaySet) : joinDays a b ≠ 0 := fun hj =>
  h (BitVec.or_eq_zero_iff.1 hj).2

/-- A day of the season is a day of its set (R29). -/
theorem oneDay_ne_zero {d : Nat} (h : d ≤ 239) : oneDay d ≠ 0 := fun hz => by
  have hbit : (oneDay d).getLsbD d = true := by simp [oneDay]; omega
  simp [hz] at hbit

theorem hasDays_iff {days : Nat → Option DaySet} {p : Nat} {ds : DaySet} (h : days p = some ds) :
    HasDays days p ↔ ds ≠ 0 := by
  simp [HasDays, h]

theorem not_hasDays_of_none {days : Nat → Option DaySet} {p : Nat} (h : days p = none) : ¬ HasDays days p := by
  simp [HasDays, h]

/-- A pass that the collection does not name (R10). -/
theorem Settlement.not_collected {u : Settlement} {p : Nat} (h : u.collected p = false) :
    ∀ c ∈ u.usage.collection, ∀ e ∈ c.entries, e.pass ≠ p := by
  intro c hc e he
  have hopen : u.collection = some c := hc
  simp only [collected, hopen, List.any_eq_false, beq_iff_eq] at h
  exact h e he

/-- The tags of collections are 1 to 255 (R135). -/
theorem nextTag_range {n : Nat} : 1 ≤ nextTag n ∧ nextTag n ≤ 255 := by
  unfold nextTag
  split <;> omega

/-- An entry of a confirm leaves in the queue exactly the passes that still have unreported days (R131, R138). -/
theorem Confirming.entry_queueFits {c : Confirming} (h : QueueFits c.table.unreported c.queue) (e : CollectionEntry) :
    QueueFits (c.entry e).table.unreported (c.entry e).queue := by
  unfold Confirming.entry
  split
  · exact h
  · split
    · exact h
    · rename_i r hr
      have hafter : (c.table.update e.pass (PassRecord.reported e.carried)).unreported e.pass
          = some (withoutDays r.unreported e.carried) := Table.unreported_update_same (fun _ => rfl) hr
      have hother (q : Nat) (hq : q ≠ e.pass) : (c.table.update e.pass (PassRecord.reported e.carried)).unreported q
          = c.table.unreported q := Table.unreported_update_ne (fun _ => rfl) hq
      dsimp only
      split
      · exact h.leave hother (by simp [hasDays_iff hafter, *])
      · exact h.toTail hother ((hasDays_iff hafter).2 ‹_›)

namespace State.UsageAgrees

variable {s t u : State}

/-- A change beside usage reporting. -/
theorem aside (hs : s.UsageAgrees) (hdays : t.table.unreported = s.table.unreported)
    (husage : t.settlement.usage = s.settlement.usage) : t.UsageAgrees := by
  rwa [UsageAgrees, hdays, husage]

theorem ite {c : Prop} [Decidable c] {a b : State} (ha : c → a.UsageAgrees) (hb : ¬ c → b.UsageAgrees) :
    (if c then a else b).UsageAgrees := by
  split
  · exact ha ‹_›
  · exact hb ‹_›

theorem complete (hs : s.UsageAgrees) (o : Origin) (d : List Byte) : (s.complete o d).UsageAgrees :=
  hs.aside (by simp) (by simp)

theorem fail (hs : s.UsageAgrees) (o : Origin) (c : ConditionCode) (p : Option Nat) (f : Option FieldRef) :
    (s.fail o c p f).UsageAgrees := hs.aside (by simp) (by simp)

theorem busy (hs : s.UsageAgrees) (o : Origin) : (s.busy o).UsageAgrees := hs.aside (by simp) (by simp)

theorem serve (hs : s.UsageAgrees) (o : Origin) : (s.serve o).UsageAgrees := hs.aside (by simp) (by simp)

/-- A request of one claim at the table, by what it does at its turn. -/
theorem tableClaim (hs : s.UsageAgrees) {o : Origin} {k : State → State}
    (hk : (s.serve o).UsageAgrees → (k (s.serve o)).UsageAgrees) : (s.tableClaim o k).UsageAgrees :=
  .ite (fun _ => hk (hs.serve o)) fun _ => hs

/-- A record without unreported days that the collection does not name leaves the table (R10, R18). -/
theorem remove (hs : s.UsageAgrees) {p : Nat} {r : PassRecord} (hr : s.record p = some r) (hdays : r.unreported = 0)
    (hnamed : s.settlement.collected p = false) : (s.updTable (Table.remove p)).UsageAgrees := by
  refine UsageFits.idle hs (p := p) (fun q hq => ?_) ?_ (not_hasDays_of_none ?_) (Settlement.not_collected hnamed)
  · exact Table.unreported_remove.trans (if_neg hq)
  · simp [hasDays_iff (Table.unreported_of_find hr), hdays]
  · exact Table.unreported_remove.trans (if_pos rfl)

/-- A new record has no unreported days (R15). -/
theorem create (hs : s.UsageAgrees) {r : PassRecord} (hnew : s.record r.pass = none) (hdays : r.unreported = 0) :
    (s.updTable (Table.create r)).UsageAgrees := by
  have hnone : s.table.unreported r.pass = none := by
    have hnew' : s.table.find r.pass = none := hnew
    simp [Table.unreported, hnew']
  refine UsageFits.idle hs (p := r.pass) (fun q hq => ?_) (not_hasDays_of_none hnone) ?_ (hs.not_named hnone)
  · exact (Table.unreported_create hnew).trans (if_neg hq)
  · have hsome : (s.table.create r).unreported r.pass = some r.unreported := (Table.unreported_create hnew).trans (if_pos rfl)
    exact fun h => (hasDays_iff hsome).1 h hdays

/-! ### Requests of the pass table -/

theorem insertNew (hs : s.UsageAgrees) (o : Origin) {a : InsertArgs} (hnew : s.record a.pass = none) :
    (s.insertNew o a).UsageAgrees := by
  have hcreate (ev : Option Nat) {u : State} (hu : u.UsageAgrees) (hfree : u.record a.pass = none) :
      (u.createPass o a ev).UsageAgrees :=
    (hu.create (r := a.newRecord (u.table.listState a.pass)) hfree rfl).aside (by simp [createPass]) (by simp)
  unfold State.insertNew
  split
  · exact hcreate none hs hnew
  · split
    · rename_i p hp
      obtain ⟨r, hr, hev⟩ := evictee_some hp
      obtain ⟨⟨-, hdays⟩, hnamed⟩ : (_ ∧ r.unreported = 0) ∧ s.settlement.collected p = false := by
        simpa [evictable, Table.find_pass hr] using hev
      refine hcreate (some p) (hs.remove hr hdays hnamed) ?_
      exact (Table.find_remove s.table p a.pass).trans (by simp [show s.table.find a.pass = none from hnew])
    · exact hs.aside (by simp) (by simp)

theorem insertOver (hs : s.UsageAgrees) (o : Origin) (a : InsertArgs) (r : PassRecord) : (s.insertOver o a r).UsageAgrees := by
  have hreplaced : ((s.updRecord a.pass a.replace).updTable (Table.toHead a.pass)).UsageAgrees :=
    hs.aside (Table.unreported_update_of_eq (t := s.table) (f := a.replace) (fun _ => rfl) fun _ => rfl) rfl
  unfold State.insertOver
  refine .ite (fun _ => hs.busy o) fun _ => ?_
  split
  · exact .ite (fun _ => hs.fail ..) fun _ => hs.fail ..
  · exact hs.fail ..
  iterate 2 exact hreplaced.complete ..

theorem passInsert (hs : s.UsageAgrees) {o : Origin} (h : execPassInsert o s = .next t) : t.UsageAgrees := by
  injection h with h
  subst h
  split
  · refine hs.tableClaim fun hs => ?_
    split
    · exact hs.fail ..
    · split
      · exact hs.insertNew o ‹_›
      · exact hs.insertOver o ..
  · exact hs

theorem passDrop (hs : s.UsageAgrees) {o : Origin} (h : execPassDrop o s = .next t) : t.UsageAgrees := by
  injection h with h
  subst h
  split
  · refine hs.tableClaim fun hs => .ite (fun _ => hs.fail ..) fun _ => ?_
    split
    · exact hs.fail ..
    · rename_i r hr
      refine .ite (fun _ => hs.busy o) fun _ => .ite (fun _ => .ite (fun _ => hs.fail ..) fun _ => hs.fail ..) fun _ =>
        .ite (fun _ => hs.fail ..) fun hdays => .ite (fun _ => hs.fail ..) fun hnamed => ?_
      exact (hs.remove hr (not_not.1 hdays) (by simpa using hnamed)).complete ..
  · exact hs

/-- While a TABLE CLEAR runs nothing is unreported and nothing collected, so its step removes a record that neither names (R23). -/
theorem clearStep (hs : s.UsageAgrees) (hclear : s.ClearOk) (h : execClearStep s = .next t) : t.UsageAgrees := by
  injection h with h
  subst h
  split
  · exact hs
  · rename_i c hc
    obtain ⟨-, -, hqueue, hcoll⟩ := hclear (by simp [clearing, hc])
    refine .ite (fun _ => ?_) fun _ => hs
    split
    · rename_i r _ _
      refine UsageFits.idle hs (p := r.pass) (fun q hq => ?_) (fun hdays => ?_) (not_hasDays_of_none ?_) ?_
      · exact Table.unreported_remove.trans (if_neg hq)
      · have hmem := (hs.queue.names r.pass).2 hdays
        simp [Settlement.usage, hqueue] at hmem
      · exact Table.unreported_remove.trans (if_pos rfl)
      · have hclosed : (s.clearRecord c r.pass).settlement.usage.collection = none := hcoll
        simp [hclosed]
    · have hended : (s.updTable fun t => { t with clear := none }).UsageAgrees := hs.aside rfl rfl
      exact .ite (fun _ => hended) fun _ => hended.complete ..

/-! ### The resets -/

theorem coldReset {eight spi : Bool} (h : execColdReset eight spi s = .next t) : t.UsageAgrees := by
  injection h with h
  subst h
  have hsound := resetIsSound eight spi s.link.lineReady s.link.carrier s.link.clearToSend s.pending
  exact (usageAgrees_iff hsound.index).2 ⟨hsound.queue, hsound.collection⟩

/-- A warm reset keeps the unreported days and the report queue, and closes the collection (R27, R146). -/
theorem warmReset (hs : s.UsageAgrees) {eight spi : Bool} (h : execWarmReset eight spi s = .next t) : t.UsageAgrees := by
  obtain ⟨-, -, htable, hsettle, -⟩ := warmReset_blocks h
  have hdays : (s.table.warm s.settlement).unreported = s.table.unreported :=
    Table.unreported_mapRecords (f := fun r => r.warm (s.settlement.pending r.pass)) rfl (fun _ => rfl) fun _ => rfl
  rw [UsageAgrees, htable, hsettle, hdays]
  exact hs.close

/-! ### Commits and settlements -/

/-- A commit adds its day to the unreported days where it consumes it, and then queues a pass that had none (R87, R88). -/
theorem commitRecord (hs : s.UsageAgrees) {l : LaneNo} {a : Admission} {r : PassRecord} (hr : s.record a.pass = some r)
    (hday : a.day ≤ 239) : (s.commitRecord l a r).UsageAgrees := by
  have hbefore : s.table.unreported a.pass = some r.unreported := Table.unreported_of_find hr
  have hafter : (s.table.update a.pass (PassRecord.commit l s.stamp a)).unreported a.pass
      = some (if consumesDay a r then joinDays r.unreported (oneDay a.day) else r.unreported) :=
    Table.unreported_update_same (fun _ => rfl) hr
  have hother (q : Nat) (hq : q ≠ a.pass) : (s.table.update a.pass (PassRecord.commit l s.stamp a)).unreported q
      = s.table.unreported q := Table.unreported_update_ne (fun _ => rfl) hq
  have hqueue : QueueFits (s.table.update a.pass (PassRecord.commit l s.stamp a)).unreported
      (queueAfterCommit a r s.settlement.queue) := by
    unfold queueAfterCommit
    split
    · rename_i hnew
      rw [Table.find_pass hr]
      refine hs.queue.join hother (by simp [hasDays_iff hbefore, hnew.2]) ?_
      rw [hasDays_iff hafter, if_pos hnew.1]
      exact joinDays_ne_zero_right (oneDay_ne_zero hday) _
    · rename_i hold
      refine hs.queue.stay hother ?_
      rw [hasDays_iff hafter, hasDays_iff hbefore]
      split
      · have hdays : r.unreported ≠ 0 := fun hz => hold ⟨‹_›, hz⟩
        exact iff_of_true (joinDays_ne_zero_left hdays _) hdays
      · rfl
  have hgained : UsageFits (s.table.update a.pass (PassRecord.commit l s.stamp a)).unreported
      { s.settlement.usage with queue := queueAfterCommit a r s.settlement.queue } := by
    refine UsageFits.gain hs hother (fun ds hds => ?_) hqueue
    obtain rfl : r.unreported = ds := Option.some.inj (hbefore.symm.trans hds)
    refine ⟨if consumesDay a r then oneDay a.day else 0, hafter.trans ?_⟩
    split <;> simp [joinDays]
  have hcommitted : (((s.updRecord a.pass (PassRecord.commit l s.stamp a)).updTable (Table.toHead a.pass)).updSettlement
      fun u => { u with queue := queueAfterCommit a r u.queue }).UsageAgrees := hgained
  exact hcommitted.aside (by simp [State.commitRecord]) (by simp [State.commitRecord])

theorem commitClaim (hs : s.UsageAgrees) (hflight : s.FlightOk) {l : LaneNo} (h : execCommitClaim l s = .next t) :
    t.UsageAgrees := by
  have hserve : (s.serveLane l).UsageAgrees := hs.aside rfl rfl
  have hpart : ((s.serveLane l).endPart l fun a r s => s.commitRecord l a r).UsageAgrees := by
    unfold endPart
    split
    · rename_i a ha
      split
      · exact hserve.commitRecord ‹_› (hflight.2 l a ha).2
      · exact hserve
    · exact hserve
  injection h with h
  subst h
  refine .ite (fun _ => ?_) fun _ => hs
  rw [endingClaim_eq]
  exact hpart.aside (by simp) (by simp)

theorem settleHeld (hs : s.UsageAgrees) (o : Origin) {p : Nat} (n : Nat) {r : PassRecord} (hr : s.record p = some r) :
    (s.settleHeld o p n r).UsageAgrees := by
  have hsettled : ((s.updRecord p fun r => { r with state := .settled, unreported := 0 }).updSettlement
      (Settlement.settle p)).UsageAgrees :=
    UsageFits.settle hs (fun q hq => Table.unreported_update_ne (t := s.table) (fun _ => rfl) hq)
      (Table.unreported_update_same (t := s.table) (fun _ => rfl) hr)
  exact .ite (fun _ => hs.fail ..) fun _ => .ite (fun _ => hs.fail ..) fun _ => hsettled.aside (by simp) (by simp)

theorem refundSettle (hs : s.UsageAgrees) {o : Origin} (h : execRefundSettle o s = .next t) : t.UsageAgrees := by
  injection h with h
  subst h
  split
  · refine hs.tableClaim fun hs => .ite (fun _ => hs.fail ..) fun _ => .ite (fun _ => hs.fail ..) fun _ => ?_
    unfold heldByMe
    split
    · exact hs.fail ..
    · split
      · refine .ite (fun _ => hs.fail ..) fun _ => ?_
        split
        · exact hs.busy o
        · exact hs.settleHeld o _ ‹_›
      · exact .ite (fun _ => hs.fail ..) fun _ => .ite (fun _ => hs.fail ..) fun _ =>
          .ite (fun _ => hs.fail ..) fun _ => hs.fail ..
  · exact hs

/-! ### Collections -/

/-- The passes of a USAGE COLLECT are the first of the report queue (R135). -/
theorem collectable_passes (hs : s.UsageAgrees) (count : Nat) :
    (s.collectable count).map (·.pass) = s.settlement.queue.take (if count = 0 then 64 else count) := by
  have hfilter (qs : List Nat) (hqs : ∀ p ∈ qs, p ∈ s.settlement.queue) : (qs.filterMap s.record).map (·.pass) = qs := by
    induction qs with
    | nil => rfl
    | cons p qs ih =>
      obtain ⟨ds, hds, -⟩ := (hs.queue.names p).1 (hqs p (by simp))
      obtain ⟨r, hr, -⟩ := Table.unreported_eq_some_iff.1 hds
      have hr' : s.record p = some r := hr
      rw [List.filterMap_cons, hr', List.map_cons, ih fun q hq => hqs q (by simp [hq]), Table.find_pass hr]
  exact hfilter _ fun p hp => List.mem_of_mem_take hp

/-- A collection as it opens (R133, R135). -/
theorem opened_fits (hs : s.UsageAgrees) {count tag : Nat} (hcount : count ≤ 64) (htag : 1 ≤ tag)
    (hqueue : s.settlement.queue ≠ []) :
    (Collection.of tag (s.collectable count)).Fits s.table.unreported := by
  have hpasses : (Collection.of tag (s.collectable count)).entries.map (·.pass)
      = s.settlement.queue.take (if count = 0 then 64 else count) := by
    rw [← hs.collectable_passes count, Collection.of, List.map_map]
    rfl
  have hlength : (Collection.of tag (s.collectable count)).entries.length
      = min (if count = 0 then 64 else count) s.settlement.queue.length := by
    rw [← List.length_take, ← hpasses, List.length_map]
  have hpos := List.length_pos_iff.2 hqueue
  refine ⟨htag, by split at hlength <;> omega, by split at hlength <;> omega,
    hpasses ▸ hs.queue.once.sublist (List.take_sublist ..), fun e he => ?_⟩
  obtain ⟨r, hr, rfl⟩ := List.mem_map.1 he
  obtain ⟨p, hp, hfind⟩ := List.mem_filterMap.1 hr
  obtain rfl : r.pass = p := Table.find_pass hfind
  have hdays := Table.unreported_of_find hfind
  have hsome := (hasDays_iff hdays).1 ((hs.queue.names r.pass).1 (List.mem_of_mem_take hp))
  exact ⟨_, hdays, fun _ => ⟨hsome, withoutDays_self _⟩⟩

theorem collect (hs : s.UsageAgrees) (o : Origin) (count : Nat) : (s.collect o count).UsageAgrees := by
  refine .ite (fun _ => hs.fail ..) fun hcount => .ite (fun _ => hs.fail ..) fun _ => .ite (fun _ => hs.fail ..) fun _ =>
    .ite (fun _ => hs.complete ..) fun hqueue => ?_
  obtain ⟨hlow, hhigh⟩ := nextTag_range (n := s.settlement.lastTag)
  have hopened : (s.updSettlement fun u => { u with
      collection := some (Collection.of (nextTag s.settlement.lastTag) (s.collectable count)),
      lastTag := nextTag s.settlement.lastTag }).UsageAgrees := by
    refine ⟨hs.queue, hhigh, fun c hc => ?_⟩
    obtain rfl := Option.some.inj hc
    exact ⟨rfl, hs.opened_fits (Nat.not_lt.1 hcount) hlow hqueue⟩
  exact hopened.complete ..

theorem usageCollect (hs : s.UsageAgrees) {o : Origin} (h : execUsageCollect o s = .next t) : t.UsageAgrees := by
  injection h with h
  subst h
  split
  · exact hs.tableClaim fun hs => hs.collect o _
  · exact hs

theorem confirmEntries_queueFits (hs : s.UsageAgrees) (es : List CollectionEntry) :
    QueueFits (s.confirmEntries es).table.unreported (s.confirmEntries es).queue := by
  have hfold (c : Confirming) (hc : QueueFits c.table.unreported c.queue) :
      QueueFits (es.foldl Confirming.entry c).table.unreported (es.foldl Confirming.entry c).queue := by
    induction es generalizing c with
    | nil => exact hc
    | cons e es ih => exact ih _ (Confirming.entry_queueFits hc e)
  exact hfold _ hs.queue

theorem usageConfirm (hs : s.UsageAgrees) {o : Origin} (h : execUsageConfirm o s = .next t) : t.UsageAgrees := by
  injection h with h
  subst h
  split
  · refine hs.tableClaim fun hs => ?_
    split
    · exact hs.fail ..
    · rename_i c _
      refine .ite (fun _ => hs.fail ..) fun _ => .ite (fun _ => ?_) fun _ => ?_
      · have hclosed : ((s.serve o).updSettlement fun u => { u with collection := none }).UsageAgrees := hs.close
        exact hclosed.complete ..
      · refine UsageAgrees.complete ?_ ..
        exact ⟨hs.confirmEntries_queueFits c.entries, hs.lastTag, nofun⟩
  · exact hs

theorem collectionVoid (hs : s.UsageAgrees) (h : execCollectionVoid s = .next t) : t.UsageAgrees := by
  injection h with h
  subst h
  exact .ite (fun _ => hs) fun _ => UsageFits.close hs

end State.UsageAgrees

/-! ### Every step -/

/-- Every command of a sound part keeps the report queue and the collection in agreement with the unreported days. -/
theorem exec_usageAgrees {i : Instr} {s t : State} (hsound : s.Sound) (h : exec i s = .next t) : t.UsageAgrees := by
  have hs : s.UsageAgrees := (usageAgrees_iff hsound.index).2 ⟨hsound.queue, hsound.collection⟩
  cases i with
  | coldReset => exact .coldReset h
  | warmReset => exact hs.warmReset h
  | commitClaim => exact hs.commitClaim hsound.flight h
  | clearStep => exact hs.clearStep hsound.clear h
  | passInsert => exact hs.passInsert h
  | passDrop => exact hs.passDrop h
  | refundSettle => exact hs.refundSettle h
  | usageCollect => exact hs.usageCollect h
  | usageConfirm => exact hs.usageConfirm h
  | collectionVoid => exact hs.collectionVoid h
  | _ => exact hs.aside (exec_unreported rfl h) (exec_usage rfl h)

/-- Every step of a sound part keeps the report queue exact and the open collection's carried days unreported. -/
theorem step_usage {s t : State} (hs : s.Sound) (h : step s = .next t) : t.QueueOk ∧ t.CollectionOk := by
  rw [← usageAgrees_iff ((step_keeps h).index hs.index)]
  unfold step at h
  split at h
  · injection h with h
    have hagrees := (usageAgrees_iff hs.index).2 ⟨hs.queue, hs.collection⟩
    have htick : (tick s).UsageAgrees :=
      .ite (fun _ => hagrees.aside rfl rfl) fun _ => .ite (fun _ => hagrees.aside rfl rfl) fun _ =>
        .ite (fun _ => hagrees.aside (by simp) (by simp)) fun _ => hagrees.aside (by simp) (by simp)
    exact h ▸ htick
  · rename_i rest _
    exact exec_usageAgrees (hs.pending rest) h

end Sys2Proof.Machine

namespace Sys2Proof

open Machine

/-- Settles O58: each command makes one of the moves that keep the queue exactly the passes with unreported days. -/
theorem theReportQueueIsExact : Obligations.TheReportQueueIsExact := fun _ _ hs h => (step_usage hs h).1

/-- Settles O60: days leave the unreported days of a pass only where the collection closes or its entry of the pass is void. -/
theorem carriedDaysStayUnreported : Obligations.CarriedDaysStayUnreported := fun _ _ hs h => (step_usage hs h).2

end Sys2Proof

/-! ## Collections opened

USAGE COLLECT at its turn: its tests in their order, an empty queue, a collection opened (R134, R135). -/

namespace Sys2Proof

open Machine Claims State

/-- USAGE COLLECT at its turn. -/
theorem execUsageCollect_at_turn {o : Origin} {count : Nat} {s : State} (h : HasClaim o (.usageCollect count) s) :
    exec (.usageCollect o) s = .next ((s.serve o).collect o count) := by
  obtain ⟨hwaits, hturn⟩ := h
  simp only [exec, execUsageCollect, hwaits, tableClaim_of_turn hturn]

section Collect

variable {o : Origin} {count : Nat} {s : State}

/-- A count above 64 fails (R134). -/
theorem collect_of_count (h : 64 < count) : s.collect o count = s.fail o .badArgument none (blockField 4) := if_pos h

variable (hcount : count ≤ 64)
include hcount

/-- One collection is open at a time (R134). -/
theorem collect_of_open (h : s.settlement.collection.isSome = true) :
    s.collect o count = s.fail o .collectionOpen none none := by
  rw [collect, if_neg (Nat.not_lt.2 hcount), if_pos h]

variable (hclosed : s.settlement.collection = none)
include hclosed

/-- A collection whose answer cannot be sent is not opened (R134). -/
theorem collect_of_unanswerable (h : (s.context o).inFlight.any (!·.answerable) = true) :
    s.collect o count = s.fail o .lineDown none none := by
  rw [collect, if_neg (Nat.not_lt.2 hcount), if_neg (by simp [hclosed]), if_pos h]

variable (hanswerable : (s.context o).inFlight.any (!·.answerable) = false)
include hanswerable

/-- With an empty queue there is nothing to collect (R135). -/
theorem collect_of_empty (h : s.settlement.queue = []) :
    s.collect o count = s.complete o (img1 0 ++ img2 0 ++ img2 0) := by
  rw [collect, if_neg (Nat.not_lt.2 hcount), if_neg (by simp [hclosed]), if_neg (by simp [hanswerable]), if_pos h]

/-- A collection opens on the first passes of the queue (R135). -/
theorem collect_opens (h : s.settlement.queue ≠ []) : s.collect o count =
    (s.updSettlement fun u => { u with
      collection := some (Collection.of (nextTag s.settlement.lastTag) (s.collectable count)),
      lastTag := nextTag s.settlement.lastTag }).complete o
        (img1 (nextTag s.settlement.lastTag) ++ img2 (s.collectable count).length ++ img2 s.settlement.queue.length
          ++ ((s.collectable count).map collectImage).flatten) := by
  rw [collect, if_neg (Nat.not_lt.2 hcount), if_neg (by simp [hclosed]), if_neg (by simp [hanswerable]), if_neg h]
  rfl

end Collect

/-- Settles O37, by the tests of USAGE COLLECT in their order. -/
theorem collectOpensACollection : Obligations.CollectOpensACollection := by
  intro o count s h
  have hsettlement : (s.serve o).settlement = s.settlement := serve_settlement s o
  rw [execUsageCollect_at_turn h]
  refine ⟨fun hmore => ?_, fun hcount => ⟨fun hopen => ?_, fun hclosed hmute => ?_, fun hclosed hanswerable =>
    ⟨fun hempty => ?_, fun hqueue rs tag hrs htag => ?_⟩⟩⟩
  · rw [collect_of_count hmore]
  · rw [collect_of_open (s := s.serve o) hcount (by rwa [hsettlement])]
  · rw [collect_of_unanswerable (s := s.serve o) hcount (by rwa [hsettlement]) hmute]
  · rw [collect_of_empty (s := s.serve o) hcount (by rwa [hsettlement]) hanswerable (by rwa [hsettlement])]
  · have hcollected : (s.serve o).collectable count = rs := by
      rw [hrs, collectable, hsettlement]
      exact List.filterMap_congr fun p _ => record_serve s o p
    have hnext : nextTag (s.serve o).settlement.lastTag = tag := by rw [htag, hsettlement, nextTag]
    rw [collect_opens (s := s.serve o) hcount (by rwa [hsettlement]) hanswerable (by rwa [hsettlement]), hcollected, hnext]
    rfl

end Sys2Proof

/-! ## Collections closed

USAGE CONFIRM at its turn: what a confirm leaves of the records and of the report queue, entry by entry; a discard; a voiding
(R137 to R140). -/

namespace Sys2Proof

namespace Machine.Confirming

/-- The entry's record is left with no unreported days. -/
def spends (c : Confirming) (e : CollectionEntry) : Bool :=
  (c.table.find e.pass).any fun r => withoutDays r.unreported e.carried == 0

/-- The entry's record is left with some unreported days. -/
def leavesSome (c : Confirming) (e : CollectionEntry) : Bool :=
  (c.table.find e.pass).any fun r => withoutDays r.unreported e.carried != 0

/-- A confirm of these entries, none of them void, brings c to d (R138). -/
structure Confirms (live : List CollectionEntry) (c d : Confirming) : Prop where
  record : ∀ e ∈ live, ∀ r, c.table.find e.pass = some r → d.table.find e.pass = some (r.reported e.carried)
  others : ∀ q, (∀ e ∈ live, e.pass ≠ q) → d.table.find q = c.table.find q
  recency : d.table.recency = c.table.recency
  queue : d.queue = c.queue.filter (fun q => live.all (·.pass != q)) ++ (live.filter c.leavesSome).map (·.pass)
  left : d.left = c.left + (live.filter c.spends).length
  moved : d.moved = c.moved + (live.filter c.leavesSome).length

variable {c d f : Confirming} {e : CollectionEntry} {live more : List CollectionEntry}

theorem Confirms.nil : Confirms [] c c := ⟨nofun, fun _ _ => rfl, rfl, by simp, rfl, rfl⟩

/-- One entry of a resident pass (R138). -/
theorem entry_confirms {r : PassRecord} (hvoid : e.void = false) (hr : c.table.find e.pass = some r) :
    Confirms [e] c (c.entry e) := by
  have hrecord : (c.table.update e.pass (PassRecord.reported e.carried)).find e.pass = some (r.reported e.carried) :=
    Table.find_update_same (fun _ => rfl) hr
  have hothers (q : Nat) (hq : e.pass ≠ q) : (c.table.update e.pass (PassRecord.reported e.carried)).find q = c.table.find q :=
    Table.find_update_ne (fun _ => rfl) hq.symm
  have hqueue : c.queue.filter (fun q => [e].all (·.pass != q)) = c.queue.filter (· != e.pass) :=
    List.filter_congr fun q _ => by simp [bne_comm]
  have hentry : c.entry e = if withoutDays r.unreported e.carried = 0 then
        { table := c.table.update e.pass (PassRecord.reported e.carried), queue := c.queue.filter (· != e.pass),
          left := c.left + 1, moved := c.moved }
      else
        { table := c.table.update e.pass (PassRecord.reported e.carried), queue := c.queue.filter (· != e.pass) ++ [e.pass],
          left := c.left, moved := c.moved + 1 } := by
    simp only [entry, hvoid, hr]
    rfl
  have hfound : ∀ x ∈ [e], ∀ y, c.table.find x.pass = some y →
      (c.table.update e.pass (PassRecord.reported e.carried)).find x.pass = some (y.reported x.carried) := by
    intro x hx y hy
    obtain rfl := List.mem_singleton.1 hx
    obtain rfl := Option.some.inj (hr.symm.trans hy)
    exact hrecord
  have hspends : c.spends e = (withoutDays r.unreported e.carried == 0) := by simp only [spends, hr, Option.any_some]
  have hleaves : c.leavesSome e = (withoutDays r.unreported e.carried != 0) := by simp only [leavesSome, hr, Option.any_some]
  rw [hentry]
  split
  · rename_i hzero
    rw [beq_iff_eq.2 hzero] at hspends
    rw [bne, beq_iff_eq.2 hzero] at hleaves
    exact ⟨hfound, fun q hq => hothers q (hq e (by simp)), rfl, by rw [hqueue]; simp [hleaves], by simp [hspends],
      by simp [hleaves]⟩
  · rename_i hsome
    rw [beq_eq_false_iff_ne.2 hsome] at hspends
    rw [bne_iff_ne.2 hsome] at hleaves
    exact ⟨hfound, fun q hq => hothers q (hq e (by simp)), rfl, by rw [hqueue]; simp [hleaves], by simp [hspends],
      by simp [hleaves]⟩

/-- One confirm after another, of other passes. -/
theorem Confirms.append (h₁ : Confirms live c d) (h₂ : Confirms more d f)
    (hapart : ∀ x ∈ live, ∀ y ∈ more, x.pass ≠ y.pass) : Confirms (live ++ more) c f := by
  have hkept (y) (hy : y ∈ more) : d.table.find y.pass = c.table.find y.pass :=
    h₁.others y.pass fun x hx => hapart x hx y hy
  have hspends : more.filter d.spends = more.filter c.spends :=
    List.filter_congr fun y hy => by rw [spends, spends, hkept y hy]
  have hleaves : more.filter d.leavesSome = more.filter c.leavesSome :=
    List.filter_congr fun y hy => by rw [leavesSome, leavesSome, hkept y hy]
  refine ⟨fun x hx r hr => ?_, fun q hq => ?_, h₂.recency.trans h₁.recency, ?_, ?_, ?_⟩
  · rcases List.mem_append.1 hx with hx | hx
    · exact (h₂.others x.pass fun y hy => (hapart x hx y hy).symm).trans (h₁.record x hx r hr)
    · exact h₂.record x hx r ((hkept x hx).trans hr)
  · exact (h₂.others q fun y hy => hq y (by simp [hy])).trans (h₁.others q fun x hx => hq x (by simp [hx]))
  · have hstays : ((live.filter c.leavesSome).map (·.pass)).filter (fun q => more.all (·.pass != q))
        = (live.filter c.leavesSome).map (·.pass) := by
      refine List.filter_eq_self.2 fun q hq => ?_
      obtain ⟨x, hx, rfl⟩ := List.mem_map.1 hq
      simpa using fun y hy => (hapart x (List.mem_filter.1 hx).1 y hy).symm
    rw [h₂.queue, h₁.queue, hleaves, List.filter_append, List.filter_filter, hstays, List.filter_append, List.map_append,
      List.append_assoc]
    congr 1
    exact List.filter_congr fun q _ => by rw [List.all_append, Bool.and_comm]
  · rw [h₂.left, h₁.left, hspends, List.filter_append, List.length_append, Nat.add_assoc]
  · rw [h₂.moved, h₁.moved, hleaves, List.filter_append, List.length_append, Nat.add_assoc]

/-- A confirm of a collection's entries: the void ones are passed over (R138). -/
theorem foldl_entry_confirms {es : List CollectionEntry} (honce : (es.map (·.pass)).Nodup)
    (hresident : ∀ e ∈ es.filter (fun e => !e.void), (c.table.find e.pass).isSome = true) :
    Confirms (es.filter fun e => !e.void) c (es.foldl entry c) := by
  induction es generalizing c with
  | nil => exact .nil
  | cons e es ih =>
    obtain ⟨hnew, honce⟩ := List.nodup_cons.1 honce
    rw [List.foldl_cons]
    cases hvoid : e.void with
    | true =>
      have hover : c.entry e = c := if_pos hvoid
      rw [hover, List.filter_cons_of_neg (by simp [hvoid])]
      exact ih honce fun x hx => hresident x (by simp_all)
    | false =>
      obtain ⟨r, hr⟩ := Option.isSome_iff_exists.1 (hresident e (by simp [hvoid]))
      have hfirst := entry_confirms hvoid hr
      have hapart (x) (hx : x ∈ es.filter fun e => !e.void) : e.pass ≠ x.pass := fun he =>
        hnew (List.mem_map.2 ⟨x, (List.mem_filter.1 hx).1, he.symm⟩)
      rw [List.filter_cons_of_pos (by simp [hvoid])]
      refine hfirst.append (ih honce fun x hx => ?_) (by simpa using hapart)
      rw [hfirst.others x.pass (by simpa using hapart x hx)]
      exact hresident x (by simp_all)

end Machine.Confirming

open Machine Claims State

/-- USAGE CONFIRM at its turn with no collection of its tag open (R137). -/
theorem execUsageConfirm_of_other {o : Origin} {tag : Nat} {discard : Bool} {s : State}
    (h : HasClaim o (.usageConfirm tag discard) s) (hother : s.settlement.collection.all (·.tag != tag) = true) :
    exec (.usageConfirm o) s = .next ((s.serve o).fail o .noCollection none none) := by
  obtain ⟨hwaits, hturn⟩ := h
  simp only [exec, execUsageConfirm, hwaits, tableClaim_of_turn hturn, serve_settlement]
  cases hcoll : s.settlement.collection with
  | none => rfl
  | some c =>
    have htag : c.tag ≠ tag := by simpa [hcoll] using hother
    simp only [if_pos htag]

/-- USAGE CONFIRM at its turn of the open collection's tag (R138, R139). -/
theorem execUsageConfirm_at_turn {o : Origin} {tag : Nat} {discard : Bool} {s : State} {c : Collection}
    (h : HasClaim o (.usageConfirm tag discard) s) (hcoll : s.settlement.collection = some c) (htag : c.tag = tag) :
    exec (.usageConfirm o) s = .next (if discard then (s.serve o).discard o c else (s.serve o).confirm o c) := by
  obtain ⟨hwaits, hturn⟩ := h
  simp only [exec, execUsageConfirm, hwaits, tableClaim_of_turn hturn, serve_settlement, hcoll, htag, ne_eq, not_true_eq_false,
    if_false]

/-- The part once a confirm of these entries is made and the collection closed (R138). -/
def confirmed (o : Origin) (es : List CollectionEntry) (s : State) : State :=
  ((s.serve o).updTable fun _ => ((s.serve o).confirmEntries es).table).updSettlement
    fun u => { u with queue := ((s.serve o).confirmEntries es).queue, collection := none }

theorem confirm_eq (o : Origin) (c : Collection) (s : State) : (s.serve o).confirm o c =
    (confirmed o c.entries s).complete o (confirmImage c.tag (c.entries.length - c.entries.countP (·.void))
      (c.entries.countP (·.void)) ((s.serve o).confirmEntries c.entries).left ((s.serve o).confirmEntries c.entries).moved
      (confirmed o c.entries s).settlement.queue.length) := rfl

/-- The numbers of entries confirmed and passed over, by the entries that are not void (R138). -/
theorem countP_void (es : List CollectionEntry) :
    es.length - es.countP (·.void) = (es.filter fun e => !e.void).length
      ∧ es.countP (·.void) = es.length - (es.filter fun e => !e.void).length := by
  have hsplit := List.length_eq_countP_add_countP (·.void) (l := es)
  have hlive : (es.filter fun e => !e.void).length = es.countP fun e => ¬ e.void = true := by
    rw [← List.countP_eq_length_filter]
    exact List.countP_congr fun e _ => by simp
  omega

/-- Settles O38: a confirm is a fold over the entries, each of which changes one record and one place of the queue. -/
theorem confirmAndDiscardClose : Obligations.ConfirmAndDiscardClose := by
  refine ⟨fun o tag discard s h => ⟨execUsageConfirm_of_other h, fun c hcoll htag hdiscard => ?_,
    fun c live gone moved hcoll htag hdiscard honce hlive hresident hgone hmoved => ?_⟩, fun s hdrops => ?_⟩
  · rw [execUsageConfirm_at_turn h hcoll htag, if_pos hdiscard, ← htag]
    rfl
  · subst hlive
    have hfind (q : Nat) : (s.serve o).table.find q = s.record q := record_serve s o q
    obtain ⟨hrecord, hothers, hrecency, hqueue, hleft, hcount⟩ := Confirming.foldl_entry_confirms
      (c := { table := (s.serve o).table, queue := (s.serve o).settlement.queue, left := 0, moved := 0 }) honce
      (by simpa only [hfind] using hresident)
    have hspends : gone = _ := hgone.trans (List.filter_congr fun e _ => congrArg (Option.any _) (hfind e.pass).symm)
    have hleaves : moved = _ := hmoved.trans (List.filter_congr fun e _ => congrArg (Option.any _) (hfind e.pass).symm)
    simp only [hfind] at hrecord hothers
    obtain ⟨hconfirmed, hvoid⟩ := countP_void c.entries
    refine ⟨confirmed o c.entries s, ?_, hrecord, hothers, ?_, hrecency.trans (serve_recency s o), rfl, rfl, rfl, rfl, rfl, rfl⟩
    · have hcounts : ((s.serve o).confirmEntries c.entries).left = gone.length
          ∧ ((s.serve o).confirmEntries c.entries).moved = moved.length :=
        ⟨hleft.trans (by rw [hspends, Nat.zero_add]; rfl), hcount.trans (by rw [hleaves, Nat.zero_add]; rfl)⟩
      rw [execUsageConfirm_at_turn h hcoll htag, hdiscard, if_neg Bool.false_ne_true, confirm_eq, hconfirmed, hvoid, hcounts.1,
        hcounts.2, htag]
      rfl
    · have hmovedTo : ((s.serve o).confirmEntries c.entries).queue = _ := hqueue
      rw [confirmed, updSettlement_settlement, hmovedTo, hleaves]
      rfl
  · have hne : s.settlement.drops ≠ 0 := Nat.pos_iff_ne_zero.1 hdrops
    exact congrArg Host.Outcome.next (if_neg hne)

end Sys2Proof

/-! ## Days merged

DAY MERGE at its turn, and each entry in its own claim: its outcome, and the days it joins to its record (R141 to R144). -/

namespace Sys2Proof

open Machine Claims State

/-- DAY MERGE at its turn (R141). -/
theorem execDayMerge_at_turn {o : Origin} {count : Nat} {entries : List MergeEntry} {s : State}
    (h : HasClaim o (.dayMerge count entries) s) :
    exec (.dayMerge o) s = .next (if count = 0 ∨ 128 < count then (s.dropClaim o).fail o .badArgument none (blockField 4)
      else s.setStage o (.merging entries [])) := by
  obtain ⟨hwaits, hturn⟩ := h
  simp only [exec, execDayMerge, hwaits, tableBegin_of_turn hturn]

/-- An entry's claim: its outcome joins those so far; the last one's answers (R142, R144). -/
theorem execDayMergeEntry_at_turn {o : Origin} {e : MergeEntry} {todo : List MergeEntry} {done : List MergeResult} {s : State}
    (hstage : s.stage o = some (.merging (e :: todo) done)) (hturn : s.hasTurn o = true) :
    exec (.dayMergeEntry o) s = .next (if todo.isEmpty then
        ((s.serve o).applyMerge e).complete o (mergeImage (done ++ [(s.serve o).mergeOutcome e]))
      else (((s.serve o).applyMerge e).setStage o (.merging todo (done ++ [(s.serve o).mergeOutcome e]))).submitClaim o) := by
  simp only [exec, execDayMergeEntry, hstage, if_pos hturn]

section Entry

variable {e : MergeEntry} {s : State}

theorem badMergeDays_iff {m : MergeMap} : badMergeDays m = true ↔ m >>> 240 ≠ 0 := bne_iff_ne

theorem mergeOutcome_pass (e : MergeEntry) (s : State) : (s.mergeOutcome e).pass = e.pass := by
  unfold mergeOutcome
  split
  · rfl
  · split <;> rfl

/-- An entry touches at most the records (R142, R143). -/
theorem applyMerge_rest (e : MergeEntry) (s : State) : { s.applyMerge e with table := s.table } = s
    ∧ (s.applyMerge e).table.recency = s.table.recency := by
  unfold applyMerge
  split <;> exact ⟨rfl, rfl⟩

theorem otherRecords_applyMerge (e : MergeEntry) (s : State) : OtherRecords e.pass s (s.applyMerge e) := by
  intro q hq
  unfold applyMerge
  split
  · rfl
  · exact Table.find_update_ne (t := s.table) (fun _ => rfl) hq

/-- An entry with a bad pass or a day above 239 is not applied (R142). -/
theorem merge_of_bad (h : badPass e.pass = true ∨ e.days >>> 240 ≠ 0) :
    s.applyMerge e = s ∧ s.mergeOutcome e = mergeFailure e .badArgument := by
  have hbad : badPass e.pass = true ∨ badMergeDays e.days = true := h.imp_right badMergeDays_iff.2
  exact ⟨if_pos hbad, if_pos hbad⟩

variable (hpass : badPass e.pass = false) (hdays : e.days >>> 240 = 0)
include hpass hdays

theorem not_badMerge : ¬ (badPass e.pass = true ∨ badMergeDays e.days = true) := by
  simp [hpass, badMergeDays_iff, hdays]

/-- An entry whose pass has no record changes nothing (R142). -/
theorem merge_of_absent (hr : s.record e.pass = none) :
    (s.applyMerge e).record e.pass = none ∧ s.mergeOutcome e = mergeFailure e .notResident := by
  have hbad := not_badMerge hpass hdays
  constructor
  · rw [applyMerge, if_neg hbad]
    exact (Table.find_update s.table e.pass e.pass (PassRecord.merge (mergeDays e.days)) fun _ => rfl).trans
      (congrArg (Option.map _) hr)
  · rw [mergeOutcome, if_neg hbad, hr]

/-- An entry whose pass has a record joins its days into the used days (R143). -/
theorem merge_of_resident {r : PassRecord} (hr : s.record e.pass = some r) :
    (s.applyMerge e).record e.pass = some (r.merge (mergeDays e.days)) ∧ s.mergeOutcome e = mergeSuccess e r := by
  have hbad := not_badMerge hpass hdays
  constructor
  · rw [applyMerge, if_neg hbad]
    exact Table.find_update_same (t := s.table) (fun _ => rfl) hr
  · rw [mergeOutcome, if_neg hbad, hr]

end Entry

/-- Settles O39, by the start of a DAY MERGE and the cases of an entry's own claim. -/
theorem mergeJoinsDays : Obligations.MergeJoinsDays := by
  refine ⟨fun o count entries s h => ?_, fun o e todo done s hstage hturn => ?_⟩
  · rw [execDayMerge_at_turn h]
    exact ⟨fun hlow hhigh => by rw [if_neg (by omega)], fun hbad => by rw [if_pos hbad]⟩
  · rw [execDayMergeEntry_at_turn hstage hturn]
    obtain ⟨hrest, hrecency⟩ := applyMerge_rest e (s.serve o)
    refine ⟨(s.serve o).applyMerge e, (s.serve o).mergeOutcome e, mergeOutcome_pass .., fun hlast => ?_, fun hmore => ?_, hrest,
      fun q hq => (otherRecords_applyMerge e (s.serve o) q hq).trans (record_serve s o q), hrecency.trans (serve_recency s o),
      fun hbad => ?_, fun hpass hdays hnone => ?_, fun hpass hdays r hr => ?_⟩
    · rw [if_pos (by simp [hlast])]
    · rw [if_neg (by simp [hmore])]
    · obtain ⟨hsame, houtcome⟩ := merge_of_bad (s := s.serve o) hbad
      exact ⟨hsame, by rw [houtcome]; rfl⟩
    · obtain ⟨hrecord, houtcome⟩ := merge_of_absent hpass hdays ((record_serve s o e.pass).trans hnone)
      exact ⟨hrecord, by rw [houtcome]; rfl⟩
    · exact merge_of_resident hpass hdays ((record_serve s o e.pass).trans hr)

end Sys2Proof

/-! ## The tally unit beside its inbox

That every command but those of the clock and of the tally unit itself reaches the tally unit only by the events it hands
(R149). -/

namespace Sys2Proof.Machine

/-- The tally unit but for the events that wait to be taken. -/
def Tally.withoutInbox (t : Tally) : Tally := { t with inbox := [] }

namespace State

variable (s : State) (o : Origin)

@[simp] theorem handEvents_withoutInbox (es : List Event) :
    (s.handEvents es).tally.withoutInbox = s.tally.withoutInbox := by
  unfold handEvents
  split <;> rfl

@[simp] theorem runLane_withoutInbox (l : LaneNo) (f : LaneEnv → LaneRun → LaneRun) :
    (s.runLane l f).tally.withoutInbox = s.tally.withoutInbox := by
  unfold runLane
  split <;> simp

@[simp] theorem runLanes_withoutInbox (ls : List LaneNo) (f : LaneEnv → LaneRun → LaneRun) :
    (s.runLanes ls f).tally.withoutInbox = s.tally.withoutInbox := by
  unfold runLanes
  induction ls generalizing s with
  | nil => rfl
  | cons l ls ih => exact (ih _).trans (runLane_withoutInbox s l f)

@[simp] theorem takePresentation_withoutInbox (l : LaneNo) (pass : BitVec 32) (media status attempt : Byte) :
    (s.takePresentation l pass media status attempt).tally.withoutInbox = s.tally.withoutInbox := runLane_withoutInbox ..

@[simp] theorem laneRequest_withoutInbox (mask : LaneMask) (f : LaneEnv → LaneRun → LaneRun) :
    (s.laneRequest o mask f).tally.withoutInbox = s.tally.withoutInbox := by
  simp [laneRequest]

@[simp] theorem tellMiss_withoutInbox (p : Nat) (f : LaneEnv → LaneRun → LaneRun) :
    (s.tellMiss p f).tally.withoutInbox = s.tally.withoutInbox := by
  unfold tellMiss
  split <;> simp

@[simp] theorem createPass_withoutInbox (a : InsertArgs) (evicted : Option Nat) :
    (s.createPass o a evicted).tally.withoutInbox = s.tally.withoutInbox := by
  simp [createPass]

@[simp] theorem insertNew_withoutInbox (a : InsertArgs) :
    (s.insertNew o a).tally.withoutInbox = s.tally.withoutInbox := by
  unfold insertNew
  (repeat' split) <;> simp

@[simp] theorem placeHold_withoutInbox (p : Nat) : (s.placeHold o p).tally.withoutInbox = s.tally.withoutInbox := by
  unfold placeHold
  dsimp only
  (repeat' split) <;> simp

@[simp] theorem settleHeld_withoutInbox (p refunded : Nat) (r : PassRecord) :
    (s.settleHeld o p refunded r).tally.withoutInbox = s.tally.withoutInbox := by
  unfold settleHeld
  dsimp only
  (repeat' split) <;> simp

@[simp] theorem refusePass_withoutInbox (l : LaneNo) (p : Nat) (reason : Reason) :
    (s.refusePass l p reason).tally.withoutInbox = s.tally.withoutInbox := by
  simp only [refusePass, runLane_withoutInbox, handEvents_withoutInbox]
  split <;> rfl

@[simp] theorem actOn_withoutInbox (l : LaneNo) (p : Nat) (d : Decision) :
    (s.actOn l p d).tally.withoutInbox = s.tally.withoutInbox := by
  unfold actOn
  (repeat' split) <;> simp [admitPass]

@[simp] theorem commitRecord_withoutInbox (l : LaneNo) (a : Admission) (r : PassRecord) :
    (s.commitRecord l a r).tally.withoutInbox = s.tally.withoutInbox := by
  simp [commitRecord]

@[simp] theorem withdrawRecord_withoutInbox (l : LaneNo) (a : Admission) (r : PassRecord) :
    (s.withdrawRecord l a r).tally.withoutInbox = s.tally.withoutInbox := by
  simp [withdrawRecord]

@[simp] theorem receive_withoutInbox (r : Received) : (s.receive r).tally.withoutInbox = s.tally.withoutInbox := by
  unfold receive
  split
  · cases r <;> simp [takeFrame, frameBad]
  · rfl

variable {s o}

/-- An ending claim, by its part at the table and at the settlement unit. -/
theorem endingClaim_withoutInbox {l : LaneNo} {k : Admission → PassRecord → State → State}
    (hk : ∀ a r u, (k a r u).tally.withoutInbox = u.tally.withoutInbox) :
    (s.endingClaim l k).tally.withoutInbox = s.tally.withoutInbox := by
  rw [endingClaim_eq, runLane_withoutInbox]
  unfold endPart
  (repeat' split) <;> simp [hk]

/-- A table request of one claim, by what it does at its turn. -/
theorem tableClaim_withoutInbox {k : State → State}
    (hk : (k (s.serve o)).tally.withoutInbox = s.tally.withoutInbox) :
    (s.tableClaim o k).tally.withoutInbox = s.tally.withoutInbox := by
  unfold tableClaim
  split
  · exact hk
  · rfl

/-- The start of a table request of several claims, by what it does at its turn. -/
theorem tableBegin_withoutInbox {k : State → State} (hk : (k s).tally.withoutInbox = s.tally.withoutInbox) :
    (s.tableBegin o k).tally.withoutInbox = s.tally.withoutInbox := by
  unfold tableBegin
  split
  · exact hk
  · rfl

theorem heldByMe_withoutInbox {p : Nat} {k : PassRecord → State → State}
    (hk : ∀ r, (k r s).tally.withoutInbox = s.tally.withoutInbox) :
    (s.heldByMe o p k).tally.withoutInbox = s.tally.withoutInbox := by
  unfold heldByMe
  (repeat' split) <;> simp [hk]

end State

end Sys2Proof.Machine

namespace Sys2Proof

open Machine

/-- The commands that may change more of the tally unit than its inbox: those of the clock and of the tally unit itself, and the
cold reset. -/
def Instr.reachesTally : Instr → Bool
  | .coldReset .. | .operatingSecondAdvance | .rollover | .clockSet .. => true
  | .intervalClose | .tallyEvent .. | .tallyProgram .. | .tallyClear .. | .historyRead .. => true
  | _ => false

/-- Every other command leaves the tally unit as it is but for its inbox. -/
theorem exec_withoutInbox {i : Instr} (hi : i.reachesTally = false) {s t : State} (h : exec i s = .next t) :
    t.tally.withoutInbox = s.tally.withoutInbox := by
  cases i <;> injection h with h <;> subst h
  case coldReset | operatingSecondAdvance | rollover | clockSet | intervalClose | tallyEvent | tallyProgram | tallyClear
      | historyRead => simp [Instr.reachesTally] at hi
  case warmReset | ignoredWrite => rfl
  -- one shared operation, of which a lemma speaks
  case presence | presentation | request | outputTaken | abort | errorClear | outputWindow | frameSent | requestFrame | broadcast
      | abortFrame | frameDiscarded | broadcastAbort => simp
  -- the same, where the event can occur
  case readerSilence | passageWindowExpiry | passingLimitExpiry | missWaitExpiry | toneEnd | lampBlink | beamSettle | beamBreak
      | beamRestore | lapseTimerExpiry | shortTransfer | badCommandByte | collectionVoid | lineDropAtLanes
      | discardedReaderMessage | pacingStart | pacingEnd | missNoticeRemoval => split <;> simp
  -- requests that are no table requests
  case clockRead | holdListRead | linkStatus | readyCheck | profileRead | conditionRead | markWarm => split <;> simp
  case laneOpen | laneClose | laneReset | laneStatus | tallyRead | profileSet | watchSet => (repeat' split) <;> simp
  -- claims of lanes, of the settlement unit and of the table engine itself
  case commitClaim | withdrawClaim =>
    split
    · exact State.endingClaim_withoutInbox (by simp)
    · rfl
  case decisionClaim | lapseClaim | sweepStep | clearStep => (repeat' split) <;> simp
  -- table requests, which act at their turn
  case passInsert | passRead | passDrop | tableSize | tableClear | revokeRead | refundHold | usageCollect | usageConfirm =>
    split
    · refine State.tableClaim_withoutInbox ?_
      (repeat' split) <;> simp
    · rfl
  case revokeLoad =>
    split
    · split
      · exact State.tableClaim_withoutInbox (by simp)
      · rfl
    · (repeat' split) <;> simp
  case refundSettle | refundRelease =>
    split
    · refine State.tableClaim_withoutInbox ?_
      (repeat' split) <;> simp [State.heldByMe_withoutInbox]
    · rfl
  case passFind | dayMerge =>
    split
    · refine State.tableBegin_withoutInbox ?_
      (repeat' split) <;> simp
    · rfl
  case passFindStep | dayMergeEntry =>
    dsimp only
    (repeat' split) <;> simp
  -- the decoder and the station port
  case noticePlacement => (repeat' split) <;> simp
  case requestWindow => dsimp only; (repeat' split) <;> simp
  -- events at the line control machine
  case startTimerExpiry | fadeTimerExpiry | dropShortExpiry | dropLongExpiry => split <;> simp [State.lineEvent_frame]
  case lineReady | carrier | clearToSend =>
    dsimp only
    (repeat' split) <;> simp [State.lineEvent_frame]
  case linkOpen | linkClose => (repeat' split) <;> simp [State.lineEvent_frame]

end Sys2Proof

/-! ## The ranges of the tally unit

What each operation of the tally unit keeps of its ranges (R147, R152, R160 to R162). -/

namespace Sys2Proof.Machine

/-! ### The counters -/

theorem nextCount32_le (n : Nat) : nextCount32 n ≤ 4294967295 := by
  unfold nextCount32
  split <;> omega

namespace Counter

theorem zeroed_ok (p : Program) : (zeroed p).Ok := by simp [Ok, zeroed]

/-- Only a counter with an event kind counts (R150). -/
theorem enabled_of_counts {present : List LaneNo} {e : Event} {c : Counter} (h : c.counts present e = true) :
    c.enabled = true := by
  simp only [counts, Bool.and_eq_true, beq_iff_eq] at h
  obtain ⟨⟨⟨⟨⟨hkind, -⟩, -⟩, -⟩, -⟩, -⟩ := h
  simp [enabled, hkind]

/-- The count of an event: the value goes on, and crosses where it reaches the threshold (R150, R152). -/
theorem offer_of_counts {present : List LaneNo} {e : Event} {c : Counter} (at_ : Stamp) (h : c.counts present e = true) :
    c.offer present at_ e = { c with
      value := nextCount32 c.value, crossed := c.crosses present e || c.crossed,
      crossedAt := if c.crosses present e then some at_ else c.crossedAt } := by
  cases hx : c.crosses present e <;> simp [offer, h, hx]

theorem offer_of_not_counts {present : List LaneNo} {e : Event} {c : Counter} (at_ : Stamp)
    (h : c.counts present e = false) : c.offer present at_ e = c := by
  simp [offer, h]

theorem crosses_iff {present : List LaneNo} {e : Event} {c : Counter} :
    c.crosses present e = true ↔ Claims.CrossesAt present e c := by
  simp [crosses, Claims.CrossesAt, and_assoc]

theorem Ok.offer {c : Counter} (h : c.Ok) (present : List LaneNo) (at_ : Stamp) (e : Event) :
    (c.offer present at_ e).Ok := by
  cases hcounts : c.counts present e with
  | false => rwa [offer_of_not_counts at_ hcounts]
  | true =>
    obtain ⟨hvalue, hcrossed, -, hreached, harmed⟩ := h
    have hnext : c.value ≤ nextCount32 c.value := by unfold nextCount32; split <;> omega
    have henabled := enabled_of_counts hcounts
    rw [offer_of_counts at_ hcounts]
    refine ⟨nextCount32_le _, ?_, fun hno => absurd (henabled.symm.trans hno) (by decide), fun hx => ?_, harmed⟩
    · cases c.crosses present e <;> simp [hcrossed]
    · cases hcross : c.crosses present e with
      | false =>
        obtain ⟨hne, hle⟩ := hreached (by simpa [hcross] using hx)
        exact ⟨hne, hle.trans hnext⟩
      | true =>
        obtain ⟨-, hroom, hne, heq⟩ := crosses_iff.1 hcross
        exact ⟨hne, by simp [nextCount32, hroom, heq]⟩

/-- Only an enabled counter with an arm source is armed (R151). -/
theorem Ok.arm {c : Counter} (h : c.Ok) (henabled : c.enabled = true) (hsource : c.program.armSource ≠ none) :
    ({ c with armed := true } : Counter).Ok := by
  obtain ⟨hvalue, hcrossed, -, hreached, -⟩ := h
  exact ⟨hvalue, hcrossed, fun hno => absurd (henabled.symm.trans hno) (by decide), hreached, fun hno => absurd hno hsource⟩

theorem offer_program (present : List LaneNo) (at_ : Stamp) (e : Event) (c : Counter) :
    (c.offer present at_ e).program = c.program := by
  unfold offer
  dsimp only
  (repeat' split) <;> rfl

theorem armedBy_iff {crossing : List CounterNo} {c : Counter} : c.armedBy crossing = true ↔
    c.program.kind.isSome = true ∧ ∃ j, c.program.armSource = some j ∧ j ∈ crossing := by
  simp [armedBy, enabled, Option.any_eq_true]

theorem Ok.endInterval {c : Counter} (h : c.Ok) : c.endInterval.Ok := by
  unfold Counter.endInterval
  split
  · exact zeroed_ok _
  · exact h

end Counter

namespace Tally

/-! ### The unit -/

theorem ok_withoutInbox {t : Tally} : t.withoutInbox.Ok ↔ t.Ok := .rfl

theorem forall_counter_ok {t : Tally} : (∀ c ∈ t.counters.toList, c.Ok) ↔ ∀ k : CounterNo, (t.counters[k]).Ok := by
  simp only [Vector.mem_toList_iff, Vector.mem_iff_getElem, Fin.getElem_fin]
  exact ⟨fun h k => h _ ⟨k, k.isLt, rfl⟩, fun h c ⟨i, hi, hc⟩ => hc ▸ h ⟨i, hi⟩⟩

/-- Counters in their ranges in the place of others. -/
theorem Ok.withCounters {t : Tally} (h : t.Ok) {cs : Vector Counter 12} (hcs : ∀ k : CounterNo, (cs[k]).Ok) :
    ({ t with counters := cs } : Tally).Ok := by
  obtain ⟨-, hrest⟩ := h
  exact ⟨forall_counter_ok.2 hcs, hrest⟩

theorem Ok.counter {t : Tally} (h : t.Ok) (k : CounterNo) : (t.counters[k]).Ok := forall_counter_ok.1 h.1 k

/-- A counter after an event: offered to it as it stood, then armed where its source crosses (R149 to R153). -/
theorem take_counter (present : List LaneNo) (at_ : Stamp) (e : Event) (t : Tally) (k : CounterNo) :
    (t.take present at_ e).counters[k] = if (t.counters[k]).armedBy (t.crossing present e) then
        { (t.counters[k]).offer present at_ e with armed := true }
      else (t.counters[k]).offer present at_ e := by
  simp [take]

theorem Ok.take {t : Tally} (h : t.Ok) (present : List LaneNo) (at_ : Stamp) (e : Event) : (t.take present at_ e).Ok := by
  refine h.withCounters fun k => ?_
  change ((t.take present at_ e).counters[k]).Ok
  have hoffer := (h.counter k).offer present at_ e
  have hprogram := Counter.offer_program present at_ e t.counters[k]
  rw [take_counter]
  split
  · rename_i harmed
    obtain ⟨henabled, j, hj, -⟩ := Counter.armedBy_iff.1 harmed
    exact hoffer.arm (by rwa [Counter.enabled, hprogram]) (by rw [hprogram, hj]; exact Option.some_ne_none j)
  · exact hoffer

theorem Ok.append {t : Tally} (h : t.Ok) (r : IntervalRecord) : (t.append r).Ok := by
  obtain ⟨hcounters, hring, hstation, hoffice, hlived⟩ := h
  rcases Nat.lt_or_ge t.ring.length 96 with hroom | hfull
  · rw [append_of_room hroom]
    exact ⟨hcounters, by simpa using hroom, by simpa using hstation.trans (Nat.le_succ _),
      by simpa using hoffice.trans (Nat.le_succ _), hlived⟩
  · rw [append_of_full hfull]
    have hlength : (t.ring.tail ++ [r]).length = t.ring.length := by simp; omega
    refine ⟨hcounters, ?_, ?_, ?_, hlived⟩ <;> simp only [hlength] <;> omega

theorem Ok.live {t : Tally} (h : t.Ok) : t.live.Ok := by
  obtain ⟨hcounters, hring, hstation, hoffice, -⟩ := h
  exact ⟨hcounters, hring, hstation, hoffice, nextCount32_le _⟩

theorem Ok.close {t : Tally} (h : t.Ok) (minutes : Nat) (at_ : Stamp) : (t.close minutes at_).Ok := by
  have happend := h.append (t.recordOf at_)
  have hcounter := happend.counter
  obtain ⟨-, hring, hstation, hoffice, -⟩ := happend
  refine ⟨forall_counter_ok.2 fun k => ?_, hring, hstation, hoffice, Nat.zero_le _⟩
  simpa [Tally.close, rebound] using (hcounter k).endInterval

/-! ### The cursors -/

theorem cursor_le {t : Tally} (h : t.Ok) (o : Origin) : t.cursor o ≤ t.ring.length := by
  obtain ⟨-, -, hstation, hoffice, -⟩ := h
  cases o
  · exact hstation
  · exact hoffice

theorem Ok.moveCursor {t : Tally} (h : t.Ok) {o : Origin} {n : Nat} (hn : t.cursor o + n ≤ t.ring.length) :
    (t.moveCursor o n).Ok := by
  obtain ⟨hcounters, hring, hstation, hoffice, hlived⟩ := h
  cases o
  · exact ⟨hcounters, hring, hn, hoffice, hlived⟩
  · exact ⟨hcounters, hring, hstation, hn, hlived⟩

theorem Ok.retire {t : Tally} (h : t.Ok) : t.retire.Ok := by
  obtain ⟨hcounters, hring, hstation, hoffice, hlived⟩ := h
  refine ⟨hcounters, ?_, ?_, ?_, hlived⟩ <;> simp only [Tally.retire, List.length_drop] <;> omega

end Tally

/-! ### The part -/

namespace State

variable {s : State}

theorem settleClose_tallyOk (h : s.tally.Ok) : s.settleClose.tally.Ok := by
  unfold settleClose
  split
  · exact h.close ..
  · exact h

theorem rollOver_tallyOk (h : s.tally.Ok) : s.rollOver.tally.Ok := by
  unfold rollOver
  dsimp only
  split
  · exact (settleClose_tallyOk h).live.close ..
  · exact settleClose_tallyOk h

theorem advanceSecond_tallyOk (h : s.tally.Ok) : s.advanceSecond.tally.Ok := by
  unfold advanceSecond
  dsimp only
  split
  · exact (settleClose_tallyOk h).live
  · exact settleClose_tallyOk h

theorem applyClockSet_tallyOk (h : s.tally.Ok) (a : ClockSetArgs) : (s.applyClockSet a).tally.Ok := by
  unfold applyClockSet
  dsimp only
  split
  · obtain ⟨hcounters, hring, hstation, hoffice, -⟩ := h
    exact ⟨hcounters, hring, hstation, hoffice, Nat.zero_le _⟩
  · split
    · exact h
    · split
      · exact h.live.close s.decoder.profile.tallyInterval _
      · exact h

end State

theorem tick_tallyOk {s : State} (h : s.tally.Ok) : (tick s).tally.Ok := by
  unfold tick
  (repeat' split)
  · exact h
  · exact h
  · exact State.advanceSecond_tallyOk h
  · exact State.rollOver_tallyOk h

/-! ### The commands of the clock and of the tally unit -/

section

variable {o : Origin} {s t : State} (hs : s.tally.Ok)

include hs

theorem execClockSet_tallyOk {src : Source} (h : execClockSet src s = .next t) : t.tally.Ok := by
  injection h with h
  subst h
  dsimp only
  (repeat' split)
  iterate 2 simpa using hs
  · simpa using State.applyClockSet_tallyOk hs _
  iterate 2 exact hs
  · exact State.applyClockSet_tallyOk (s := s.updClock _) hs _
  · exact hs

theorem execTallyEvent_tallyOk {batch : Nat} (h : execTallyEvent batch s = .next t) : t.tally.Ok := by
  injection h with h
  subst h
  split
  · exact hs.take ..
  · exact hs

theorem execTallyProgram_tallyOk (h : execTallyProgram o s = .next t) : t.tally.Ok := by
  injection h with h
  subst h
  (repeat' split)
  · simpa using hs
  · rename_i n _ _ hn _ p _
    simp only [State.complete_frame]
    refine hs.withCounters fun k => ?_
    simp only [Fin.getElem_fin, Vector.getElem_set]
    split
    · exact Counter.zeroed_ok p
    · exact hs.counter k
  · simpa using hs
  · exact hs

theorem execTallyClear_tallyOk (h : execTallyClear o s = .next t) : t.tally.Ok := by
  injection h with h
  subst h
  (repeat' split)
  · simpa using hs
  · simp only [State.complete_frame]
    refine hs.withCounters fun k => ?_
    simp only [Fin.getElem_fin, Vector.getElem_ofFn]
    split
    · exact Counter.zeroed_ok _
    · exact hs.counter k
  · exact hs

theorem execHistoryRead_tallyOk (h : execHistoryRead o s = .next t) : t.tally.Ok := by
  injection h with h
  subst h
  split
  · split
    · simpa using hs
    · simp only [State.complete_frame]
      split
      · exact hs
      · refine (hs.moveCursor ?_).retire
        have hcursor := Tally.cursor_le hs o
        simp only [List.length_take, List.length_drop]
        omega
  · exact hs

end

end Sys2Proof.Machine

namespace Sys2Proof

open Machine

theorem exec_tallyOk {i : Instr} {s t : State} (hs : s.tally.Ok) (h : exec i s = .next t) : t.tally.Ok := by
  cases hi : i.reachesTally with
  | false => rwa [← Tally.ok_withoutInbox, exec_withoutInbox hi h]
  | true =>
    cases i with
    | coldReset =>
      injection h with h
      exact h ▸ Tally.initial_ok
    | operatingSecondAdvance =>
      injection h with h
      subst h
      split
      · exact State.advanceSecond_tallyOk (s := s.finishSecond) hs
      · exact hs
    | rollover =>
      injection h with h
      subst h
      split
      · exact State.rollOver_tallyOk (s := s.finishSecond) hs
      · exact hs
    | intervalClose =>
      injection h with h
      exact h ▸ State.settleClose_tallyOk hs
    | clockSet => exact execClockSet_tallyOk hs h
    | tallyEvent => exact execTallyEvent_tallyOk hs h
    | tallyProgram => exact execTallyProgram_tallyOk hs h
    | tallyClear => exact execTallyClear_tallyOk hs h
    | historyRead => exact execHistoryRead_tallyOk hs h
    | _ => exact nomatch hi

/-- Settles O54: each operation of the tally unit keeps its ranges, and every other command at most hands it events. -/
theorem theTallyUnitStaysConsistent : Obligations.TheTallyUnitStaysConsistent := by
  intro s t hs h
  unfold step at h
  split at h
  · injection h with h
    exact h ▸ tick_tallyOk hs
  · rename_i rest _
    exact exec_tallyOk (s := { s with pending := rest }) hs h

end Sys2Proof

/-! ## The commands of the tally unit

What an event, an interval close and a tally request each do (R149 to R154, R156 to R158, R160 to R167). -/

namespace Sys2Proof

open Machine Claims

/-! ### Pacing -/

/-- A counter paces a lane: enabled, crossed, its action PACE, the lane in its mask (R154). -/
def Machine.Counter.pacesLane (c : Counter) (l : LaneNo) : Prop :=
  c.program.kind.isSome = true ∧ c.program.action = .pace ∧ c.crossed = true ∧ c.program.lanes.getLsbD l = true

theorem Machine.Tally.paces_iff {t : Tally} {l : LaneNo} :
    t.paces l = true ↔ ∃ k : CounterNo, (t.counters[k]).pacesLane l := by
  simp [paces, Counter.pacesLane, Counter.enabled, Fin.exists_iff, and_assoc, Vector.any_eq_true]

/-! ### The interval close -/

theorem Machine.Counter.endInterval_pacesLane {c : Counter} {l : LaneNo} (h : c.endInterval.pacesLane l) : c.pacesLane l := by
  unfold endInterval at h
  split at h
  · obtain ⟨-, -, hcrossed, -⟩ := h
    exact nomatch hcrossed
  · exact h

/-- A close can only end pacing (R158). -/
theorem Machine.Tally.close_paces {t : Tally} {minutes : Nat} {at_ : Stamp} {l : LaneNo}
    (h : (t.close minutes at_).paces l = true) : t.paces l = true := by
  obtain ⟨k, hk⟩ := paces_iff.1 h
  have hcounter : (t.close minutes at_).counters[k] = (t.counters[k]).endInterval := by
    simp [close, rebound, append_counters]
  exact paces_iff.2 ⟨k, Counter.endInterval_pacesLane (hcounter ▸ hk)⟩

/-- Settles O10, by whether a close is due. -/
theorem intervalCloseMakesItsRecord : Obligations.IntervalCloseMakesItsRecord := by
  intro s
  refine ⟨fun hdue => congrArg _ (State.settleClose_of_not_due hdue), fun hdue => ?_⟩
  refine ⟨s.closeInterval, congrArg _ (State.settleClose_of_due hdue), intervalClosed_close .., boundaryFrom_close ..,
    pacingTold_setTally .., fun l => Tally.close_paces, ?_⟩
  simp

/-! ### The count of an event -/

theorem classFilter_iff {p : Program} {e : Event} : classFilter p e = true ↔
    (∀ k, e.cls = some k → p.classes.getLsbD k.code = true) ∧ (e.cls = none → p.classes = 0xF) := by
  cases h : e.cls <;> simp [classFilter, h]

theorem laneFilter_iff {present : List LaneNo} {p : Program} {e : Event} : laneFilter present p e = true ↔
    (∀ l, e.lane = some l → p.lanes.getLsbD l = true)
      ∧ (e.lane = none → ∀ l ∈ present, p.lanes.getLsbD l = true) := by
  cases h : e.lane <;> simp [laneFilter, h]

theorem reasonFilter_iff {p : Program} {e : Event} : reasonFilter p e = true ↔
    (e.kind = .refused → ∃ r, e.reason = some r ∧ p.reasons.getLsbD r.code = true) := by
  cases h : e.reason <;> cases hkind : e.kind <;> simp [reasonFilter, h, hkind]

/-- The six conditions of R150. -/
theorem Machine.Counter.counts_iff {present : List LaneNo} {e : Event} {c : Counter} : c.counts present e = true ↔
    c.program.kind = some e.kind
      ∧ (∀ l, e.lane = some l → c.program.lanes.getLsbD l = true)
      ∧ (e.lane = none → ∀ l ∈ present, c.program.lanes.getLsbD l = true)
      ∧ (∀ k, e.cls = some k → c.program.classes.getLsbD k.code = true) ∧ (e.cls = none → c.program.classes = 0xF)
      ∧ (e.kind = .refused → ∃ r, e.reason = some r ∧ c.program.reasons.getLsbD r.code = true)
      ∧ (c.program.armSource = none ∨ c.armed = true) ∧ ¬(c.crossed = true ∧ c.program.freeze = true) := by
  simp only [counts, Bool.and_eq_true, laneFilter_iff, classFilter_iff, reasonFilter_iff, frozen, beq_iff_eq, Bool.or_eq_true,
    Option.isNone_iff_eq_none, Bool.not_eq_true', ← Bool.not_eq_true, and_assoc]

/-- What an event makes of a counter it is offered to, arming aside (R150, R152). -/
theorem Machine.Counter.offer_spec (present : List LaneNo) (at_ : Stamp) (e : Event) (c : Counter) :
    (c.offer present at_ e).value = (if c.counts present e = true ∧ c.value < 4294967295 then c.value + 1 else
        if c.counts present e = true then 4294967295 else c.value)
      ∧ (CrossesAt present e c →
        (c.offer present at_ e).crossed = true ∧ (c.offer present at_ e).crossedAt = some at_)
      ∧ (¬ CrossesAt present e c →
        (c.offer present at_ e).crossed = c.crossed ∧ (c.offer present at_ e).crossedAt = c.crossedAt)
      ∧ (c.offer present at_ e).armed = c.armed := by
  cases hcounts : c.counts present e with
  | false =>
    rw [offer_of_not_counts at_ hcounts]
    have hstay : ¬ CrossesAt present e c := fun ⟨hyes, _⟩ => nomatch hcounts.symm.trans hyes
    exact ⟨by simp, fun hcross => absurd hcross hstay, fun _ => ⟨rfl, rfl⟩, rfl⟩
  | true =>
    rw [offer_of_counts at_ hcounts]
    refine ⟨?_, fun hcross => ?_, fun hstay => ?_, rfl⟩
    · simp [nextCount32]
    · simp [crosses_iff.2 hcross]
    · simp [Bool.eq_false_iff.2 (mt crosses_iff.1 hstay)]

theorem Machine.Tally.mem_crossing {present : List LaneNo} {e : Event} {t : Tally} {k : CounterNo} :
    k ∈ t.crossing present e ↔ CrossesAt present e t.counters[k] := by
  simp [crossing, Counter.crosses_iff]

/-- What an event makes of each counter (R149 to R152). -/
theorem Machine.Tally.take_spec (present : List LaneNo) (at_ : Stamp) (e : Event) (t : Tally) (k : CounterNo) (c : Counter)
    (hc : c = t.counters[k]) : ((t.take present at_ e).counters[k]).program = c.program
      ∧ ((t.take present at_ e).counters[k]).value =
        (if c.counts present e = true ∧ c.value < 4294967295 then c.value + 1 else
          if c.counts present e = true then 4294967295 else c.value)
      ∧ (CrossesAt present e c → ((t.take present at_ e).counters[k]).crossed = true
        ∧ ((t.take present at_ e).counters[k]).crossedAt = some at_)
      ∧ (¬ CrossesAt present e c → ((t.take present at_ e).counters[k]).crossed = c.crossed
        ∧ ((t.take present at_ e).counters[k]).crossedAt = c.crossedAt)
      ∧ (((t.take present at_ e).counters[k]).armed = true ↔ c.armed = true ∨ (c.program.kind.isSome = true
        ∧ ∃ j, c.program.armSource = some j ∧ CrossesAt present e t.counters[j])) := by
  have hprogram := c.offer_program present at_ e
  obtain ⟨hvalue, hcross, hstay, harmed⟩ := c.offer_spec present at_ e
  have harms := Counter.armedBy_iff (crossing := t.crossing present e) (c := c)
  simp only [mem_crossing] at harms
  rw [take_counter, ← hc, ← harms]
  split
  · rename_i hnow
    exact ⟨hprogram, hvalue, hcross, hstay, by simp [hnow]⟩
  · rename_i hnot
    exact ⟨hprogram, hvalue, hcross, hstay, by simp [harmed, hnot]⟩

theorem Machine.crossingNotice_eq (k : CounterNo) (c : Counter) (at_ : Stamp) : crossingNotice k c at_ =
    if c.program.action ≠ .none then [.tally k c.program.action c.program.threshold at_] else [] := by
  cases h : c.program.action <;> simp [crossingNotice, h]

/-- The notices of an event's crossings, in ascending counter number (R153). -/
theorem Machine.Tally.crossing_notices (present : List LaneNo) (at_ : Stamp) (e : Event) (t : Tally) :
    (t.crossing present e).flatMap (fun k => crossingNotice k t.counters[k] at_) = (List.finRange 12).flatMap fun k =>
      if CrossesAt present e t.counters[k] ∧ (t.counters[k]).program.action ≠ .none then
        [.tally k (t.counters[k]).program.action (t.counters[k]).program.threshold at_]
      else [] := by
  unfold crossing
  induction List.finRange 12 with
  | nil => rfl
  | cons k ks ih =>
    rw [List.filter_cons]
    by_cases hcross : CrossesAt present e t.counters[k]
    · rw [if_pos (Counter.crosses_iff.2 hcross), List.flatMap_cons, ih, List.flatMap_cons, crossingNotice_eq,
        if_congr (and_iff_right hcross) rfl rfl]
    · rw [if_neg (mt Counter.crosses_iff.1 hcross), ih, List.flatMap_cons, if_neg (mt And.left hcross),
        List.nil_append]

/-- TALLY EVENT where its batch holds an event (R149). -/
theorem execTallyEvent_eq {batch : Nat} {e : Event} {rest : List Event} {s : State}
    (h : s.tally.inbox[batch]? = some (e :: rest)) : exec (.tallyEvent batch) s = .next
      ((s.raiseTally ((s.tally.crossing s.presentLanes e).flatMap fun k => crossingNotice k s.tally.counters[k] s.stamp)).setTally
        { s.tally.take s.presentLanes s.stamp e with
          inbox := if rest = [] then s.tally.inbox.eraseIdx batch else s.tally.inbox.set batch rest }) := by
  simp only [exec, execTallyEvent, h, List.isEmpty_iff]

/-- Settles O40, counter by counter. -/
theorem eventsAreCounted : Obligations.EventsAreCounted := by
  refine ⟨fun batch e rest s h => ⟨_, execTallyEvent_eq h, fun k c hc => ?_, rfl, rfl, ?_, rfl, ?_, ?_⟩,
    fun present e c => Counter.counts_iff⟩
  · exact s.tally.take_spec s.presentLanes s.stamp e k c hc
  · exact congrArg (s.decoder.tallyMsgs ++ ·) (s.tally.crossing_notices s.presentLanes s.stamp e)
  · exact pacingTold_setTally (s.raiseTally _) _
  · exact ⟨rfl, rfl, rfl, rfl, rfl, rfl⟩

end Sys2Proof

namespace Sys2Proof

open Machine Claims

/-! ### The tests of a program (R163) -/

/-- A field of one byte is the byte. -/
theorem Machine.fieldAt_one (bs : List Byte) (off : Nat) : fieldAt bs off 1 = (byteAt bs off).toNat := by
  unfold fieldAt byteAt
  rw [List.getD_eq_getElem?_getD, ← List.head?_drop]
  cases bs.drop off <;> simp [ofBytes]

theorem Machine.byte_and_allOnes_ne_zero_iff {b : Byte} : b &&& 0xFF ≠ 0 ↔ b ≠ 0 := by
  have hones : (0xFF : Byte) = BitVec.allOnes 8 := by decide
  rw [hones, BitVec.and_allOnes]

/-- The bytes of a program with reserved bits, and those bits (R163). -/
def Machine.reservedBits : List (Nat × Byte) :=
  [(2, 0xF0), (5, 0xE0), (7, 0xF8), (12, 0xFF), (13, 0xFF), (14, 0xFF), (15, 0xFF)]

/-- The first byte with a reserved bit set, of these bytes with reserved bits. -/
def Machine.reservedFault (bs : List Byte) (reserved : List (Nat × Byte)) : Option Nat :=
  (reserved.find? fun (off, mask) => byteAt bs off &&& mask != 0).map (·.1)

theorem Machine.reservedFault_nil (bs : List Byte) : reservedFault bs [] = none := rfl

theorem Machine.reservedFault_cons (bs : List Byte) (off : Nat) (mask : Byte) (reserved : List (Nat × Byte)) :
    reservedFault bs ((off, mask) :: reserved) =
      if byteAt bs off &&& mask ≠ 0 then some off else reservedFault bs reserved := by
  unfold reservedFault
  rw [List.find?_cons]
  split
  · rename_i hset
    rw [if_pos (bne_iff_ne.1 hset)]
    rfl
  · rename_i hclear
    rw [if_neg (by simpa using hclear)]

theorem Machine.tallyActionOfCode_of_lt {n : Nat} (h : 2 < n) : tallyActionOfCode n = none := by
  obtain ⟨m, rfl⟩ := Nat.exists_eq_add_of_lt h
  rw [show 2 + m + 1 = m + 3 by omega]
  rfl

theorem Machine.tallyActionOfCode_of_le {n : Nat} (h : n ≤ 2) :
    tallyActionOfCode n = some (if n = 0 then .none else if n = 1 then .notice else .pace) := by
  interval_cases n <;> rfl

/-- The program that 16 bytes spell, field by field (R163). -/
theorem Machine.programOf_some (kind : EventKind) {bs : List Byte} (haction : ¬ 2 < (byteAt bs 3).toNat) :
    programOf (some kind) bs = {
      kind := some kind, lanes := byteAt bs 1, classes := (byteAt bs 2).setWidth 4,
      reasons := BitVec.ofNat 13 (fieldAt bs 4 2), threshold := fieldAt bs 8 4,
      action := if byteAt bs 3 = 0 then .none else if byteAt bs 3 = 1 then .notice else .pace,
      freeze := (byteAt bs 7).getLsbD 0,
      armSource := if h : (byteAt bs 6).toNat < 12 then some ⟨(byteAt bs 6).toNat, h⟩ else none,
      interval := (byteAt bs 7).getLsbD 1, history := (byteAt bs 7).getLsbD 2 } := by
  have hclasses : BitVec.ofNat 4 (byteAt bs 2).toNat = (byteAt bs 2).setWidth 4 := rfl
  have hzero : (byteAt bs 3).toNat = 0 ↔ byteAt bs 3 = 0 := BitVec.toNat_inj (y := 0)
  have hone : (byteAt bs 3).toNat = 1 ↔ byteAt bs 3 = 1 := BitVec.toNat_inj (y := 1)
  simp only [programOf, fieldAt_one, hclasses, tallyActionOfCode_of_le (Nat.le_of_not_lt haction), Option.getD_some, hzero, hone]

/-- The tests of a program with no reserved bit set, by its event kind (R163). -/
def Machine.judgeFields (badLanes : LaneMask → Bool) (k : CounterNo) (bs : List Byte) : Except Nat Program :=
  (eventKindOfCode (byteAt bs 0).toNat).elim (.error 0) fun code => code.elim (.ok .disabled) fun kind =>
    if badLanes (byteAt bs 1) then .error 1
    else if byteAt bs 2 = 0 then .error 2
    else if kind = .refused ∧ fieldAt bs 4 2 = 0 ∨ kind ≠ .refused ∧ fieldAt bs 4 2 ≠ 0 then .error 4
    else if 2 < (byteAt bs 3).toNat then .error 3
    else if ((byteAt bs 3).toNat ≠ 0 ∨ (byteAt bs 7).getLsbD 0 = true) ∧ fieldAt bs 8 4 = 0 then .error 8
    else if byteAt bs 6 ≠ 0xFF ∧ (11 < (byteAt bs 6).toNat ∨ (byteAt bs 6).toNat = k.val) then .error 6
    else .ok (programOf (some kind) bs)

/-- The reserved bits are tested first, then the fields. -/
theorem Machine.checkProgram_eq (badLanes : LaneMask → Bool) (k : CounterNo) (bs : List Byte) : checkProgram badLanes k bs =
    (reservedFault bs reservedBits).elim (judgeFields badLanes k bs) .error := by
  unfold checkProgram reservedFault reservedBits
  dsimp only
  split
  · rename_i hfind
    rw [hfind]
    rfl
  · rename_i hfind
    rw [hfind, fieldAt_one, Option.map_none, Option.elim_none]
    unfold judgeFields
    rcases eventKindOfCode (byteAt bs 0).toNat with _ | _ | kind
    · rfl
    · rfl
    · rw [Option.elim_some, Option.elim_some]
      simp only [fieldAt_one]
      refine if_congr .rfl rfl (if_congr .rfl rfl (if_congr iff_iff_and_or_not_and_not rfl ?_))
      by_cases haction : 2 < (byteAt bs 3).toNat
      · rw [tallyActionOfCode_of_lt haction, if_pos haction]
      · have hnone : (if (byteAt bs 3).toNat = 0 then TallyAction.none
            else if (byteAt bs 3).toNat = 1 then .notice else .pace) ≠ .none ↔ (byteAt bs 3).toNat ≠ 0 := by
          split
          · simp [*]
          · split <;> simp [*]
        have hfree : (byteAt bs 6).toNat ≠ 255 ↔ byteAt bs 6 ≠ 0xFF := not_congr (BitVec.toNat_inj (y := 0xFF))
        rw [tallyActionOfCode_of_le (Nat.le_of_not_lt haction), if_neg haction]
        exact if_congr (and_congr_left' (or_congr_left hnone)) rfl (if_congr (and_congr_left' hfree) rfl rfl)

/-! ### TALLY PROGRAM and TALLY CLEAR -/

/-- TALLY PROGRAM that waits, its counter number in range (R163, R164). -/
theorem execTallyProgram_eq {o : Origin} {k : CounterNo} {bs : List Byte} {s : State}
    (h : Waits o (.tallyProgram k.val bs) s) {p : Program} (hp : checkProgram s.badLaneMask k bs = .ok p) :
    exec (.tallyProgram o) s = .next
      ((s.setTally { s.tally with counters := s.tally.counters.set k (Counter.zeroed p) }).complete o
        (img1 k.val ++ p.image ++ img4 0 ++ imgFlag false ++ imgTime none ++ imgFlag false)) := by
  simp only [exec, execTallyProgram, h, dif_pos k.isLt, hp]
  rfl

theorem execTallyProgram_of_fault {o : Origin} {k : CounterNo} {bs : List Byte} {s : State}
    (h : Waits o (.tallyProgram k.val bs) s) {off : Nat} (hfault : checkProgram s.badLaneMask k bs = .error off) :
    exec (.tallyProgram o) s = .next (s.fail o .badArgument none (dataField off)) := by
  simp only [exec, execTallyProgram, h, dif_pos k.isLt, hfault]

/-- The part once a TALLY CLEAR has cleared the counters of its mask (R165). -/
def Machine.State.clearedCounters (mask : CounterMask) (s : State) : State :=
  s.setTally { s.tally with
    counters := Vector.ofFn fun k : Fin 12 => if mask.getLsbD k then (s.tally.counters[k]).zero else s.tally.counters[k] }

theorem Machine.State.clearedCounters_getElem (mask : CounterMask) (s : State) (k : CounterNo) :
    (s.clearedCounters mask).tally.counters[k] =
      if mask.getLsbD k then (s.tally.counters[k]).zero else s.tally.counters[k] := by
  simp [clearedCounters, setTally_tally]

/-- TALLY CLEAR that waits, with a counter in its mask (R165). -/
theorem execTallyClear_eq {o : Origin} {mask : CounterMask} {s : State} (h : Waits o (.tallyClear mask) s) (hmask : mask ≠ 0) :
    exec (.tallyClear o) s = .next ((s.clearedCounters mask).complete o
      (imgList ((countersOf mask).map fun k => ((s.clearedCounters mask).tally.counters[k]).image))) := by
  simp only [exec, execTallyClear, h, if_neg hmask]
  rfl

/-- Counters put in the place of others change no more than the pacing told. -/
theorem Machine.State.setTally_counters (s : State) (cs : Vector Counter 12) :
    { (s.setTally { s.tally with counters := cs }).tally with counters := s.tally.counters } = s.tally
      ∧ PacingTold s (s.setTally { s.tally with counters := cs })
      ∧ { s.setTally { s.tally with counters := cs } with tally := s.tally, lanes := s.lanes } = s :=
  ⟨rfl, pacingTold_setTally .., rfl⟩

/-! ### HISTORY READ -/

namespace Machine.Tally

/-- Retiring loses neither origin a record that its cursor has not passed (R161). -/
theorem drop_cursor_retire (t : Tally) (o : Origin) : t.retire.ring.drop (t.retire.cursor o) = t.ring.drop (t.cursor o) := by
  cases o <;> simp only [retire, cursor, List.drop_drop] <;> congr 1 <;> omega

theorem retire_caughtUp (t : Tally) : t.retire.stationCursor = 0 ∨ t.retire.officeCursor = 0 := by
  simp only [retire]
  omega

theorem drop_cursor_moveCursor (t : Tally) (o : Origin) (n : Nat) :
    (t.moveCursor o n).ring.drop ((t.moveCursor o n).cursor o) = (t.ring.drop (t.cursor o)).drop n := by
  cases o <;> simp [moveCursor, cursor, List.drop_drop]

theorem drop_cursor_moveCursor_other (t : Tally) (o : Origin) (n : Nat) :
    (t.moveCursor o n).ring.drop ((t.moveCursor o n).cursor (otherOrigin o)) = t.ring.drop (t.cursor (otherOrigin o)) := by
  cases o <;> rfl

theorem moveCursor_retire_counters (t : Tally) (o : Origin) (n : Nat) : (t.moveCursor o n).retire.counters = t.counters := by
  cases o <;> rfl

end Machine.Tally

section History

variable {o : Origin} {count : Nat} {got : List IntervalRecord} {s : State} (hcount : count ≤ 8)
  (hgot : got = (s.tally.ring.drop (s.tally.cursor o)).take (if count = 0 then 8 else count))

include hcount hgot

/-- HISTORY READ that waits and peeks (R167). -/
theorem execHistoryRead_peek (h : Waits o (.historyRead count true) s) : exec (.historyRead o) s = .next (s.complete o
    (img2 got.length ++ img2 (s.tally.ring.length - s.tally.cursor o) ++ (got.map (·.image)).flatten)) := by
  simp only [exec, execHistoryRead, h, if_neg (Nat.not_lt.2 hcount), ← hgot, List.length_drop, if_true]

/-- HISTORY READ that waits and moves its origin's cursor (R161, R167). -/
theorem execHistoryRead_move (h : Waits o (.historyRead count false) s) : exec (.historyRead o) s = .next
    ((s.updTally fun t => (t.moveCursor o got.length).retire).complete o
      (img2 got.length ++ img2 (s.tally.ring.length - s.tally.cursor o - got.length) ++ (got.map (·.image)).flatten)) := by
  simp [exec, execHistoryRead, h, Nat.not_lt.2 hcount, ← hgot]

end History

/-- Settles O41, request by request. -/
theorem tallyRequestsAct : Obligations.TallyRequestsAct := by
  refine ⟨⟨fun o n bs s h => ⟨fun hn => ?_, fun k off hk hfault => ?_, fun k p hk hp => ?_⟩,
    fun o mask s h => ⟨fun hmask => ?_, fun hmask => ?_⟩⟩, fun t l => Tally.paces_iff, fun badLanes k bs => ?_,
    fun o count peek s h hcount => ?_, fun o count peek got s h hcount hgot => ⟨fun hpeek => ?_, fun hmove => ?_⟩⟩
  · simp only [exec, execTallyProgram, h, dif_neg (Nat.not_lt.2 hn)]
  · subst hk
    exact execTallyProgram_of_fault h hfault
  · subst hk
    refine ⟨_, execTallyProgram_eq h hp, ?_, fun j hj => ?_, State.setTally_counters s _⟩
    · simp [State.setTally_tally, Counter.zeroed]
    · have hne : k.val ≠ j.val := fun heq => hj (Fin.ext heq.symm)
      simp [State.setTally_tally, hne]
  · simp only [exec, execTallyClear, h, if_pos hmask]
  · refine ⟨s.clearedCounters mask, execTallyClear_eq h hmask, fun k hk => ?_, fun k hk => ?_,
      State.setTally_counters s _⟩
    · exact (s.clearedCounters_getElem mask k).trans (if_pos hk)
    · exact (s.clearedCounters_getElem mask k).trans (if_neg (hk ▸ Bool.false_ne_true))
  · rw [checkProgram_eq]
    simp only [reservedBits, reservedFault_cons, reservedFault_nil, byte_and_allOnes_ne_zero_iff,
      apply_ite (Option.elim · (judgeFields badLanes k bs) Except.error), Option.elim_some, Option.elim_none]
    iterate 7 refine if_congr .rfl rfl ?_
    unfold judgeFields
    rcases eventKindOfCode (byteAt bs 0).toNat with _ | _ | kind
    · rfl
    · rfl
    · refine if_congr .rfl rfl (if_congr .rfl rfl (if_congr .rfl rfl (ite_congr rfl (fun _ => rfl) fun haction => ?_)))
      rw [programOf_some kind haction]
  · simp only [exec, execHistoryRead, h, if_pos hcount]
  · subst hpeek
    exact execHistoryRead_peek hcount hgot h
  · subst hmove
    refine ⟨_, execHistoryRead_move hcount hgot h, ?_, ?_, Tally.retire_caughtUp _, Tally.moveCursor_retire_counters .., rfl⟩
    · exact (Tally.drop_cursor_retire _ o).trans (Tally.drop_cursor_moveCursor ..)
    · exact (Tally.drop_cursor_retire _ (otherOrigin o)).trans (Tally.drop_cursor_moveCursor_other ..)

end Sys2Proof

/-! ## What is handed to the two ports

How an answer or a notice reaches the station port and the office link, and what the end of a request leaves (R172, R176, R177,
R183, R184, R193, R205). -/

namespace Sys2Proof.Machine

/-! ### The station port -/

namespace Port

variable {p : Port}

theorem present_of_window {x : OutWindow} (h : p.window = some x) : p.present = p := by
  simp [present, h]

theorem present_of_answers {a : Answer} {rest : List Answer} (hw : p.window = none) (ha : p.answers = a :: rest) :
    p.present = { p with answers := rest, window := some { item := .answer a, position := 0 } } := by
  simp [present, hw, ha]

/-- An answer joins the tail of the answer list while the window shows an item (R193). -/
theorem takeAnswer_of_window {x : OutWindow} (h : p.window = some x) (a : Answer) :
    p.takeAnswer a = { p with answers := p.answers ++ [a] } := present_of_window h

/-- With the window empty and nothing waiting, an answer is presented at once (R193). -/
theorem takeAnswer_of_empty (hw : p.window = none) (ha : p.answers = []) (a : Answer) :
    p.takeAnswer a = { p with window := some { item := .answer a, position := 0 } } := by
  obtain ⟨_, _, _, _, _, _, answers, _, _, _, _⟩ := p
  cases ha
  exact present_of_answers hw rfl

/-- With the window empty, the oldest answer is presented as another joins the list (R193). -/
theorem takeAnswer_of_waiting {x : Answer} {rest : List Answer} (hw : p.window = none) (ha : p.answers = x :: rest)
    (a : Answer) : p.takeAnswer a =
      { p with answers := rest ++ [a], window := some { item := .answer x, position := 0 } } :=
  present_of_answers hw (by simp [ha])

end Port

/-! ### The office answer list -/

/-- An answer that is not BUSY, or that meets no BUSY answer, joins the tail (R205). -/
theorem joinOfficeAnswer_of_tail {a : OfficeAnswer} {as : List OfficeAnswer}
    (h : a.answer.status ≠ .busy ∨ ∀ x ∈ as, x.answer.status ≠ .busy) : joinOfficeAnswer a as = as ++ [a] := by
  induction as with
  | nil => rfl
  | cons x xs ih =>
    have hx : ¬ (a.answer.status = .busy ∧ x.answer.status = .busy) := by
      rcases h with h | h
      · exact fun ⟨ha, _⟩ => h ha
      · exact fun ⟨_, hb⟩ => h x List.mem_cons_self hb
    rw [joinOfficeAnswer, if_neg hx, ih (h.imp_right fun h y hy => h y (List.mem_cons_of_mem _ hy)), List.cons_append]

/-- A BUSY answer takes the place of the first that waits (R205). -/
theorem joinOfficeAnswer_of_busy {a x : OfficeAnswer} {before after : List OfficeAnswer} (ha : a.answer.status = .busy)
    (hbefore : ∀ y ∈ before, y.answer.status ≠ .busy) (hx : x.answer.status = .busy) :
    joinOfficeAnswer a (before ++ x :: after) = before ++ { answer := a.answer, taken := x.taken || a.taken } :: after := by
  induction before with
  | nil => exact if_pos ⟨ha, hx⟩
  | cons y ys ih =>
    rw [List.cons_append, joinOfficeAnswer, if_neg fun h => hbefore y List.mem_cons_self h.2,
      ih fun z hz => hbefore z (List.mem_cons_of_mem _ hz), List.cons_append]

/-! ### The end of a request -/

namespace State

open Claims

variable {s : State} {o : Origin} {f : InFlight}

theorem flightCode_eq (h : (s.context o).inFlight = some f) : s.flightCode o = f.request.code := by
  simp [flightCode, h]

/-- A request in flight ends with its answer, whatever it is (R172, R176, R177). -/
theorem endWith_endsWith (h : (s.context o).inFlight = some f) (a : Answer) : EndsWith o f.answerable a s (s.endWith o a) := by
  cases o <;> cases hf : f.answerable <;> simp only [endWith, h, hf] <;> exact ⟨rfl, rfl, rfl, rfl, rfl, rfl⟩

/-- Without a request in flight nothing ends. -/
theorem endWith_of_none (h : (s.context o).inFlight = none) (a : Answer) : s.endWith o a = s := by
  simp [endWith, h]

end State

end Sys2Proof.Machine

namespace Sys2Proof

open Machine Claims State

/-- Settles O13, by the one rule for the end of a request and the rules of the two answer lists. -/
theorem endOfARequest : Obligations.EndOfARequest := by
  refine ⟨fun o f s h => ?_, fun a p => ⟨fun x hx => Port.takeAnswer_of_window hx a, fun hw ha => Port.takeAnswer_of_empty hw ha a,
    fun x rest hw ha => Port.takeAnswer_of_waiting hw ha a⟩, fun a k => ⟨fun ha => ?_, fun before x after ha hk hbefore hx => ?_⟩⟩
  · rw [← flightCode_eq h]
    exact ⟨fun d => endWith_endsWith h _, fun d => endWith_endsWith h _, endWith_endsWith h _, fun c p fd => endWith_endsWith h _⟩
  · rw [Link.takeAnswer, joinOfficeAnswer_of_tail ha]
  · rw [Link.takeAnswer, hk, joinOfficeAnswer_of_busy ha hbefore hx]

end Sys2Proof

/-! ## The outbound slots of the office link

How the slots are filled from the answers and the notices that wait, and what a frame looks like on the line (R203, R205). -/

namespace Sys2Proof.Machine

namespace Link

variable {k : Link} {m n : Nat}

/-- The frames of what waits to be sent: the answers, then the notices (R205). -/
def waitingFrames (k : Link) : List (List Byte) :=
  k.answers.map (fun a => frameBytes k.address 2 a.answer.bytes) ++ k.queue.map (fun q => frameBytes k.address 3 q.bytes)

/-- The link with the first n of what waits moved to its slots. -/
def filled (n : Nat) (k : Link) : Link :=
  { k with
    slots := k.slots ++ k.waitingFrames.take n, answers := k.answers.drop n, queue := k.queue.drop (n - k.answers.length) }

theorem waitingFrames_filled (n : Nat) (k : Link) : (k.filled n).waitingFrames = k.waitingFrames.drop n := by
  simp [waitingFrames, filled, List.drop_append, List.map_drop]

theorem filled_zero (k : Link) : k.filled 0 = k := by simp [filled]

theorem filled_filled (m n : Nat) (k : Link) : (k.filled n).filled m = k.filled (n + m) := by
  have hframes : (k.filled n).waitingFrames = k.waitingFrames.drop n := waitingFrames_filled n k
  have hqueue : n - k.answers.length + (m - (k.answers.length - n)) = n + m - k.answers.length := by omega
  simp only [filled] at hframes ⊢
  simp [hframes, List.take_add, hqueue]

theorem filled_of_nothing (h : k.waitingFrames = []) (n : Nat) : k.filled n = k := by
  cases k
  simp_all [filled, waitingFrames]

/-- An empty slot takes the oldest answer, else the first notice (R205). -/
theorem fillOne_of_room (hup : k.state = .up) (hroom : k.slots.length < 2) : k.fillOne = k.filled 1 := by
  unfold fillOne
  rw [if_pos ⟨hup, hroom⟩]
  split
  · simp [filled, waitingFrames, *]
  · simp [filled, waitingFrames, *]
  · rw [filled_of_nothing (by simp [waitingFrames, *])]

/-- Without an empty slot nothing is filled. -/
theorem fillOne_of_full (hfull : 2 ≤ k.slots.length) : k.fillOne = k := if_neg fun h => absurd h.2 (by omega)

/-- While the line is UP both slots are filled from what waits (R205). -/
theorem fillOne_fillOne (hup : k.state = .up) : k.fillOne.fillOne = k.filled (2 - k.slots.length) := by
  by_cases hfull : 2 ≤ k.slots.length
  · rw [fillOne_of_full hfull, fillOne_of_full hfull, Nat.sub_eq_zero_of_le hfull, filled_zero]
  · by_cases hnone : k.waitingFrames = []
    · simp only [fillOne_of_room hup (Nat.lt_of_not_le hfull), filled_of_nothing hnone]
    · have hone : (k.filled 1).slots.length = k.slots.length + 1 := by
        have := List.length_pos_of_ne_nil hnone
        simp only [filled, List.length_append, List.length_take]
        omega
      rw [fillOne_of_room hup (Nat.lt_of_not_le hfull)]
      by_cases hlast : 2 ≤ (k.filled 1).slots.length
      · rw [fillOne_of_full hlast, show 2 - k.slots.length = 1 by omega]
      · rw [fillOne_of_room (k := k.filled 1) hup (Nat.lt_of_not_le hlast), filled_filled,
          show 2 - k.slots.length = 1 + 1 by omega]

theorem begin_eq (k : Link) : k.begin = { k with sending := k.sending || (!k.slots.isEmpty && k.maySend) } := by
  unfold Link.begin
  split
  · rename_i h
    simp [h]
  · rename_i h
    have hstays : (k.sending || (!k.slots.isEmpty && k.maySend)) = k.sending := by
      cases hs : k.sending <;> simp_all
    rw [hstays]

theorem pump_of_up (hup : k.state = .up) : k.pump = { k.filled (2 - k.slots.length) with
    sending := k.sending || (!(k.filled (2 - k.slots.length)).slots.isEmpty && (k.dataOnly || k.clearToSend)) } := by
  rw [pump, fillOne_fillOne hup, begin_eq]
  simp [maySend, filled, hup]

/-- While the line is not UP nothing is filled or begun (R205). -/
theorem pump_of_not_up (h : k.state ≠ .up) : k.pump = k := by
  have hfill : k.fillOne = k := if_neg fun hup => h hup.1
  have hbegin : k.begin = k := if_neg fun hmay => by simp [maySend, h] at hmay
  rw [pump, hfill, hfill, hbegin]

end Link

/-! ### Escaping (R203, R205) -/

theorem unescapeBytes_cons_of_ne {b : Byte} (h : b ≠ 0x7D) (bs : List Byte) :
    unescapeBytes (b :: bs) = (unescapeBytes bs).map (b :: ·) := by
  cases bs with
  | nil => exact if_neg h
  | cons c bs => exact if_neg h

theorem unescapeBytes_escapeBytes (f : List Byte) : unescapeBytes (escapeBytes f) = some f := by
  induction f with
  | nil => rfl
  | cons b bs ih =>
    rw [escapeBytes]
    split
    · simp [unescapeBytes, ih]
    · rename_i hplain
      rw [unescapeBytes_cons_of_ne (fun h => hplain (.inr h)), ih]
      rfl

/-- No flag stands within an escaped frame (R205). -/
theorem ne_flag_of_mem_escapeBytes {f : List Byte} {b : Byte} (h : b ∈ escapeBytes f) : b ≠ 0x7E := by
  induction f with
  | nil => cases h
  | cons c cs ih =>
    rw [escapeBytes] at h
    split at h
    · rename_i hc
      rcases List.mem_cons.1 h with rfl | h
      · decide
      · rcases List.mem_cons.1 h with rfl | h
        · rcases hc with rfl | rfl <;> decide
        · exact ih h
    · rename_i hc
      rcases List.mem_cons.1 h with rfl | h
      · exact fun hb => hc (.inl hb)
      · exact ih h

end Sys2Proof.Machine

/-! ## Frames received and sent -/

namespace Sys2Proof.Machine.State

variable {s : State}

/-- While the line is UP a frame is taken by its kind (R203, R204). -/
theorem receive_of_up (h : s.link.state = .up) (r : Received) : s.receive r = s.takeFrame r := if_pos h

/-- While the line is not UP no frame does anything (R203). -/
theorem receive_of_not_up (h : s.link.state ≠ .up) (r : Received) : s.receive r = s := if_neg h

/-- An ABORT ends nothing of an origin whose request in flight, if any, is neither of the two long ones (R175). -/
theorem abortEvent_of_short {o : Origin}
    (h : ∀ f, (s.context o).inFlight = some f → (∀ p, f.request ≠ .refundHold p) ∧ f.request ≠ .tableClear) :
    s.abortEvent o = s := by
  unfold abortEvent
  split
  iterate 2
    rename_i p _ hf
    exact absurd rfl ((h _ hf).1 _)
  iterate 2
    rename_i hf
    exact absurd rfl (h _ hf).2
  · rfl

/-- A broadcast that passes the checks as neither of two requests does nothing (R174). -/
theorem deliverBroadcast_of_other {body : List Byte}
    (hclock : ∀ a, checkBlock s.decoder.profile .office body ≠ .passed (.clockSet a))
    (hload : ∀ a, checkBlock s.decoder.profile .office body ≠ .passed (.revokeLoad a)) : s.deliverBroadcast body = s := by
  unfold deliverBroadcast
  split
  · exact absurd ‹_› (hclock _)
  · exact absurd ‹_› (hload _)
  · rfl

end Sys2Proof.Machine.State

namespace Sys2Proof

open Machine State

/-- Settles O49. -/
theorem framesAreTakenAndSent : Obligations.FramesAreTakenAndSent := by
  refine ⟨fun s hup => ⟨fun body hform => ?_, fun body hform => ⟨fun a ha => ?_, fun a ha => ?_, fun hclock hload => ?_⟩, ?_, ?_,
    fun p q answerable hf => ?_, fun hshort => ?_, fun received hbad => ?_, fun received hother => ?_,
    fun f rest hslots hsending => ?_⟩, fun s hdown => ⟨fun body => ⟨?_, ?_⟩, ?_, ?_, fun received => ?_⟩, fun k =>
    ⟨Link.pump_of_not_up, fun hup answers notices slots ha hn hs => ?_⟩,
    fun f => ⟨unescapeBytes_escapeBytes f, fun b => ne_flag_of_mem_escapeBytes⟩, by decide +kernel⟩
  · simp [exec, execRequestFrame, receive_of_up hup, judgeForm, hform, takeFrame]
  · simp [exec, execBroadcast, receive_of_up hup, judgeForm, hform, takeFrame, deliverBroadcast, ha, updClock]
  · simp [exec, execBroadcast, receive_of_up hup, judgeForm, hform, takeFrame, deliverBroadcast, ha, updTable]
  · simp [exec, execBroadcast, receive_of_up hup, judgeForm, hform, takeFrame, deliverBroadcast_of_other hclock hload]
  · simp [exec, execBroadcastAbort, receive_of_up hup, takeFrame]
  · simp [exec, execAbortFrame, receive_of_up hup, takeFrame]
  · have hcontext : (s.context .office).inFlight =
        some { request := .refundHold q, answerable := answerable, stage := .pendingHold p } := hf
    simp [exec, execAbortFrame, receive_of_up hup, takeFrame, abortEvent, hcontext, updSettlement]
  · simp only [exec, execAbortFrame, receive_of_up hup, takeFrame, abortEvent_of_short (o := .office) hshort]
  · simp [exec, execFrameDiscarded, hbad, receive_of_up hup, takeFrame, frameBad]
  · rcases hother with hother | hother <;> simp [exec, execFrameDiscarded, hother, receive_of_up hup, takeFrame]
  · simp [exec, execFrameSent, updLink, Link.sent, hslots, hsending, onLine]
  · simp [exec, execRequestFrame, receive_of_not_up hdown]
  · simp [exec, execBroadcast, receive_of_not_up hdown]
  · simp [exec, execAbortFrame, receive_of_not_up hdown]
  · simp [exec, execBroadcastAbort, receive_of_not_up hdown]
  · simp [exec, execFrameDiscarded, receive_of_not_up hdown]
  · subst ha hn hs
    exact Link.pump_of_up hup

end Sys2Proof

/-! ## Notices in their queues

Whom a notice goes to, and its place in a queue (R183, R184). -/

namespace Sys2Proof.Machine

/-- A notice of a kind and subject that no notice queued has joins the tail (R184). -/
theorem placeNotice_of_new {n : Notice} {q : List QueuedNotice} (h : ∀ x ∈ q, x.notice.sameSubject n = false) :
    placeNotice n q = q ++ [{ notice := n, changedAgain := false }] := by
  induction q with
  | nil => rfl
  | cons x xs ih => simp [placeNotice, h x List.mem_cons_self, ih fun y hy => h y (List.mem_cons_of_mem _ hy)]

/-- A notice queued of its kind and subject is updated in place (R184). -/
theorem placeNotice_of_queued {n : Notice} {before after : List QueuedNotice} {x : QueuedNotice}
    (hbefore : ∀ y ∈ before, y.notice.sameSubject n = false) (hx : x.notice.sameSubject n = true) :
    placeNotice n (before ++ x :: after) = before ++ { notice := n, changedAgain := true } :: after := by
  induction before with
  | nil => simp [placeNotice, hx]
  | cons y ys ih =>
    simp [placeNotice, hbefore y List.mem_cons_self, ih fun z hz => hbefore z (List.mem_cons_of_mem _ hz)]

end Sys2Proof.Machine

namespace Sys2Proof

open Machine State

/-- Settles O42, message by message. -/
theorem noticesAreFilteredAndCoalesced : Obligations.NoticesAreFilteredAndCoalesced := by
  intro s
  refine ⟨fun n rest h => ⟨_, rfl, ?_⟩, fun n rest h => ?_, fun m rest h => ?_, fun n rest h => ?_, fun n rest h => ?_,
    fun l rest h => ⟨_, rfl, ?_⟩, fun n => ⟨rfl, rfl, ?_⟩, fun n q => placeNotice_of_new,
    fun n before x after => placeNotice_of_queued⟩
  · simp only [h, updDecoder]
    cases n <;> rfl
  · simp only [exec, execNoticePlacement, h, updDecoder]
  · simp only [exec, execNoticePlacement, h, updDecoder]
  · simp only [exec, execNoticePlacement, h, updDecoder, placeLink]
    rfl
  · simp only [exec, execNoticePlacement, h, updDecoder]
  · simp only [h, updDecoder, updLink]
  · unfold placeWatched
    cases hstation : s.decoder.station.watch.selects n <;> cases hoffice : s.decoder.office.watch.selects n <;>
      simp [hoffice]

end Sys2Proof

/-! ## The requests of the decoder itself

PROFILE SET and its pairs, WATCH SET, CONDITION READ and MARK WARM (R177, R180, R182, R186). -/

namespace Sys2Proof

open Machine Claims State

namespace Machine

/-! ### The tests of a pair (R180) -/

/-- No present lane has a number exactly when it names none (R43). -/
theorem State.presentNat_eq_false_iff {s : State} {n : Nat} :
    s.presentNat n = false ↔ ∀ l : LaneNo, l.val = n → s.lanePresent l = false := by
  unfold presentNat
  split
  · exact ⟨fun h l hl => by subst hl; exact h, fun h => h _ rfl⟩
  · exact ⟨fun _ l hl => absurd l.isLt (by omega), fun _ => rfl⟩

theorem maySetItem_eq_false_iff {o : Origin} {code : Nat} :
    maySetItem o code = false ↔ (o = .station ∧ 9 < code) ∨ (o = .office ∧ code < 10) := by
  cases o <;> simp [maySetItem]

/-- The lane of a pair is bad where it names no present lane for an item held for each lane, or is not 0 for another (R180). -/
theorem pairLane_eq_false_iff {s : State} {p : ProfilePair} :
    (if itemPerLane p.code then s.presentNat p.lane else p.lane == 0) = false ↔
      ((p.code = 8 ∨ p.code = 9) ∧ ∀ l : LaneNo, l.val = p.lane → s.lanePresent l = false)
        ∨ (p.code ≠ 8 ∧ p.code ≠ 9 ∧ p.lane ≠ 0) := by
  by_cases h : p.code = 8 ∨ p.code = 9
  · have hne : ¬ (p.code ≠ 8 ∧ p.code ≠ 9 ∧ p.lane ≠ 0) := by omega
    simp [itemPerLane, h, presentNat_eq_false_iff, hne]
  · simp [itemPerLane, h]
    omega

theorem itemInRange_iff {code value : Nat} : itemInRange code value = true ↔
    (code = 1 ∧ value ≤ 60) ∨ (code = 2 ∧ 3 ≤ value ∧ value ≤ 30)
      ∨ (code = 3 ∧ 5 ≤ value ∧ value ≤ 60) ∨ (code = 4 ∧ 500 ≤ value ∧ value ≤ 5000)
      ∨ ((code = 6 ∨ code = 7) ∧ 1 ≤ value ∧ value ≤ 60) ∨ (code = 8 ∧ value ≤ 2)
      ∨ (code = 9 ∧ 1 ≤ value ∧ value ≤ 15) ∨ ((code = 5 ∨ code = 10 ∨ code = 11) ∧ value ≤ 1) := by
  unfold itemInRange
  split <;> simp_all

/-- The decoder's tests of a pair are those of R180, in their order. -/
theorem checkPair_eq (o : Origin) (s : State) (p : ProfilePair) : checkPair s.presentNat o p = pairFault o s p := by
  unfold checkPair pairFault
  simp only [maySetItem_eq_false_iff, pairLane_eq_false_iff, ← itemInRange_iff (code := p.code)]
  refine if_congr .rfl rfl (if_congr .rfl rfl ?_)
  split_ifs <;> simp_all

/-- The first failing pair of a list is the one named (R180). -/
theorem checkPairs_of_fault {present : Nat → Bool} {o : Origin} {pairs : List ProfilePair} {i : Nat} {p : ProfilePair}
    {cc : ConditionCode} (hp : pairs[i]? = some p) (hfault : checkPair present o p = some cc)
    (hbefore : ∀ q ∈ pairs.take i, checkPair present o q = none) (n : Nat) :
    checkPairs present o n pairs = some (n + i, cc) := by
  induction pairs generalizing i n with
  | nil => simp at hp
  | cons q qs ih =>
    cases i with
    | zero =>
      obtain rfl : q = p := by simpa using hp
      simp [checkPairs, hfault]
    | succ i =>
      have hq : checkPair present o q = none := hbefore q (by simp)
      have hrest := ih (by simpa using hp) (fun x hx => hbefore x (by simp [hx])) (n + 1)
      simp only [checkPairs, hq, hrest, Nat.add_assoc, Nat.add_comm 1]

theorem checkPairs_of_good {present : Nat → Bool} {o : Origin} {pairs : List ProfilePair}
    (h : ∀ q ∈ pairs, checkPair present o q = none) (n : Nat) : checkPairs present o n pairs = none := by
  induction pairs generalizing n with
  | nil => rfl
  | cons q qs ih =>
    simp only [checkPairs, h q List.mem_cons_self]
    exact ih (fun x hx => h x (List.mem_cons_of_mem _ hx)) _

theorem readPolicyOfCode_getD (value : Nat) : (readPolicyOfCode value).getD .lenient =
    if value = 1 then .strict else if value = 2 then .notify else .lenient := by
  unfold readPolicyOfCode
  split <;> simp_all

end Machine

/-! ### The requests -/

section Requests

variable {o : Origin} {s : State}

theorem execProfileSet_of_count {count : Nat} {pairs : List ProfilePair} (h : Waits o (.profileSet count pairs) s)
    (hcount : count = 0 ∨ 32 < count) : exec (.profileSet o) s = .next (s.fail o .badArgument none (blockField 4)) := by
  simp only [exec, execProfileSet, h, if_pos hcount]

theorem execProfileSet_of_fault {count : Nat} {pairs : List ProfilePair} (h : Waits o (.profileSet count pairs) s)
    (hcount : ¬ (count = 0 ∨ 32 < count)) {i : Nat} {cc : ConditionCode}
    (hfault : checkPairs s.presentNat o 0 pairs = some (i, cc)) :
    exec (.profileSet o) s = .next (s.fail o cc none (some { kind := .item, index := i })) := by
  simp only [exec, execProfileSet, h, if_neg hcount, hfault]

theorem execProfileSet_of_good {count : Nat} {pairs : List ProfilePair} (h : Waits o (.profileSet count pairs) s)
    (hcount : ¬ (count = 0 ∨ 32 < count)) (hgood : checkPairs s.presentNat o 0 pairs = none) {u : State}
    (hu : u = { s with decoder := { s.decoder with profile := pairs.foldl Profile.apply s.decoder.profile } }) :
    exec (.profileSet o) s = .next (u.complete o u.profileImage) := by
  subst hu
  simp only [exec, execProfileSet, h, if_neg hcount, hgood, updDecoder]

end Requests

/-- Settles O43, request by request. -/
theorem decoderRequestsAct : Obligations.DecoderRequestsAct := by
  refine ⟨fun o s => ⟨fun count pairs h => ⟨fun hcount => execProfileSet_of_count h hcount, fun h1 h32 i p cc hp hfault hbefore => ?_,
    fun h1 h32 hgood => ⟨_, ?_, rfl⟩⟩, fun lanes counters link h => ⟨fun ho hl => ?_, fun hmay => ?_⟩, fun h => ?_, fun h => ?_⟩,
    fun pr lane value => ⟨rfl, rfl, rfl, rfl, rfl, rfl, rfl, fun l hl => ?_, fun l hl => ?_, rfl, rfl⟩⟩
  · have hall := checkPairs_of_fault (i := i) (o := o) hp (by rw [checkPair_eq, hfault])
      (fun q hq => by rw [checkPair_eq, hbefore q hq]) 0
    rw [Nat.zero_add] at hall
    exact execProfileSet_of_fault h (by omega) hall
  · exact execProfileSet_of_good h (by omega) (checkPairs_of_good (fun q hq => by rw [checkPair_eq, hgood q hq]) 0) rfl
  · simp only [exec, execWatchSet, h, if_pos (And.intro ho hl)]
  · have hallowed : ¬ (o = .office ∧ link = true) := by rcases hmay with rfl | rfl <;> simp
    refine ⟨s.updContext o fun c => { c with watch := { lanes := lanes, counters := counters, link := link } }, ?_, ?_⟩
    · simp only [exec, execWatchSet, h, if_neg hallowed]
    · cases o <;> exact ⟨rfl, rfl, rfl, rfl, rfl, rfl⟩
  · refine ⟨s.updContext o fun c => { c with condition := none }, ?_, ?_⟩
    · simp only [exec, execConditionRead, h]
    · cases o <;> exact ⟨rfl, rfl, rfl, rfl, rfl, rfl⟩
  · exact ⟨_, by simp only [exec, execMarkWarm, h, updDecoder], rfl⟩
  · subst hl
    simp [Profile.apply, readPolicyOfCode_getD]
  · subst hl
    simp [Profile.apply]

end Sys2Proof

/-! ## Request blocks at the decoder

The checks of a block, in their order, and what becomes of one that fails or passes them (R172, R173, R177). -/

namespace Sys2Proof.Machine

open Claims

/-! ### The checks -/

theorem fieldAt_zero_one (block : List Byte) : fieldAt block 0 1 = (byteAt block 0).toNat := by
  cases block <;> simp [fieldAt, byteAt, ofBytes]

/-- A block whose code stands in the request code list spells a request of that code. -/
theorem requestOf_of_codeRow {block : List Byte} {row : CodeRow} (h : codeRow (byteAt block 0).toNat = some row) :
    ∃ r, requestOf block = some r ∧ r.code = (byteAt block 0).toNat := by
  rw [← fieldAt_zero_one] at h ⊢
  unfold codeRow at h
  unfold requestOf
  split at h
  case h_35 => cases h
  all_goals
    rename_i hcode
    simp only [hcode]
    exact ⟨_, rfl, rfl⟩

theorem badArgumentByte_of_first {row : CodeRow} {block : List Byte} {i : Nat} (hi : i < 12) (hgood : ArgsGood row block i)
    (hbad : ¬ ArgsGood row block (i + 1)) : badArgumentByte row block = some (4 + i) := by
  have hbyte : byteAt block (4 + i) &&& ~~~(row.args.getD i 0) ≠ 0 := fun h0 => hbad fun j hj => by
    rcases Nat.lt_succ_iff_lt_or_eq.1 hj with hj | rfl
    · exact hgood j hj
    · exact h0
  have hfind : ((List.range 12).find? fun i => byteAt block (4 + i) &&& ~~~(row.args.getD i 0) != 0) = some i := by
    rw [List.find?_range_eq_some]
    exact ⟨by simpa using hbyte, by simpa using hi, fun j hj => by simpa using hgood j hj⟩
  rw [badArgumentByte, hfind]
  rfl

theorem badArgumentByte_of_good {row : CodeRow} {block : List Byte} (h : ArgsGood row block 12) :
    badArgumentByte row block = none := by
  simpa [badArgumentByte] using fun i hi => h i hi

/-- The length that the list gives for a count (R173). -/
theorem DataLength.eq_bytes_iff {d : DataLength} {len n : Nat} :
    len = d.bytes n ↔ d = .fixed len ∨ ∃ k, d = .each k ∧ len = k * n := by
  cases d <;> simp [bytes, eq_comm]

theorem lengthHolds_iff {row : CodeRow} {o : Origin} {block : List Byte} :
    lengthHolds row (dataLimit o) block = true ↔ LengthGood row o block := by
  have hlimit : dataLimit o = if o = .station then 1024 else 8192 := by cases o <;> rfl
  unfold lengthHolds LengthGood
  simp only [hlimit, Bool.and_eq_true, decide_eq_true_eq]
  refine and_congr_right fun _ => ?_
  cases hc : countArg (byteAt block 0).toNat with
  | none => simp [DataLength.eq_bytes_iff]
  | some c =>
    simp only [Bool.or_eq_true, CountArg.outside, decide_eq_true_eq, beq_iff_eq, DataLength.eq_bytes_iff]
    refine ⟨fun h => ⟨nofun, fun c' n hc' hn hlo hhi => ?_⟩, fun ⟨_, h⟩ => ?_⟩
    · obtain rfl : c = c' := by simpa using hc'
      subst hn
      exact h.resolve_left (by omega)
    · by_cases hout : fieldAt block c.offset c.width < c.lo ∨ c.hi < fieldAt block c.offset c.width
      · exact .inl hout
      · exact .inr (h c _ rfl rfl (by omega) (by omega))

theorem permitted_iff {p : Profile} {o : Origin} {q : Permission} : permitted p o q = true ↔ MayAsk p o q := by
  cases o <;> cases q <;> simp [permitted, MayAsk]

section Checks

variable {p : Profile} {o : Origin} {block : List Byte} {row : CodeRow}

theorem checkBlock_of_code (h : codeRow (byteAt block 0).toNat = none) :
    checkBlock p o block = .failed .invalidField (blockField 0) := by
  simp [checkBlock, h]

/-- A block that passes the checks spells the request that passed, of its code (R173). -/
theorem code_of_passed {r : Request} (h : checkBlock p o block = .passed r) : r.code = (byteAt block 0).toNat := by
  unfold checkBlock at h
  split at h
  · rename_i row r' hrow hr'
    obtain ⟨x, hx, hcode⟩ := requestOf_of_codeRow hrow
    (repeat' split at h) <;> simp_all
  · cases h

variable (hrow : codeRow (byteAt block 0).toNat = some row)

include hrow

theorem checkBlock_of_flags (hflags : byteAt block 1 &&& ~~~row.flags ≠ 0) :
    checkBlock p o block = .failed .invalidField (blockField 1) := by
  obtain ⟨r, hr, -⟩ := requestOf_of_codeRow hrow
  simp only [checkBlock, hrow, hr, if_pos hflags]

variable (hflags : byteAt block 1 &&& ~~~row.flags = 0)

include hflags

theorem checkBlock_of_args {i : Nat} (hi : i < 12) (hgood : ArgsGood row block i) (hbad : ¬ ArgsGood row block (i + 1)) :
    checkBlock p o block = .failed .invalidField (blockField (4 + i)) := by
  obtain ⟨r, hr, -⟩ := requestOf_of_codeRow hrow
  simp [checkBlock, hrow, hr, hflags, badArgumentByte_of_first hi hgood hbad]

variable (hargs : ArgsGood row block 12)

include hargs

theorem checkBlock_of_length (hlen : ¬ LengthGood row o block) :
    checkBlock p o block = .failed .invalidField (blockField 2) := by
  obtain ⟨r, hr, -⟩ := requestOf_of_codeRow hrow
  simp [checkBlock, hrow, hr, hflags, badArgumentByte_of_good hargs, Bool.eq_false_iff.2 (mt lengthHolds_iff.1 hlen)]

variable (hlen : LengthGood row o block)

include hlen

theorem checkBlock_of_permission (hmay : ¬ MayAsk p o row.permission) : checkBlock p o block = .failed .notPermitted none := by
  obtain ⟨r, hr, -⟩ := requestOf_of_codeRow hrow
  simp [checkBlock, hrow, hr, hflags, badArgumentByte_of_good hargs, lengthHolds_iff.2 hlen,
    Bool.eq_false_iff.2 (mt permitted_iff.1 hmay)]

/-- A block that fails no check passes with the request it spells (R173). -/
theorem checkBlock_of_good (hmay : MayAsk p o row.permission) :
    ∃ r, requestOf block = some r ∧ r.code = (byteAt block 0).toNat ∧ checkBlock p o block = .passed r := by
  obtain ⟨r, hr, hcode⟩ := requestOf_of_codeRow hrow
  refine ⟨r, hr, hcode, ?_⟩
  simp [checkBlock, hrow, hr, hflags, badArgumentByte_of_good hargs, lengthHolds_iff.2 hlen, permitted_iff.2 hmay]

end Checks

theorem Request.code_ne_of_isTable {r : Request} (h : r.isTable = true) : r.code ≠ 0x41 := by
  cases r <;> simp_all [isTable, code]

end Sys2Proof.Machine

/-! ### The taking of a block -/

namespace Sys2Proof.Machine.State

open Claims

variable {s : State} {o : Origin} {block : List Byte}

theorem originBusy_iff : s.originBusy o = true ↔
    (s.context o).inFlight.isSome = true ∨ (o = .office ∧ ∃ x ∈ s.link.answers, x.taken = true) := by
  simp [originBusy]

theorem inFlight_of_not_busy (h : s.originBusy o = false) : (s.context o).inFlight = none := by
  simp [originBusy] at h
  exact h.1

/-- A block that meets a busy origin is answered BUSY and not taken (R172). -/
theorem deliver_of_busy (h : s.originBusy o = true) :
    s.deliver o block = s.handAnswer o false (busyAnswer (byteAt block 0).toNat) := if_pos h

/-- A block that fails a check is answered FAILED, and its request is never in flight (R173, R177). -/
theorem deliver_endsWith (h : s.originBusy o = false) {cc : ConditionCode} {fd : Option FieldRef}
    (hc : checkBlock s.decoder.profile o block = .failed cc fd) :
    EndsWith o true (checkFailure (byteAt block 0).toNat cc fd) s (s.deliver o block) := by
  have hnone := inFlight_of_not_busy h
  have hdeliver : s.deliver o block =
      (s.clearCondition o (byteAt block 0).toNat).failBlock o (checkFailure (byteAt block 0).toNat cc fd) := by
    simp only [deliver, h, hc, Bool.false_eq_true, if_false]
  rw [hdeliver]
  unfold clearCondition
  cases o <;> split <;> exact ⟨by rw [← hnone]; rfl, rfl, rfl, rfl, rfl, rfl⟩

theorem deliver_of_passed (h : s.originBusy o = false) {r : Request} (hc : checkBlock s.decoder.profile o block = .passed r) :
    s.deliver o block = (s.clearCondition o (byteAt block 0).toNat).takeRequest o r := by
  simp only [deliver, h, hc, Bool.false_eq_true, if_false]

/-- The part with a request just taken in flight (R172). -/
def withRequest (o : Origin) (r : Request) (s : State) : State :=
  s.updContext o fun c => { c with inFlight := some { request := r, answerable := true, stage := .waiting } }

theorem withRequest_inFlight (o : Origin) (r : Request) (s : State) : ((s.withRequest o r).context o).inFlight =
    some { request := r, answerable := true, stage := .waiting } := by
  cases o <;> rfl

/-- A request that no TABLE CLEAR keeps out goes to its owner, a table request as a claim (R11, R172). -/
theorem takeRequest_of_open {r : Request} (h : r.isTable = false ∨ s.clearing = false) :
    s.takeRequest o r = if r.isTable then (s.withRequest o r).submitClaim o else s.withRequest o r := by
  have hclear : (s.withRequest o r).clearing = s.clearing := rfl
  unfold takeRequest
  rw [← withRequest]
  rcases h with h | h <;> simp [h, hclear]

/-- A table request taken while a TABLE CLEAR runs is answered BUSY (R23, R27). -/
theorem takeRequest_of_clearing {r : Request} (h : r.isTable = true) (hc : s.clearing = true) :
    s.takeRequest o r = (s.withRequest o r).busy o := by
  have hclear : (s.withRequest o r).clearing = true := hc
  unfold takeRequest
  rw [← withRequest]
  simp [h, hclear]

end Sys2Proof.Machine.State

namespace Sys2Proof

open Machine Claims State

/-- Settles O44. -/
theorem blocksAreTakenOrAnswered : Obligations.BlocksAreTakenOrAnswered := by
  intro o block s
  refine ⟨fun h a ha => ?_, fun h cc fd hc => deliver_endsWith h hc, fun h r hc hopen => ?_, fun h r hc ht hclear => ?_,
    fun p => ⟨checkBlock_of_code, fun row hrow => ⟨checkBlock_of_flags hrow, fun hflags => ⟨fun i => checkBlock_of_args hrow hflags,
      fun hargs => ⟨checkBlock_of_length hrow hflags hargs, fun hlen =>
        ⟨checkBlock_of_permission hrow hflags hargs hlen, checkBlock_of_good hrow hflags hargs hlen⟩⟩⟩⟩⟩,
    fun code => ?_, originBusy_iff⟩
  · subst ha
    rw [deliver_of_busy h]
    cases o <;> rfl
  · rw [deliver_of_passed h hc, takeRequest_of_open (by simpa [clearing] using hopen)]
    by_cases hcode : (byteAt block 0).toNat = 0x41 <;> simp only [clearCondition, hcode, if_true, if_false] <;>
      cases ht : r.isTable <;> cases o <;> exact ⟨rfl, rfl, rfl, rfl, rfl, rfl, rfl, rfl, rfl, rfl⟩
  · have hcode : (byteAt block 0).toNat ≠ 0x41 := code_of_passed hc ▸ Request.code_ne_of_isTable ht
    rw [deliver_of_passed h hc, clearCondition, if_neg hcode, takeRequest_of_clearing (s := s.updContext o _) ht hclear]
    cases o
    · exact ⟨rfl, rfl, rfl, rfl, fun _ => ⟨rfl, rfl⟩, nofun⟩
    · exact ⟨rfl, rfl, rfl, rfl, nofun, fun _ => ⟨rfl, rfl⟩⟩
  · unfold countArg
    split <;> simp_all

end Sys2Proof

/-! ## The rules of the notice queues and the answer lists

One notice of a kind and subject in a queue; at most two answers, fills and requests together at the station port; at most one
answer to a taken request and one BUSY in the office answer list (R172, R184, R190, R192, R205). -/

namespace Sys2Proof.Machine

/-! ### Notice queues -/

/-- The kind of a notice with the number of what it is about (R183). -/
def Notice.subject (n : Notice) : Nat × Nat := (n.kindCode, match n with
  | .lane l _ _ => l.val
  | .tally c _ _ _ => c.val
  | .lapse p _ _ => p
  | .link _ _ => 0
  | .miss l _ => l.val
  | .sweep _ _ _ => 0)

theorem Notice.sameSubject_iff {m n : Notice} : m.sameSubject n = true ↔ m.subject = n.subject := by
  cases m <;> cases n <;> simp [sameSubject, subject, kindCode, Fin.val_inj]

/-- A notice differs from what a notice of its own kind and subject differs from. -/
theorem Notice.sameSubject_of_same {l m n : Notice} (h : l.sameSubject m = true) (hn : l.sameSubject n = false) :
    m.sameSubject n = false := by
  rw [Bool.eq_false_iff, Ne, sameSubject_iff] at hn ⊢
  rwa [← sameSubject_iff.1 h]

theorem notice_of_mem_placeNotice {n : Notice} {q : List QueuedNotice} {x : QueuedNotice} (h : x ∈ placeNotice n q) :
    x.notice = n ∨ x ∈ q := by
  induction q with
  | nil => exact .inl (by rw [List.mem_singleton.1 h])
  | cons y ys ih =>
    rw [placeNotice] at h
    split at h
    · rcases List.mem_cons.1 h with rfl | h
      · exact .inl rfl
      · exact .inr (List.mem_cons_of_mem _ h)
    · rcases List.mem_cons.1 h with rfl | h
      · exact .inr List.mem_cons_self
      · exact (ih h).imp_right (List.mem_cons_of_mem _)

/-- A notice placed keeps one notice of a kind and subject (R184). -/
theorem QueueDistinct.place {q : List QueuedNotice} (h : QueueDistinct q) (n : Notice) : QueueDistinct (placeNotice n q) := by
  induction q with
  | nil => exact List.pairwise_singleton _ _
  | cons x xs ih =>
    obtain ⟨hx, hxs⟩ := List.pairwise_cons.1 h
    rw [placeNotice]
    split
    · rename_i hsame
      exact List.pairwise_cons.2 ⟨fun y hy => Notice.sameSubject_of_same hsame (hx y hy), hxs⟩
    · rename_i hother
      refine List.pairwise_cons.2 ⟨fun y hy => ?_, ih hxs⟩
      rcases notice_of_mem_placeNotice hy with rfl | hy
      · simpa using hother
      · exact hx y hy

theorem QueueDistinct.sublist {q q' : List QueuedNotice} (h : QueueDistinct q) (hs : q'.Sublist q) : QueueDistinct q' :=
  List.Pairwise.sublist hs h

/-! ### The office answer list -/

/-- The rules of the office answer list, by whether the office awaits the answer of a request in flight (R172, R205). -/
structure AnswersFit (awaited : Bool) (as : List OfficeAnswer) : Prop where
  taken : as.countP (·.taken) + flagCode awaited ≤ 1
  busy : as.countP (·.answer.status == .busy) ≤ 1
  known : ∀ a ∈ as, a.answer.status ≠ .busy → a.taken = true

theorem officeAnswersOk_iff {s : State} :
    s.OfficeAnswersOk ↔ AnswersFit (s.decoder.office.inFlight.any (·.answerable)) s.link.answers :=
  ⟨fun ⟨htaken, hbusy, hknown⟩ => ⟨htaken, hbusy, hknown⟩, fun ⟨htaken, hbusy, hknown⟩ => ⟨htaken, hbusy, hknown⟩⟩

theorem countP_taken_join (a : OfficeAnswer) (as : List OfficeAnswer) :
    (joinOfficeAnswer a as).countP (·.taken) ≤ as.countP (·.taken) + flagCode a.taken := by
  induction as with
  | nil => cases h : a.taken <;> simp [joinOfficeAnswer, h, flagCode]
  | cons x xs ih =>
    rw [joinOfficeAnswer]
    split
    · cases hx : x.taken <;> cases ha : a.taken <;> simp [hx, flagCode]
    · simp only [List.countP_cons]
      omega

theorem countP_busy_join {a : OfficeAnswer} {as : List OfficeAnswer} (h : as.countP (·.answer.status == .busy) ≤ 1) :
    (joinOfficeAnswer a as).countP (·.answer.status == .busy) ≤ 1 := by
  by_cases htail : a.answer.status ≠ .busy ∨ ∀ x ∈ as, x.answer.status ≠ .busy
  · rw [joinOfficeAnswer_of_tail htail, List.countP_append]
    rcases htail with ha | has
    · simpa [ha] using h
    · rw [List.countP_eq_zero.2 fun x hx => by simpa using has x hx]
      exact (Nat.zero_add _).trans_le List.countP_le_length
  · push Not at htail
    obtain ⟨ha, x, hx, hb⟩ := htail
    clear hx hb
    induction as with
    | nil => simp [joinOfficeAnswer, ha]
    | cons y ys ih =>
      rw [joinOfficeAnswer]
      by_cases hy : y.answer.status = .busy
      · simpa [List.countP_cons, ha, hy] using h
      · simp only [List.countP_cons, hy, beq_iff_eq, if_false, and_false] at h ⊢
        exact ih h

theorem known_join {a : OfficeAnswer} {as : List OfficeAnswer} (ha : a.answer.status ≠ .busy → a.taken = true)
    (has : ∀ x ∈ as, x.answer.status ≠ .busy → x.taken = true) :
    ∀ x ∈ joinOfficeAnswer a as, x.answer.status ≠ .busy → x.taken = true := by
  induction as with
  | nil => simpa [joinOfficeAnswer] using ha
  | cons y ys ih =>
    obtain ⟨hy, hys⟩ := List.forall_mem_cons.1 has
    rw [joinOfficeAnswer]
    split
    · rename_i hbusy
      exact List.forall_mem_cons.2 ⟨fun hne => absurd hbusy.1 hne, hys⟩
    · exact List.forall_mem_cons.2 ⟨hy, ih hys⟩

namespace AnswersFit

variable {b : Bool} {as as' : List OfficeAnswer} {a : OfficeAnswer}

theorem sublist (h : AnswersFit b as) (hs : as'.Sublist as) : AnswersFit b as' where
  taken := (Nat.add_le_add_right (hs.countP_le) _).trans h.taken
  busy := hs.countP_le.trans h.busy
  known x hx := h.known x (hs.subset hx)

theorem nil (b : Bool) : AnswersFit b [] := ⟨by cases b <;> simp [flagCode], by simp, by simp⟩

/-- The office awaits no more than before. -/
theorem less (h : AnswersFit b as) {b' : Bool} (hb : b' = true → b = true) : AnswersFit b' as where
  taken := by
    have hle : flagCode b' ≤ flagCode b := by cases b' <;> cases b <;> simp_all [flagCode]
    exact (Nat.add_le_add_left hle _).trans h.taken
  busy := h.busy
  known := h.known

/-- The office may await an answer while none to a taken request waits (R172). -/
theorem await (h : AnswersFit b as) (hnone : ∀ x ∈ as, x.taken = false) : AnswersFit true as where
  taken := by
    rw [List.countP_eq_zero.2 fun x hx => by simp [hnone x hx]]
    exact Nat.le_refl 1
  busy := h.busy
  known := h.known

/-- The answer awaited joins the list (R205). -/
theorem join_awaited (h : AnswersFit true as) (ha : a.taken = true) : AnswersFit false (joinOfficeAnswer a as) where
  taken := by
    have hjoin := countP_taken_join a as
    have := h.taken
    simp only [ha, flagCode, if_true, Bool.false_eq_true, if_false] at *
    omega
  busy := countP_busy_join h.busy
  known := known_join (fun _ => ha) h.known

/-- A BUSY answer to a block not taken joins the list (R172, R205). -/
theorem join_busy (h : AnswersFit b as) (ha : a.answer.status = .busy) (ht : a.taken = false) :
    AnswersFit b (joinOfficeAnswer a as) where
  taken := by
    have hjoin := countP_taken_join a as
    have := h.taken
    simp only [ht, flagCode, Bool.false_eq_true, if_false] at hjoin
    omega
  busy := countP_busy_join h.busy
  known := known_join (fun hne => absurd ha hne) h.known

end AnswersFit

/-! ### What waits at the office link -/

/-- What waits to be sent after a change waited before it, in the same order. -/
structure Link.Trims (k k' : Link) : Prop where
  answers : k'.answers.Sublist k.answers
  queue : k'.queue.Sublist k.queue

namespace Link

variable {k k' : Link}

theorem Trims.of_eq (ha : k'.answers = k.answers) (hq : k'.queue = k.queue) : k.Trims k' := ⟨ha ▸ .refl _, hq ▸ .refl _⟩

theorem Trims.refl : k.Trims k := ⟨.refl _, .refl _⟩

theorem Trims.trans {k'' : Link} (h : k.Trims k') (h' : k'.Trims k'') : k.Trims k'' :=
  ⟨h'.answers.trans h.answers, h'.queue.trans h.queue⟩

/-- A change that follows one of nothing that waits. -/
theorem Trims.after {k'' : Link} (h : k'.Trims k'') (ha : k'.answers = k.answers) (hq : k'.queue = k.queue) : k.Trims k'' :=
  (of_eq ha hq).trans h

theorem pump_trims (k : Link) : k.Trims k.pump := by
  by_cases h : k.state = .up
  · rw [pump_of_up h]
    exact ⟨List.drop_sublist .., List.drop_sublist ..⟩
  · rw [pump_of_not_up h]
    exact .refl

theorem goUp_trims (k : Link) : k.Trims k.goUp := by unfold goUp; split <;> exact .of_eq rfl rfl

theorem passOn_trims (now : Nat) (k : Link) : k.Trims (k.passOn now) := by
  unfold passOn
  split
  · exact (goUp_trims _).after rfl rfl
  · exact .refl

theorem drop_trims (now : Nat) (why : DropReason) (k : Link) : k.Trims (k.drop now why) := ⟨List.nil_sublist _, .refl _⟩

theorem endDrop_trims (now : Nat) (k : Link) : k.Trims (k.endDrop now) := by
  unfold endDrop
  dsimp only
  split
  · exact .of_eq rfl rfl
  · exact (passOn_trims _ _).after rfl rfl

theorem shortExpiry_trims (now : Nat) (k : Link) : k.Trims (k.shortExpiry now) := by
  unfold shortExpiry
  dsimp only
  split
  · exact .of_eq rfl rfl
  · exact (endDrop_trims _ _).after rfl rfl

theorem opened_trims (now address rate source mode : Nat) (k : Link) : k.Trims (k.opened now address rate source mode) :=
  (passOn_trims _ _).after rfl rfl

theorem sent_trims (k : Link) : k.Trims k.sent := by
  unfold sent
  split
  · split
    · exact (pump_trims _).after rfl rfl
    · exact .refl
  · exact .refl

end Link

/-! ### The station port -/

namespace Port

/-- The rules of the station port, with room for n requests in flight, but for what an empty window and a pending grant say. -/
structure Bounds (n : Nat) (p : Port) : Prop where
  room : p.answersWaiting + flagCode p.filling + n ≤ 2
  fill : p.filling = true → p.fill.length < p.target ∧ p.grantPending = false
  low : 16 ≤ p.target
  high : p.target ≤ 1040

/-- The rules of the station port, with room for n requests in flight (R190, R192). -/
structure Fits (n : Nat) (p : Port) : Prop extends Bounds n p where
  empty : p.window = none → p.answers = [] ∧ p.queue = []
  grant : p.grantPending = true → p.answerWaits = true

theorem answerWaits_iff {p : Port} : p.answerWaits = true ↔ 0 < p.answersWaiting := by
  unfold answerWaits answersWaiting
  cases p.answers <;> (repeat' split) <;> simp

/-- Presenting an item leaves the request side and the number of answers (R193). -/
theorem present_keeps (p : Port) : p.present.answersWaiting = p.answersWaiting ∧ p.present.filling = p.filling
    ∧ p.present.fill = p.fill ∧ p.present.target = p.target ∧ p.present.grantPending = p.grantPending := by
  unfold present
  split <;> simp [answersWaiting, *]

theorem present_empty (p : Port) (h : p.present.window = none) : p.present.answers = [] ∧ p.present.queue = [] := by
  unfold present at h ⊢
  split <;> simp_all

theorem present_queue (p : Port) : p.present.queue.Sublist p.queue := by
  unfold present
  split <;> simp [*]

variable {n : Nat} {p : Port}

theorem Bounds.present (h : p.Bounds n) : p.present.Bounds n := by
  obtain ⟨hwaiting, hfilling, hfill, htarget, hgrant⟩ := present_keeps p
  obtain ⟨hroom, hshort, hlow, hhigh⟩ := h
  exact ⟨by rwa [hwaiting, hfilling], by rwa [hfilling, hfill, htarget, hgrant], by rwa [htarget], by rwa [htarget]⟩

theorem Bounds.present_fits (h : p.Bounds n) (hgrant : p.grantPending = true → p.answerWaits = true) : p.present.Fits n where
  toBounds := h.present
  empty := present_empty p
  grant := by
    obtain ⟨hwaiting, -, -, -, hpending⟩ := present_keeps p
    rwa [answerWaits_iff, hwaiting, hpending, ← answerWaits_iff]

/-- The answer of a request takes its place (R192, R193). -/
theorem Fits.takeAnswer (h : p.Fits (n + 1)) (a : Answer) : (p.takeAnswer a).Fits n := by
  refine Bounds.present_fits ⟨?_, h.fill, h.low, h.high⟩ fun _ => by simp [answerWaits]
  have := h.room
  simp only [answersWaiting, List.length_append, List.length_singleton] at this ⊢
  omega

theorem Fits.less (h : p.Fits n) {m : Nat} (hm : m ≤ n) : p.Fits m :=
  ⟨⟨(Nat.add_le_add_left hm _).trans h.room, h.fill, h.low, h.high⟩, h.empty, h.grant⟩

theorem Fits.misuse (h : p.Fits n) : p.misuse.Fits n := ⟨⟨h.room, h.fill, h.low, h.high⟩, h.empty, h.grant⟩

theorem Fits.clearError (h : p.Fits n) : p.clearError.Fits n := ⟨⟨h.room, h.fill, h.low, h.high⟩, h.empty, h.grant⟩

/-- A grant starts a fill while no answer waits and no grant is pending (R191). -/
theorem startFill_fits (hn : n ≤ 1) (hnone : p.answersWaiting = 0) (hgrant : p.grantPending = false)
    (hempty : p.window = none → p.answers = [] ∧ p.queue = []) : p.startFill.Fits n := by
  refine ⟨⟨?_, fun _ => ⟨by simp [startFill], hgrant⟩, by simp [startFill], by simp [startFill]⟩, hempty, fun hp => ?_⟩
  · have hwaiting : p.startFill.answersWaiting = 0 := hnone
    rw [hwaiting, show flagCode p.startFill.filling = 1 from rfl]
    omega
  · exact absurd (hgrant.symm.trans hp) Bool.false_ne_true

theorem grantIfPending_fits (hn : n ≤ 1) (h : p.Bounds n) (hempty : p.window = none → p.answers = [] ∧ p.queue = []) :
    p.grantIfPending.Fits n := by
  unfold grantIfPending
  split
  · rename_i hgrant
    refine startFill_fits hn ?_ rfl hempty
    have hnone : ¬ 0 < p.answersWaiting := fun hpos => by simp [answerWaits_iff.2 hpos] at hgrant
    exact Nat.eq_zero_of_not_pos hnone
  · rename_i hgrant
    exact ⟨h, hempty, fun hpending => by simpa [hpending] using hgrant⟩

theorem grantIfPending_queue (p : Port) : p.grantIfPending.queue = p.queue := by
  unfold grantIfPending
  split <;> rfl

theorem Fits.taken (h : p.Fits n) (hn : n ≤ 1) : p.taken.Fits n := by
  unfold Port.taken
  split
  · exact h.misuse
  · refine grantIfPending_fits hn (Bounds.present ⟨?_, h.fill, h.low, h.high⟩) (present_empty _)
    have := h.room
    simp only [answersWaiting] at this ⊢
    omega

theorem taken_queue (p : Port) : p.taken.queue.Sublist p.queue := by
  unfold taken
  split
  · exact .refl _
  · rw [grantIfPending_queue]
    exact present_queue _

theorem Fits.abort (h : p.Fits n) : p.abort.Fits n := by
  have hroom := h.room
  unfold Port.abort
  dsimp only
  split
  · rename_i hfilling
    refine ⟨⟨?_, nofun, Nat.le_refl _, (by decide : 16 ≤ 1040)⟩, h.empty, nofun⟩
    simp only [answersWaiting, flagCode, hfilling] at hroom ⊢
    simp
    omega
  · exact ⟨⟨hroom, fun hf => absurd hf ‹_›, h.low, h.high⟩, h.empty, nofun⟩

theorem abort_queue (p : Port) : p.abort.queue = p.queue := by
  unfold abort
  dsimp only
  split <;> rfl

theorem Fits.request (h : p.Fits n) (hn : n ≤ 1) : p.request.Fits n := by
  unfold Port.request
  split
  · rename_i hfilling
    obtain ⟨-, hgrant⟩ := h.fill hfilling
    refine ⟨⟨?_, fun _ => ⟨by simp [startFill], hgrant⟩, by simp [startFill], by simp [startFill]⟩, h.empty, h.grant⟩
    have hroom := h.room
    rwa [hfilling] at hroom
  · split
    · exact ⟨⟨h.room, fun hf => absurd hf ‹_›, h.low, h.high⟩, h.empty, fun _ => ‹_›⟩
    · rename_i hnone
      refine startFill_fits hn (Nat.eq_zero_of_not_pos (mt answerWaits_iff.2 hnone)) ?_ h.empty
      exact Bool.eq_false_iff.2 (mt h.grant hnone)

theorem request_queue (p : Port) : p.request.queue = p.queue := by
  unfold request
  (repeat' split) <;> rfl

/-- The item presented counts as it did, whatever of it has been read (R193). -/
theorem answersWaiting_position {w : OutWindow} (hw : p.window = some w) (position : Nat) :
    ({ p with window := some { w with position := position } } : Port).answersWaiting = p.answersWaiting := by
  obtain ⟨item, _⟩ := w
  cases item <;> simp [answersWaiting, hw]

theorem Fits.readWindow (h : p.Fits n) : p.readWindow.Fits n := by
  unfold Port.readWindow
  dsimp only
  split
  · exact ⟨⟨h.room, h.fill, h.low, h.high⟩, h.empty, h.grant⟩
  · rename_i w hw
    split
    · have hwaiting := answersWaiting_position hw (w.position + 1)
      refine ⟨⟨(congrArg (· + _ + _) hwaiting).trans_le h.room, h.fill, h.low, h.high⟩, nofun, fun hgrant => ?_⟩
      exact answerWaits_iff.2 (hwaiting ▸ answerWaits_iff.1 (h.grant hgrant))
    · exact ⟨⟨h.room, h.fill, h.low, h.high⟩, h.empty, h.grant⟩

theorem readWindow_queue (p : Port) : p.readWindow.queue = p.queue := by
  unfold readWindow
  dsimp only
  (repeat' split) <;> rfl

end Port

end Sys2Proof.Machine

/-! ## Changes that keep the rules of the two ports

One rule for each shared operation: most leave all that the rules speak of, and each of the others keeps them. -/

namespace Sys2Proof.Machine

open Claims

/-- What the rules of the notice queues and the answer lists speak of: the two ports, whether the station has a request in
flight, and whether the office awaits the answer of one. -/
structure PortSide where
  port : Port
  link : Link
  asked : Bool
  awaited : Bool

namespace State

def portSide (s : State) : PortSide :=
  { port := s.port, link := s.link, asked := s.decoder.station.inFlight.isSome,
    awaited := s.decoder.office.inFlight.any (·.answerable) }

/-! ### Operations beside the ports -/

section Beside

variable (s : State)

theorem portSide_congr {s t : State} (hport : t.port = s.port) (hlink : t.link = s.link)
    (hstation : t.decoder.station.inFlight = s.decoder.station.inFlight)
    (hoffice : t.decoder.office.inFlight = s.decoder.office.inFlight) : t.portSide = s.portSide := by
  simp [portSide, hport, hlink, hstation, hoffice]

@[simp] theorem portSide_updClock (f : Clock → Clock) : (s.updClock f).portSide = s.portSide := portSide_congr rfl rfl rfl rfl
@[simp] theorem portSide_updTable (f : Table → Table) : (s.updTable f).portSide = s.portSide := portSide_congr rfl rfl rfl rfl
@[simp] theorem portSide_updSettlement (f : Settlement → Settlement) : (s.updSettlement f).portSide = s.portSide :=
  portSide_congr rfl rfl rfl rfl
@[simp] theorem portSide_updLanes (f : LaneController → LaneController) : (s.updLanes f).portSide = s.portSide :=
  portSide_congr rfl rfl rfl rfl
@[simp] theorem portSide_updTally (f : Tally → Tally) : (s.updTally f).portSide = s.portSide := portSide_congr rfl rfl rfl rfl
@[simp] theorem portSide_updRecord (p : Nat) (f : PassRecord → PassRecord) : (s.updRecord p f).portSide = s.portSide :=
  portSide_congr rfl rfl rfl rfl
@[simp] theorem portSide_setLane (l : LaneNo) (ln : Lane) : (s.setLane l ln).portSide = s.portSide :=
  portSide_congr rfl rfl rfl rfl
@[simp] theorem portSide_raiseLane (ms : List LaneMsg) : (s.raiseLane ms).portSide = s.portSide := portSide_congr rfl rfl rfl rfl
@[simp] theorem portSide_raiseTally (ns : List Notice) : (s.raiseTally ns).portSide = s.portSide := portSide_congr rfl rfl rfl rfl
@[simp] theorem portSide_raiseLapse (n : OwnedNotice) : (s.raiseLapse n).portSide = s.portSide := portSide_congr rfl rfl rfl rfl
@[simp] theorem portSide_raiseLink (n : Notice) : (s.raiseLink n).portSide = s.portSide := portSide_congr rfl rfl rfl rfl
@[simp] theorem portSide_raiseSweep (n : Notice) : (s.raiseSweep n).portSide = s.portSide := portSide_congr rfl rfl rfl rfl

/-- A change of the decoder that leaves both requests in flight. -/
@[simp] theorem portSide_updDecoder {f : Decoder → Decoder} (hstation : (f s.decoder).station.inFlight = s.decoder.station.inFlight)
    (hoffice : (f s.decoder).office.inFlight = s.decoder.office.inFlight) : (s.updDecoder f).portSide = s.portSide :=
  portSide_congr rfl rfl hstation hoffice

/-- A change of a context that leaves its request in flight. -/
@[simp] theorem portSide_updContext (o : Origin) {f : Context → Context} (hf : ∀ c, (f c).inFlight = c.inFlight) :
    (s.updContext o f).portSide = s.portSide := by
  cases o <;> exact portSide_congr rfl rfl (by simp [updContext, Decoder.updContext, hf]) (by simp [updContext, Decoder.updContext, hf])

@[simp] theorem portSide_setStage (o : Origin) (st : Stage) : (s.setStage o st).portSide = s.portSide := by
  cases o <;> simp [portSide, setStage, updContext, Decoder.updContext, Option.any_map]

@[simp] theorem portSide_handEvents (es : List Event) : (s.handEvents es).portSide = s.portSide := by simp [portSide]
@[simp] theorem portSide_submitClaim (o : Origin) : (s.submitClaim o).portSide = s.portSide := by simp [portSide]
@[simp] theorem portSide_dropClaim (o : Origin) : (s.dropClaim o).portSide = s.portSide := by simp [portSide]
@[simp] theorem portSide_serve (o : Origin) : (s.serve o).portSide = s.portSide := by simp [portSide]
@[simp] theorem portSide_serveLane (l : LaneNo) : (s.serveLane l).portSide = s.portSide := by simp [portSide]
@[simp] theorem portSide_setTally (t : Tally) : (s.setTally t).portSide = s.portSide := by simp [portSide]
@[simp] theorem portSide_settleClose : s.settleClose.portSide = s.portSide := by simp [portSide]
@[simp] theorem portSide_finishSecond : s.finishSecond.portSide = s.portSide := by simp [portSide]
@[simp] theorem portSide_rollOver : s.rollOver.portSide = s.portSide := by simp [portSide]
@[simp] theorem portSide_advanceSecond : s.advanceSecond.portSide = s.portSide := by simp [portSide]
@[simp] theorem portSide_applyClockSet (a : ClockSetArgs) : (s.applyClockSet a).portSide = s.portSide := by simp [portSide]
@[simp] theorem portSide_clearRecord (c : Clear) (p : Nat) : (s.clearRecord c p).portSide = s.portSide := by simp [portSide]
@[simp] theorem portSide_reachHeld (p : Nat) (o : Origin) (n : Nat) : (s.reachHeld p o n).portSide = s.portSide := by
  simp [portSide]
@[simp] theorem portSide_pendingToHeld (p : Nat) : (s.pendingToHeld p).portSide = s.portSide := by simp [portSide]
@[simp] theorem portSide_loadBroadcast (a : LoadArgs) : (s.loadBroadcast a).portSide = s.portSide := by simp [portSide]
@[simp] theorem portSide_sweepRecord (r : PassRecord) : (s.sweepRecord r).portSide = s.portSide := by simp [portSide]
@[simp] theorem portSide_sweepEnd : s.sweepEnd.portSide = s.portSide := portSide_congr rfl rfl rfl rfl
@[simp] theorem portSide_lapse (e : HoldEntry) : (s.lapse e).portSide = s.portSide := portSide_congr rfl rfl rfl rfl
@[simp] theorem portSide_applyMerge (e : MergeEntry) : (s.applyMerge e).portSide = s.portSide := by simp [portSide]
@[simp] theorem portSide_frameBad : s.frameBad.portSide = s.portSide := by simp [portSide]
@[simp] theorem portSide_deliverBroadcast (b : List Byte) : (s.deliverBroadcast b).portSide = s.portSide := by simp [portSide]

@[simp] theorem portSide_clearCondition (o : Origin) (n : Nat) : (s.clearCondition o n).portSide = s.portSide := by
  unfold clearCondition
  split <;> simp

@[simp] theorem portSide_runLane (l : LaneNo) (f : LaneEnv → LaneRun → LaneRun) : (s.runLane l f).portSide = s.portSide := by
  unfold runLane
  split <;> simp

@[simp] theorem portSide_runLanes (ls : List LaneNo) (f : LaneEnv → LaneRun → LaneRun) :
    (s.runLanes ls f).portSide = s.portSide := by
  unfold runLanes
  induction ls generalizing s with
  | nil => rfl
  | cons l ls ih => exact (ih _).trans (portSide_runLane ..)

@[simp] theorem portSide_takePresentation (l : LaneNo) (pass : BitVec 32) (media status attempt : Byte) :
    (s.takePresentation l pass media status attempt).portSide = s.portSide := portSide_runLane ..

@[simp] theorem portSide_tellMiss (p : Nat) (f : LaneEnv → LaneRun → LaneRun) : (s.tellMiss p f).portSide = s.portSide := by
  unfold tellMiss
  split <;> simp

@[simp] theorem portSide_admitPass (l : LaneNo) (p : Nat) (consume : Bool) (r : PassRecord) :
    (s.admitPass l p consume r).portSide = s.portSide := by
  simp [admitPass]

@[simp] theorem portSide_refusePass (l : LaneNo) (p : Nat) (reason : Reason) :
    (s.refusePass l p reason).portSide = s.portSide := by
  unfold refusePass
  dsimp only
  split <;> simp

@[simp] theorem portSide_actOn (l : LaneNo) (p : Nat) (d : Decision) : (s.actOn l p d).portSide = s.portSide := by
  unfold actOn
  (repeat' split) <;> simp

end Beside

/-! ### The rules kept -/

theorem portOk_iff {s : State} : s.PortOk ↔ s.port.Fits (flagCode s.decoder.station.inFlight.isSome) :=
  ⟨fun ⟨hroom, hempty, hfill, hgrant, hlow, hhigh⟩ => ⟨⟨hroom, hfill, hlow, hhigh⟩, hempty, hgrant⟩,
    fun ⟨⟨hroom, hfill, hlow, hhigh⟩, hempty, hgrant⟩ => ⟨hroom, hempty, hfill, hgrant, hlow, hhigh⟩⟩

/-- A change that keeps the rules of the notice queues, of the station port and of the office answer list. -/
structure PortsGo (s t : State) : Prop where
  notices : s.NoticesOk → t.NoticesOk
  port : s.PortOk → t.PortOk
  answers : s.OfficeAnswersOk → t.OfficeAnswersOk

theorem flagCode_le_one (b : Bool) : flagCode b ≤ 1 := by cases b <;> decide

namespace PortsGo

variable {s u t : State}

theorem trans (h₁ : PortsGo s u) (h₂ : PortsGo u t) : PortsGo s t where
  notices h := h₂.notices (h₁.notices h)
  port h := h₂.port (h₁.port h)
  answers h := h₂.answers (h₁.answers h)

theorem of_portSide (h : t.portSide = s.portSide) : PortsGo s t := by
  have hport : t.port = s.port := congrArg PortSide.port h
  have hlink : t.link = s.link := congrArg PortSide.link h
  have hasked : t.decoder.station.inFlight.isSome = s.decoder.station.inFlight.isSome := congrArg PortSide.asked h
  have hawaited : t.decoder.office.inFlight.any (·.answerable) = s.decoder.office.inFlight.any (·.answerable) :=
    congrArg PortSide.awaited h
  refine ⟨fun h => ?_, fun h => ?_, fun h => ?_⟩
  · unfold NoticesOk
    rwa [hport, hlink]
  · rw [portOk_iff] at h ⊢
    rwa [hport, hasked]
  · rw [officeAnswersOk_iff] at h ⊢
    rwa [hlink, hawaited]

@[simp] theorem refl : PortsGo s s := of_portSide rfl

theorem ite {c : Prop} [Decidable c] {a b : State} (ha : c → PortsGo s a) (hb : ¬ c → PortsGo s b) :
    PortsGo s (if c then a else b) := by
  split
  · exact ha ‹_›
  · exact hb ‹_›

/-! ### The station port -/

/-- A change of the station port within its rules. -/
theorem updPort {f : Port → Port} (hf : ∀ n ≤ 1, s.port.Fits n → (f s.port).Fits n)
    (hqueue : (f s.port).queue.Sublist s.port.queue) : PortsGo s (s.updPort f) where
  notices := fun ⟨hstation, hoffice⟩ => ⟨hstation.sublist hqueue, hoffice⟩
  port h := portOk_iff.2 (hf _ (flagCode_le_one _) (portOk_iff.1 h))
  answers := id

theorem misuse : PortsGo s (s.updPort Port.misuse) := updPort (fun _ _ h => h.misuse) (.refl _)

/-- A write of port control, bit by bit (R194). -/
theorem writePart {b : Bool} (h : PortsGo s t) : PortsGo s (if b then t else s) := ite (fun _ => h) fun _ => refl

/-! ### The office link -/

/-- A change of the link by which nothing new waits. -/
theorem updLink {f : Link → Link} (hf : s.link.Trims (f s.link)) : PortsGo s (s.updLink f) where
  notices := fun ⟨hstation, hoffice⟩ => ⟨hstation, hoffice.sublist hf.queue⟩
  port := id
  answers h := officeAnswersOk_iff.2 ((officeAnswersOk_iff.1 h).sublist hf.answers)

/-- The entry of the line into DROPPING empties the office answer list (R199). -/
theorem enterDropping (why : DropReason) : PortsGo s (s.enterDropping why) where
  notices := fun ⟨hstation, hoffice⟩ => ⟨hstation, hoffice⟩
  port := id
  answers _ := officeAnswersOk_iff.2 (.nil _)

/-- An event at the line control machine, by what it does there. -/
theorem lineEvent {f : State → State} (h : PortsGo s (f s)) : PortsGo s (s.lineEvent f) := by
  have hpump (v : State) : PortsGo v (v.updLink Link.pump) := updLink (Link.pump_trims _)
  unfold State.lineEvent
  dsimp only
  split
  · exact h.trans ((of_portSide (portSide_raiseLink ..)).trans (hpump _))
  · exact h.trans (hpump _)

theorem lineReadyLow : PortsGo s s.lineReadyLow := by
  unfold State.lineReadyLow
  split
  iterate 3 exact .enterDropping _
  · exact .ite (fun _ => .updLink (Link.endDrop_trims ..)) fun _ => .refl
  iterate 2 exact .refl

theorem carrierChange (high : Bool) : PortsGo s (s.carrierChange high) := by
  unfold State.carrierChange
  split
  iterate 2 exact .updLink (.of_eq rfl rfl)
  · exact .updLink (Link.goUp_trims _)
  · exact .refl

/-! ### Notices -/

theorem placeFor (o : Origin) (n : Notice) : PortsGo s (s.placeFor o n) := by
  cases o with
  | station =>
    refine ⟨fun ⟨hstation, hoffice⟩ => ⟨(hstation.place n).sublist (Port.present_queue _), hoffice⟩, fun h => ?_, id⟩
    have hfits := portOk_iff.1 h
    exact portOk_iff.2 (Port.Bounds.present_fits ⟨hfits.room, hfits.fill, hfits.low, hfits.high⟩ hfits.grant)
  | office =>
    have hpump := Link.pump_trims { s.link with queue := placeNotice n s.link.queue }
    exact ⟨fun ⟨hstation, hoffice⟩ => ⟨hstation, (hoffice.place n).sublist hpump.queue⟩, id,
      fun h => officeAnswersOk_iff.2 ((officeAnswersOk_iff.1 h).sublist hpump.answers)⟩

theorem placeWatched (n : Notice) : PortsGo s (s.placeWatched n) :=
  (writePart (placeFor .station n)).trans (ite (fun _ => placeFor ..) fun _ => refl)

end PortsGo

/-! ### The end of a request -/

theorem Port.takeAnswer_queue (a : Answer) (p : Port) : (p.takeAnswer a).queue.Sublist p.queue := Port.present_queue _

theorem Link.takeAnswer_queue (a : OfficeAnswer) (k : Link) : (k.takeAnswer a).queue.Sublist k.queue := (Link.pump_trims _).queue

/-- An answer handed to a port leaves one notice of a kind and subject. -/
theorem handAnswer_noticesOk {s : State} (h : s.NoticesOk) (o : Origin) (taken : Bool) (a : Answer) :
    (s.handAnswer o taken a).NoticesOk := by
  obtain ⟨hstation, hoffice⟩ := h
  cases o
  · exact ⟨hstation.sublist (Port.takeAnswer_queue ..), hoffice⟩
  · exact ⟨hstation, hoffice.sublist (Link.takeAnswer_queue ..)⟩

section Ends

variable {o : Origin} {b : Bool} {a : Answer} {s t : State}

theorem noticesOk_of_endsWith (h : EndsWith o b a s t) (hs : s.NoticesOk) : t.NoticesOk := by
  obtain ⟨-, -, -, hport, hlink, -⟩ := h
  have hhanded := handAnswer_noticesOk hs o true a
  cases o <;> cases b <;> simp_all [NoticesOk, handAnswer]

/-- The station port keeps its rules where its own request ends, which leaves room for the answer. -/
theorem portOk_of_endsWith_station (h : EndsWith .station b a s t) (hs : s.port.Fits (flagCode b)) : t.PortOk := by
  obtain ⟨hcontext, -, -, hport, -, -⟩ := h
  have hnone : t.decoder.station.inFlight = none := congrArg Context.inFlight hcontext
  rw [portOk_iff, hnone, hport]
  cases b with
  | false => simpa using hs
  | true => simpa [flagCode] using hs.takeAnswer a

theorem portOk_of_endsWith_office (h : EndsWith .office b a s t) (hs : s.PortOk) : t.PortOk := by
  obtain ⟨-, hother, -, hport, -, -⟩ := h
  have hstation : t.decoder.station = s.decoder.station := hother
  rw [portOk_iff] at hs ⊢
  simpa [hport, hstation] using hs

/-- The office answer list keeps its rules where its own request ends, whose answer it has awaited. -/
theorem answersOk_of_endsWith_office (h : EndsWith .office b a s t) (hs : AnswersFit b s.link.answers) : t.OfficeAnswersOk := by
  obtain ⟨hcontext, -, -, -, hlink, -⟩ := h
  have hnone : t.decoder.office.inFlight = none := congrArg Context.inFlight hcontext
  rw [officeAnswersOk_iff, hnone, hlink]
  cases b with
  | false => simpa using hs
  | true => simpa using (hs.join_awaited (a := { answer := a, taken := true }) rfl).sublist (Link.pump_trims _).answers

theorem answersOk_of_endsWith_station (h : EndsWith .station b a s t) (hs : s.OfficeAnswersOk) : t.OfficeAnswersOk := by
  obtain ⟨-, hother, -, -, hlink, -⟩ := h
  have hoffice : t.decoder.office = s.decoder.office := hother
  rw [officeAnswersOk_iff] at hs ⊢
  simpa [hlink, hoffice] using hs

end Ends

namespace PortsGo

variable {s u t : State}

theorem endWith (s : State) (o : Origin) (a : Answer) : PortsGo s (s.endWith o a) := by
  cases hf : (s.context o).inFlight with
  | none => rw [endWith_of_none hf]; exact .refl
  | some f =>
    have hends := endWith_endsWith hf a
    refine ⟨noticesOk_of_endsWith hends, fun h => ?_, fun h => ?_⟩
    · cases o with
      | station =>
        have hsome : s.decoder.station.inFlight = some f := hf
        rw [portOk_iff, hsome] at h
        exact portOk_of_endsWith_station hends (h.less (flagCode_le_one _))
      | office => exact portOk_of_endsWith_office hends h
    · cases o with
      | station => exact answersOk_of_endsWith_station hends h
      | office =>
        have hsome : s.decoder.office.inFlight = some f := hf
        rw [officeAnswersOk_iff, hsome] at h
        exact answersOk_of_endsWith_office hends h

/-- A change beside the ports, then the end of a request. -/
theorem ends (h : u.portSide = s.portSide) (o : Origin) (a : Answer) : PortsGo s (u.endWith o a) :=
  (of_portSide h).trans (endWith u o a)

variable (h : u.portSide = s.portSide) (o : Origin)

include h

@[simp] theorem complete (d : List Byte) : PortsGo s (u.complete o d) := ends h o _
@[simp] theorem found (d : List Byte) : PortsGo s (u.found o d) := ends h o _
@[simp] theorem fail (c : ConditionCode) (p : Option Nat) (f : Option FieldRef) : PortsGo s (u.fail o c p f) := ends h o _
@[simp] theorem busy : PortsGo s (u.busy o) := ends h o _

end PortsGo

end State

end Sys2Proof.Machine

/-! ## The rules of the two ports along every step

The decoder's taking of a block and the requests that do more than end, then every command. -/

namespace Sys2Proof.Machine.State

open Claims

/-! ### Blocks at the decoder -/

section Deliver

variable {s : State} {o : Origin}

theorem clearCondition_originBusy (s : State) (o : Origin) (n : Nat) :
    (s.clearCondition o n).originBusy o = s.originBusy o := by
  unfold clearCondition
  split
  · rfl
  · cases o <;> rfl

/-- The three ways of a block at the decoder (R172, R173): BUSY, FAILED, or taken. -/
theorem deliver_cases (s : State) (o : Origin) (block : List Byte) :
    (s.originBusy o = true ∧ s.deliver o block = s.handAnswer o false (busyAnswer (byteAt block 0).toNat))
    ∨ (s.originBusy o = false ∧ ∃ a, EndsWith o true a s (s.deliver o block))
    ∨ ∃ (u : State) (r : Request), u.originBusy o = false ∧ u.portSide = s.portSide ∧ s.deliver o block = u.takeRequest o r := by
  cases h : s.originBusy o with
  | true => exact .inl ⟨rfl, deliver_of_busy h⟩
  | false =>
    cases hc : checkBlock s.decoder.profile o block with
    | failed cc fd => exact .inr (.inl ⟨rfl, _, deliver_endsWith h hc⟩)
    | passed r =>
      exact .inr (.inr ⟨s.clearCondition o (byteAt block 0).toNat, r, (clearCondition_originBusy ..).trans h, by simp,
        deliver_of_passed h hc⟩)

/-- A request taken is handed on as a claim or answered BUSY at most. -/
theorem takeRequest_portsGo (s : State) (o : Origin) (r : Request) : PortsGo (s.withRequest o r) (s.takeRequest o r) := by
  unfold takeRequest
  rw [← withRequest]
  exact .ite (fun _ => .ite (fun _ => .busy rfl o) fun _ => .of_portSide (by simp)) fun _ => .refl

/-- No answer to a taken request waits where the office is not busy (R172). -/
theorem answersFit_of_not_busy (h : s.originBusy .office = false) (hs : s.OfficeAnswersOk) : AnswersFit true s.link.answers := by
  refine (officeAnswersOk_iff.1 hs).await fun x hx => ?_
  by_contra ht
  exact Bool.false_ne_true (h.symm.trans (originBusy_iff.2 (.inr ⟨rfl, x, hx, by simpa using ht⟩)))

theorem withRequest_office (h : s.originBusy .office = false) (r : Request) : PortsGo s (s.withRequest .office r) :=
  ⟨id, id, fun hs => officeAnswersOk_iff.2 (answersFit_of_not_busy (s := s) h hs)⟩

/-- A block from the office. -/
theorem PortsGo.deliver_office (block : List Byte) : PortsGo s (s.deliver .office block) := by
  rcases deliver_cases s .office block with ⟨-, hd⟩ | ⟨hfree, a, hends⟩ | ⟨u, r, hfree, hu, hd⟩
  · rw [hd]
    refine ⟨fun h => handAnswer_noticesOk h .., id, fun h => officeAnswersOk_iff.2 ?_⟩
    have hjoin := (officeAnswersOk_iff.1 h).join_busy
      (a := { answer := busyAnswer (byteAt block 0).toNat, taken := false }) rfl rfl
    exact hjoin.sublist (Link.pump_trims _).answers
  · exact ⟨noticesOk_of_endsWith hends, portOk_of_endsWith_office hends,
      fun h => answersOk_of_endsWith_office hends (answersFit_of_not_busy hfree h)⟩
  · rw [hd]
    exact (PortsGo.of_portSide hu).trans ((withRequest_office hfree r).trans (takeRequest_portsGo ..))

/-- A block from the station, whose port has had room for one thing more: the block itself, no longer being filled. -/
theorem deliver_station_keeps (s : State) (block : List Byte) :
    (s.NoticesOk → (s.deliver .station block).NoticesOk)
    ∧ (s.port.Fits (flagCode s.decoder.station.inFlight.isSome + 1) → (s.deliver .station block).PortOk)
    ∧ (s.OfficeAnswersOk → (s.deliver .station block).OfficeAnswersOk) := by
  rcases deliver_cases s .station block with ⟨-, hd⟩ | ⟨-, a, hends⟩ | ⟨u, r, hfree, hu, hd⟩
  · rw [hd]
    exact ⟨fun h => handAnswer_noticesOk h .., fun h => portOk_iff.2 (h.takeAnswer _), id⟩
  · exact ⟨noticesOk_of_endsWith hends, fun h => portOk_of_endsWith_station hends (h.less (Nat.le_add_left ..)),
      answersOk_of_endsWith_station hends⟩
  · have hgo := takeRequest_portsGo u .station r
    have haside := PortsGo.of_portSide hu
    have hport : u.port = s.port := congrArg PortSide.port hu
    rw [hd]
    refine ⟨fun h => hgo.notices (haside.notices h), fun h => hgo.port (portOk_iff.2 ?_), fun h => hgo.answers (haside.answers h)⟩
    have hroom : u.port.Fits (flagCode true) := hport ▸ h.less (Nat.le_add_left ..)
    exact hroom

end Deliver

/-- The fill target stays in its range as a word of a block is taken (R191). -/
theorem fillWord_target {p : Port} {n : Nat} (h : p.Fits n) (w : Word) :
    16 ≤ (p.fillWord w).target ∧ (p.fillWord w).target ≤ 1040 := by
  have hlow := h.low
  have hhigh := h.high
  simp only [Port.fillWord, fillTarget]
  (repeat' split) <;> omega

/-- A word that does not complete its block. -/
theorem fillWord_fits {p : Port} {n : Nat} (h : p.Fits n) (hfilling : p.filling = true) {w : Word}
    (hshort : ¬ (p.fillWord w).target ≤ (p.fillWord w).fill.length) : (p.fillWord w).Fits n := by
  obtain ⟨hlow, hhigh⟩ := fillWord_target h w
  obtain ⟨-, hgrant⟩ := h.fill hfilling
  exact ⟨⟨h.room, fun _ => ⟨Nat.lt_of_not_le hshort, hgrant⟩, hlow, hhigh⟩, h.empty, h.grant⟩

/-- A word that completes its block leaves room for what becomes of it. -/
theorem fillWord_done_fits {p : Port} {n : Nat} (h : p.Fits n) (hfilling : p.filling = true) (w : Word) :
    ({ p.fillWord w with filling := false } : Port).Fits (n + 1) := by
  obtain ⟨hlow, hhigh⟩ := fillWord_target h w
  refine ⟨⟨?_, nofun, hlow, hhigh⟩, h.empty, h.grant⟩
  have hroom := h.room
  have hwaiting : ({ p.fillWord w with filling := false } : Port).answersWaiting = p.answersWaiting := rfl
  rw [hfilling, show flagCode true = 1 from rfl] at hroom
  rw [hwaiting, show flagCode false = 0 from rfl]
  omega

theorem portsGo_execRequestWindow {s t : State} {word : Word} (h : execRequestWindow word s = .next t) : PortsGo s t := by
  injection h with h
  subst h
  refine .ite (fun hfilling => .ite (fun _ => ?_) fun hshort => ?_) fun _ => .misuse
  · obtain ⟨hnotices, hport, hanswers⟩ :=
      deliver_station_keeps (s.updPort fun _ => { s.port.fillWord word with filling := false }) (s.port.fillWord word).fill
    exact ⟨hnotices, fun hs => hport (fillWord_done_fits (portOk_iff.1 hs) hfilling word), hanswers⟩
  · exact .updPort (fun n _ hp => fillWord_fits hp hfilling hshort) (.refl _)

/-! ### Requests that do more than end -/

namespace PortsGo

variable {s u : State}

/-- A table request of one claim, by what it does at its turn. -/
theorem tableClaim {o : Origin} {k : State → State} (hk : PortsGo (s.serve o) (k (s.serve o))) : PortsGo s (s.tableClaim o k) :=
  ite (fun _ => (of_portSide (by simp)).trans hk) fun _ => refl

/-- The start of a table request of several claims, by what it does at its turn. -/
theorem tableBegin {o : Origin} {k : State → State} (hk : PortsGo s (k s)) : PortsGo s (s.tableBegin o k) :=
  ite (fun _ => hk) fun _ => refl

/-- A request in flight forgotten without an answer. -/
theorem forget (h : u.portSide = s.portSide) (o : Origin) :
    PortsGo s (u.updContext o fun c => { c with inFlight := none }) := by
  refine (of_portSide h).trans ?_
  cases o
  · exact ⟨id, fun hs => portOk_iff.2 ((portOk_iff.1 hs).less (Nat.zero_le _)), id⟩
  · exact ⟨id, id, fun hs => officeAnswersOk_iff.2 ((officeAnswersOk_iff.1 hs).less nofun)⟩

theorem abortEvent (o : Origin) : PortsGo s (s.abortEvent o) := by
  unfold State.abortEvent
  split <;> simp

theorem writeControl (w : Word) : PortsGo s (s.writeControl w) := by
  unfold State.writeControl
  dsimp only
  refine PortsGo.trans (writePart ?_) (PortsGo.trans (writePart ?_) (PortsGo.trans (writePart ?_) (writePart ?_)))
  · exact updPort (fun _ _ h => h.clearError) (.refl _)
  · exact updPort (fun _ hn h => h.taken hn) (Port.taken_queue _)
  · exact (updPort (fun _ _ h => h.abort) (by rw [Port.abort_queue])).trans (abortEvent _)
  · exact updPort (fun _ hn h => h.request hn) (by rw [Port.request_queue])

theorem receive (r : Received) : PortsGo s (s.receive r) := by
  refine ite (fun _ => ?_) fun _ => refl
  unfold State.takeFrame
  split
  iterate 3 exact refl
  · exact of_portSide (by simp)
  · exact deliver_office _
  · exact of_portSide (by simp)
  · exact abortEvent _

theorem failHeld (o : Origin) (p : Nat) : PortsGo s (s.failHeld o p) := ite (fun _ => by simp) fun _ => by simp

theorem createPass (h : u.portSide = s.portSide) (o : Origin) (a : InsertArgs) (evicted : Option Nat) :
    PortsGo s (u.createPass o a evicted) := complete (by simp [h]) o _

theorem insertNew (o : Origin) (a : InsertArgs) : PortsGo s (s.insertNew o a) := by
  unfold State.insertNew
  split
  · exact createPass rfl ..
  · split
    · exact createPass (by simp) ..
    · simp

theorem insertOver (o : Origin) (a : InsertArgs) (r : PassRecord) : PortsGo s (s.insertOver o a r) := by
  unfold State.insertOver
  (repeat' split) <;> simp [failHeld]

theorem placeHold (o : Origin) (p : Nat) : PortsGo s (s.placeHold o p) := by
  unfold State.placeHold
  dsimp only
  (repeat' split) <;> simp [of_portSide, forget]

theorem heldByMe (o : Origin) (p : Nat) {k : PassRecord → State → State} (hk : ∀ r, PortsGo s (k r s)) :
    PortsGo s (s.heldByMe o p k) := by
  unfold State.heldByMe
  (repeat' split) <;> simp [hk]

theorem settleHeld (o : Origin) (p refunded : Nat) (r : PassRecord) : PortsGo s (s.settleHeld o p refunded r) := by
  unfold State.settleHeld
  dsimp only
  (repeat' split) <;> simp

theorem answerPending (p : Nat) : PortsGo s (s.answerPending p) := by
  unfold State.answerPending
  (repeat' split) <;> simp

theorem loadFor (o : Origin) (a : LoadArgs) : PortsGo s (s.loadFor o a) := by
  unfold State.loadFor
  (repeat' split) <;> simp

theorem collect (o : Origin) (n : Nat) : PortsGo s (s.collect o n) := by
  unfold State.collect
  (repeat' split) <;> simp

theorem confirm (o : Origin) (c : Collection) : PortsGo s (s.confirm o c) := complete (by simp) o _

theorem discard (o : Origin) (c : Collection) : PortsGo s (s.discard o c) := complete (by simp) o _

theorem laneRequest (o : Origin) (mask : LaneMask) (f : LaneEnv → LaneRun → LaneRun) : PortsGo s (s.laneRequest o mask f) :=
  complete (by simp) o _

theorem commitRecord (l : LaneNo) (a : Admission) (r : PassRecord) : PortsGo s (s.commitRecord l a r) :=
  (of_portSide (by simp)).trans (answerPending _)

theorem withdrawRecord (l : LaneNo) (a : Admission) (r : PassRecord) : PortsGo s (s.withdrawRecord l a r) :=
  (of_portSide (by simp)).trans (answerPending _)

/-- An ending claim, by its part at the table and at the settlement unit. -/
theorem endingClaim {l : LaneNo} {k : Admission → PassRecord → State → State} (hk : ∀ a r u, PortsGo u (k a r u)) :
    PortsGo s (s.endingClaim l k) := by
  have hserve : PortsGo s (s.serveLane l) := of_portSide (by simp)
  rw [endingClaim_eq]
  refine PortsGo.trans (u := (s.serveLane l).endPart l k) ?_ (of_portSide (portSide_runLane ..))
  unfold endPart
  (repeat' split)
  · exact hserve.trans (hk ..)
  iterate 2 exact hserve

end PortsGo

end Sys2Proof.Machine.State

/-! ## Every step keeps the rules of the two ports -/

namespace Sys2Proof.Machine.State.PortsGo

variable (s : State)

/-! ### The line, opened and closed -/

theorem linkOpen (address rate source mode : Nat) :
    PortsGo s (s.lineEvent fun u => u.updLink (Link.opened u.now address rate source mode)) :=
  lineEvent (updLink (Link.opened_trims ..))

theorem linkClose : PortsGo s (s.lineEvent fun u => (u.updLink Link.pendClose).enterDropping .close) :=
  lineEvent ((updLink (.of_eq rfl rfl)).trans (enterDropping _))

/-- A change of a line input: no event in DATA ONLY mode, else an event at the line control machine (R197, R198). -/
theorem pin (c : Prop) [Decidable c] {f : Link → Link} (hf : s.link.Trims (f s.link)) {g : State → State}
    (hg : ∀ u, PortsGo u (g u)) :
    PortsGo s (if c then s else if (s.updLink f).link.dataOnly then s.updLink f else (s.updLink f).lineEvent g) :=
  ite (fun _ => refl) fun _ => ite (fun _ => updLink hf) fun _ => (updLink hf).trans (lineEvent (hg _))

theorem lineReadyHigh : PortsGo s s.lineReadyHigh := updLink ((Link.passOn_trims ..).trans (Link.goUp_trims _))

/-! ### The decoder's messages -/

/-- The decoder's taking of a message, then what it does with it. -/
theorem takeMessage {t : State} {f : Decoder → Decoder} (hstation : (f s.decoder).station = s.decoder.station)
    (hoffice : (f s.decoder).office = s.decoder.office) (h : PortsGo (s.updDecoder f) t) : PortsGo s t :=
  (of_portSide (portSide_updDecoder s (by rw [hstation]) (by rw [hoffice]))).trans h

theorem placeLaneNotice (n : Notice) : PortsGo s (s.placeLaneNotice n) := by
  unfold State.placeLaneNotice
  split
  · exact placeFor ..
  · exact placeWatched n

theorem placeLink (n : Notice) : PortsGo s (s.placeLink n) := writePart (placeFor ..)

theorem tick : PortsGo s (Machine.tick s) := by
  unfold Machine.tick
  (repeat' split) <;> exact of_portSide (by simp)

end Sys2Proof.Machine.State.PortsGo

namespace Sys2Proof

open Machine State

/-! ### Every command -/

/-- Every command but the two resets keeps the rules of the two ports. -/
theorem exec_portsGo {i : Instr} (hi : i.resets = false) {s t : State} (h : exec i s = .next t) : PortsGo s t := by
  cases i
  case requestWindow => exact portsGo_execRequestWindow h
  all_goals injection h with h; subst h
  case coldReset | warmReset => exact nomatch hi
  case ignoredWrite => exact .refl
  -- one operation beside the ports
  case intervalClose | presence | presentation => exact .of_portSide (by simp)
  -- the same, where the event can occur
  case operatingSecondAdvance | rollover | readerSilence | passageWindowExpiry | passingLimitExpiry | missWaitExpiry | toneEnd
      | lampBlink | beamSettle | beamBreak | beamRestore | lapseTimerExpiry | collectionVoid | lineDropAtLanes
      | discardedReaderMessage | pacingStart | pacingEnd | tallyEvent =>
    split <;> exact .of_portSide (by simp)
  -- claims of lanes, of the settlement unit and of the table engine itself
  case decisionClaim | sweepStep => (repeat' split) <;> exact .of_portSide (by simp)
  case lapseClaim =>
    dsimp only
    (repeat' split) <;> exact .of_portSide (by simp)
  case commitClaim => exact .ite (fun _ => .endingClaim fun _ _ _ => .commitRecord ..) fun _ => .refl
  case withdrawClaim => exact .ite (fun _ => .endingClaim fun _ _ _ => .withdrawRecord ..) fun _ => .refl
  case clearStep =>
    (repeat' split) <;> simp [PortsGo.of_portSide]
  -- requests that are no table requests
  case clockRead | holdListRead | linkStatus | readyCheck | profileRead | conditionRead | markWarm | tallyProgram | tallyRead
      | tallyClear | laneStatus | profileSet | watchSet | historyRead =>
    (repeat' split) <;> simp
  case laneOpen | laneClose | laneReset => (repeat' split) <;> simp [PortsGo.laneRequest]
  case clockSet =>
    dsimp only
    (repeat' split) <;> simp [PortsGo.of_portSide]
  -- table requests, which act at their turn
  case passInsert | passRead | passDrop | tableSize | tableClear | revokeRead | refundHold | usageCollect | usageConfirm =>
    split
    · refine .tableClaim ?_
      (repeat' split) <;> simp [PortsGo.of_portSide, PortsGo.insertNew, PortsGo.insertOver, PortsGo.failHeld, PortsGo.placeHold,
        PortsGo.collect, PortsGo.confirm, PortsGo.discard]
    · exact .refl
  case revokeLoad =>
    split
    · split
      · exact .tableClaim (.loadFor ..)
      · exact .refl
    · (repeat' split) <;> exact .of_portSide (by simp)
  case refundSettle | refundRelease =>
    split
    · refine .tableClaim ?_
      (repeat' split) <;> simp [PortsGo.heldByMe, PortsGo.settleHeld]
    · exact .refl
  case passFind | dayMerge =>
    split
    · refine .tableBegin ?_
      (repeat' split) <;> simp [PortsGo.of_portSide]
    · exact .refl
  case passFindStep | dayMergeEntry =>
    dsimp only
    (repeat' split) <;> simp [PortsGo.of_portSide]
  -- notices
  case noticePlacement =>
    split <;> split
    · exact .takeMessage _ rfl rfl (.placeLaneNotice ..)
    · exact .refl
    · exact .takeMessage _ rfl rfl (.placeWatched ..)
    · exact .refl
    · exact .takeMessage _ rfl rfl (.placeFor ..)
    · exact .refl
    · exact .takeMessage _ rfl rfl (.placeLink ..)
    · exact .refl
    · exact .takeMessage _ rfl rfl (.placeFor ..)
    · exact .refl
  case missNoticeRemoval =>
    split
    · exact .takeMessage _ rfl rfl (.updLink ⟨.refl _, List.filter_sublist⟩)
    · exact .refl
  -- the station port
  case request | abort | outputTaken | errorClear => exact .writeControl _
  case outputWindow => exact .updPort (fun _ _ h => h.readWindow) (by rw [Port.readWindow_queue])
  case shortTransfer | badCommandByte => exact .ite (fun _ => .misuse) fun _ => .refl
  -- the office link
  case frameSent => exact .updLink (Link.sent_trims _)
  case requestFrame | broadcast | abortFrame | frameDiscarded | broadcastAbort => exact .receive _
  case lineReady => exact .pin _ _ (.of_eq rfl rfl) fun u => .ite (fun _ => .lineReadyHigh u) fun _ => .lineReadyLow
  case carrier high => exact .pin _ _ (.of_eq rfl rfl) fun _ => .carrierChange high
  case clearToSend =>
    exact .pin _ _ (.of_eq rfl rfl) fun _ => .ite (fun _ => .updLink (Link.goUp_trims _)) fun _ => .refl
  case startTimerExpiry | fadeTimerExpiry => exact .ite (fun _ => .lineEvent (.enterDropping _)) fun _ => .refl
  case dropShortExpiry => exact .ite (fun _ => .lineEvent (.updLink (Link.shortExpiry_trims ..))) fun _ => .refl
  case dropLongExpiry => exact .ite (fun _ => .lineEvent (.updLink (Link.endDrop_trims ..))) fun _ => .refl
  case linkOpen =>
    split
    · split
      · simp
      · exact .ite (fun _ => by simp) fun _ => (PortsGo.linkOpen ..).trans (.complete rfl ..)
    · exact .refl
  case linkClose =>
    split
    · split
      · simp
      iterate 4 exact (PortsGo.linkClose s).trans (.complete rfl ..)
      · exact .ite (fun _ => by simp) fun _ => (PortsGo.updLink (.of_eq rfl rfl)).trans (.complete rfl ..)
    · exact .refl

/-! ### The resets -/

theorem coldReset_ports {s t : State} {eight spi : Bool} (h : execColdReset eight spi s = .next t) :
    t.NoticesOk ∧ t.PortOk ∧ t.OfficeAnswersOk := by
  injection h with h
  subst h
  have hsound := resetIsSound eight spi s.link.lineReady s.link.carrier s.link.clearToSend s.pending
  exact ⟨hsound.notices, hsound.port, hsound.officeAnswers⟩

/-- A warm reset empties both ports and forgets both requests in flight (R187, R196, R206). -/
theorem warmReset_ports {s t : State} {eight spi : Bool} (h : execWarmReset eight spi s = .next t) :
    t.NoticesOk ∧ t.PortOk ∧ t.OfficeAnswersOk := by
  obtain ⟨-, -, -, -, -, hdecoder, hport, hlink⟩ := warmReset_blocks h
  refine ⟨?_, portOk_iff.2 ?_, officeAnswersOk_iff.2 ?_⟩
  · unfold State.NoticesOk
    rw [hport, hlink]
    exact ⟨List.Pairwise.nil, List.Pairwise.nil⟩
  · rw [hport, hdecoder]
    exact ⟨⟨Nat.zero_le _, nofun, le_refl 16, show 16 ≤ 1040 by decide⟩, fun _ => ⟨rfl, rfl⟩, nofun⟩
  · rw [hlink]
    exact .nil _

/-! ### Every step -/

/-- Settles O55: a reset empties both ports; of the other commands most leave them, and each operation that reaches a port keeps
its rules, the end of a request because the port has kept room for its answer. -/
theorem portsStayConsistent : Obligations.PortsStayConsistent := by
  intro s t h
  unfold step at h
  split at h
  · injection h with h
    obtain ⟨hnotices, hport, hanswers⟩ := PortsGo.tick s
    exact h ▸ ⟨hnotices, hport, hanswers⟩
  · rename_i c rest _
    cases hc : c.resets with
    | false =>
      obtain ⟨hnotices, hport, hanswers⟩ := exec_portsGo (s := { s with pending := rest }) hc h
      exact ⟨hnotices, hport, hanswers⟩
    | true =>
      cases c with
      | coldReset =>
        obtain ⟨hnotices, hport, hanswers⟩ := coldReset_ports h
        exact ⟨fun _ => hnotices, fun _ => hport, fun _ => hanswers⟩
      | warmReset =>
        obtain ⟨hnotices, hport, hanswers⟩ := warmReset_ports h
        exact ⟨fun _ => hnotices, fun _ => hport, fun _ => hanswers⟩
      | _ => exact nomatch hc

end Sys2Proof

/-! ## Every step goes on -/

namespace Sys2Proof

open Machine State

/-- Every command answers a next state: none faults and none is refused (R176). -/
theorem exec_next (c : Instr) (s : State) : ∃ t, exec c s = .next t := by
  cases c <;> exact ⟨_, rfl⟩

/-- Settles O4: a millisecond that passes and a command taken both give a next state. -/
theorem everyStepGoesOn : Obligations.EveryStepGoesOn := by
  intro s
  unfold State.goesOn step
  split
  · exact ⟨_, rfl⟩
  · exact exec_next _ _

end Sys2Proof

/-! ## The operations of the station port

What each operation makes of the port by the state it meets, and each write of port control by the bits it sets (R189 to R195). -/

namespace Sys2Proof.Machine

/-! ### The request side -/

namespace Port

variable {p : Port}

/-- A REQUEST while FILLING is a misuse and starts the fill again (R191). -/
theorem request_of_filling (h : p.filling = true) :
    p.request = { p with protocolError := true, fill := [], target := 16 } := by
  obtain ⟨_, _, filling, _, _, _, _, _, _, _, _⟩ := p
  cases h
  rfl

theorem request_of_answerWaits (hf : p.filling = false) (ha : p.answerWaits = true) :
    p.request = { p with grantPending := true } := by
  simp [request, hf, ha]

theorem request_of_free (hf : p.filling = false) (ha : p.answerWaits = false) : p.request = p.startFill := by
  simp [request, hf, ha]

/-- A word taken, by the block it gives and the target that this block sets (R191). -/
theorem fillWord_eq {w : Word} {block : List Byte} {target : Nat}
    (hblock : block = (p.fill ++ [w.setWidth 8, (w >>> 8).setWidth 8]).take p.target)
    (htarget : target = if block.length = 4 then (if fieldAt block 2 2 ≤ 1024 then 16 + fieldAt block 2 2 else 16)
      else p.target) : p.fillWord w = { p with fill := block, target := target } := by
  subst htarget hblock
  rfl

/-! ### The output side -/

/-- With no answer waiting, an empty window presents the notice at the queue's head, if there is one (R193). -/
theorem present_of_no_answers (hw : p.window = none) (ha : p.answers = []) :
    p.present = { p with
      queue := p.queue.tail, window := p.queue.head?.map fun q => { item := .notice q, position := 0 } } := by
  obtain ⟨_, _, _, _, _, _, answers, window, _, queue, _⟩ := p
  cases hw
  cases ha
  cases queue <;> rfl

theorem grantIfPending_of_not_pending (h : p.grantPending = false) : p.grantIfPending = p := by
  simp [grantIfPending, h]

theorem grantIfPending_of_answerWaits (h : p.answerWaits = true) : p.grantIfPending = p := by
  simp [grantIfPending, h]

theorem grantIfPending_of_free (hg : p.grantPending = true) (ha : p.answerWaits = false) :
    p.grantIfPending = { p with grantPending := false }.startFill := by
  simp [grantIfPending, hg, ha]

/-- No answer waits where the list is empty and the window shows a notice or nothing (R191). -/
theorem answerWaits_of_notice {notice : Option QueuedNotice} (ha : p.answers = [])
    (hw : p.window = notice.map fun q => { item := .notice q, position := 0 }) : p.answerWaits = false := by
  cases notice <;> simp [answerWaits, ha, hw]

theorem taken_of_empty (h : p.window = none) : p.taken = p.misuse := by
  simp [taken, h]

/-- OUTPUT TAKEN with another answer in the list: it is presented, and a pending grant goes on waiting (R193). -/
theorem taken_of_answers {x : OutWindow} {a : Answer} {rest : List Answer} (hw : p.window = some x)
    (ha : p.answers = a :: rest) :
    p.taken = { p with answers := rest, window := some { item := .answer a, position := 0 } } := by
  have hpresent : ({ p with window := none } : Port).present =
      { p with answers := rest, window := some { item := .answer a, position := 0 } } := present_of_answers rfl ha
  simp only [taken, hw, hpresent]
  exact grantIfPending_of_answerWaits (by simp [answerWaits])

/-- The port as OUTPUT TAKEN leaves it with no answer in the list, a pending grant aside (R193). -/
def nextNotice (p : Port) : Port :=
  { p with queue := p.queue.tail, window := p.queue.head?.map fun q => { item := .notice q, position := 0 } }

theorem taken_of_no_answers {x : OutWindow} (hw : p.window = some x) (ha : p.answers = []) :
    p.taken = p.nextNotice.grantIfPending := by
  have hpresent : ({ p with window := none } : Port).present = p.nextNotice := present_of_no_answers rfl ha
  simp only [taken, hw, hpresent]

theorem nextNotice_answerWaits (ha : p.answers = []) : p.nextNotice.answerWaits = false :=
  answerWaits_of_notice ha rfl

/-- Two bytes side by side are a word, the first the high one (R193). -/
theorem wordOf_eq_append (bs : List Byte) (position : Nat) :
    wordOf bs position = byteAt bs (2 * position + 1) ++ byteAt bs (2 * position) := by
  rw [BitVec.append_def, BitVec.shiftLeftZeroExtend_eq, BitVec.setWidth'_eq]
  rfl

theorem readWindow_of_empty (h : p.window = none) : p.readWindow = { p with readData := 0, protocolError := true } := by
  simp [readWindow, outputWord, misuse, h]

theorem readWindow_of_word {x : OutWindow} (hw : p.window = some x) (h : 2 * x.position < x.item.bytes.length) :
    p.readWindow = { p with
      readData := wordOf x.item.bytes x.position, window := some { x with position := x.position + 1 } } := by
  simp [readWindow, outputWord, hw, h]

theorem readWindow_of_past_end {x : OutWindow} (hw : p.window = some x) (h : x.item.bytes.length ≤ 2 * x.position) :
    p.readWindow = { p with readData := 0, protocolError := true } := by
  simp [readWindow, outputWord, misuse, hw, Nat.not_lt.2 h]

/-- A read of the output window gives the word it shows, in every state of the port (R193). -/
theorem readWindow_readData (p : Port) : p.readWindow.readData = p.outputWord := by
  unfold readWindow
  dsimp only
  (repeat' split) <;> rfl

end Port

/-! ### Writes of port control -/

namespace State

variable {s : State} {w : Word}

/-- A write of port control whose other bits are clear is a write of the bits of b (R194). -/
theorem writeControl_or {b : Word} (hrequest : b.getLsbD 0 = false → w.getLsbD 0 = false)
    (habort : b.getLsbD 1 = false → w.getLsbD 1 = false) (htaken : b.getLsbD 2 = false → w.getLsbD 2 = false)
    (hclear : b.getLsbD 3 = false → w.getLsbD 3 = false) : s.writeControl (w ||| b) = s.writeControl b := by
  have hbit : ∀ i, (b.getLsbD i = false → w.getLsbD i = false) → (w ||| b).getLsbD i = b.getLsbD i := by
    intro i h
    rw [BitVec.getLsbD_or]
    cases hb : b.getLsbD i
    · rw [h hb, Bool.false_or]
    · rw [Bool.or_true]
  simp only [writeControl, hbit 0 hrequest, hbit 1 habort, hbit 2 htaken, hbit 3 hclear]

theorem exec_request_of_alone (habort : w.getLsbD 1 = false) (htaken : w.getLsbD 2 = false) (hclear : w.getLsbD 3 = false) :
    exec (.request w) s = .next (s.updPort Port.request) :=
  congrArg _ (writeControl_or (b := 1) nofun (fun _ => habort) (fun _ => htaken) fun _ => hclear)

theorem exec_abort_of_alone (hrequest : w.getLsbD 0 = false) (htaken : w.getLsbD 2 = false) (hclear : w.getLsbD 3 = false) :
    exec (.abort w) s = .next ((s.updPort Port.abort).abortEvent .station) :=
  congrArg _ (writeControl_or (b := 2) (fun _ => hrequest) nofun (fun _ => htaken) fun _ => hclear)

theorem exec_outputTaken_of_alone (hrequest : w.getLsbD 0 = false) (habort : w.getLsbD 1 = false)
    (hclear : w.getLsbD 3 = false) : exec (.outputTaken w) s = .next (s.updPort Port.taken) :=
  congrArg _ (writeControl_or (b := 4) (fun _ => hrequest) (fun _ => habort) nofun fun _ => hclear)

theorem exec_errorClear_of_alone (hrequest : w.getLsbD 0 = false) (habort : w.getLsbD 1 = false)
    (htaken : w.getLsbD 2 = false) : exec (.errorClear w) s = .next (s.updPort Port.clearError) :=
  congrArg _ (writeControl_or (b := 8) (fun _ => hrequest) (fun _ => habort) (fun _ => htaken) nofun)

/-- A write of port control is a write of its bits from k on, then one of its bits below k: the higher bit acts first (R194). -/
theorem writeControl_split (k : Nat) {high low : Word} (hhigh : ∀ i < 4, high.getLsbD i = (w.getLsbD i && decide (k ≤ i)))
    (hlow : ∀ i < 4, low.getLsbD i = (w.getLsbD i && decide (i < k))) :
    s.writeControl w = (s.writeControl high).writeControl low := by
  have hk : k = 0 ∨ k = 1 ∨ k = 2 ∨ k = 3 ∨ 4 ≤ k := by omega
  simp only [writeControl, hhigh 0, hhigh 1, hhigh 2, hhigh 3, hlow 0, hlow 1, hlow 2, hlow 3, Nat.reduceLT]
  rcases hk with rfl | rfl | rfl | rfl | hk
  iterate 4 simp
  have hbelow : ∀ i < 4, ¬ k ≤ i ∧ i < k := fun i hi => by omega
  simp [hbelow]

theorem exec_request_split (s : State) (w : Word) :
    exec (.request (w ||| 1)) s = .next ((s.writeControl (w &&& 14)).writeControl 1) := by
  refine congrArg _ (writeControl_split 1 ?_ ?_) <;> intro i hi <;> interval_cases i <;> simp

theorem exec_abort_split (s : State) (w : Word) :
    exec (.abort (w ||| 2)) s = .next (((s.writeControl (w &&& 12)).writeControl 2).writeControl (w &&& 1)) := by
  refine congrArg _ ((writeControl_split 1 (high := w &&& 12 ||| 2) ?_ ?_).trans
    (congrArg _ (writeControl_split 2 ?_ ?_))) <;> intro i hi <;> interval_cases i <;> simp

theorem exec_outputTaken_split (s : State) (w : Word) :
    exec (.outputTaken (w ||| 4)) s = .next (((s.writeControl (w &&& 8)).writeControl 4).writeControl (w &&& 3)) := by
  refine congrArg _ ((writeControl_split 2 (high := w &&& 8 ||| 4) ?_ ?_).trans
    (congrArg _ (writeControl_split 3 ?_ ?_))) <;> intro i hi <;> interval_cases i <;> simp

theorem exec_errorClear_split (s : State) (w : Word) :
    exec (.errorClear (w ||| 8)) s = .next ((s.writeControl 8).writeControl (w &&& 7)) := by
  refine congrArg _ (writeControl_split 3 ?_ ?_) <;> intro i hi <;> interval_cases i <;> simp

/-! ### Writes of the request window -/

theorem exec_requestWindow_of_idle (h : s.port.filling = false) (w : Word) :
    exec (.requestWindow w) s = .next (s.updPort Port.misuse) := by
  simp [exec, execRequestWindow, h]

/-- A word that leaves the block short of its target (R191). -/
theorem exec_requestWindow_of_short (h : s.port.filling = true)
    (hshort : (s.port.fillWord w).fill.length < (s.port.fillWord w).target) :
    exec (.requestWindow w) s = .next { s with port := s.port.fillWord w } := by
  simp [exec, execRequestWindow, h, Nat.not_le.2 hshort, updPort]

/-- The word that completes the block hands it to the decoder, and the grant ends (R191, R192). -/
theorem exec_requestWindow_of_complete (h : s.port.filling = true)
    (hdone : (s.port.fillWord w).target ≤ (s.port.fillWord w).fill.length) :
    exec (.requestWindow w) s = .next (State.deliver .station (s.port.fillWord w).fill
      { s with port := { s.port.fillWord w with filling := false } }) := by
  simp [exec, execRequestWindow, h, hdone, updPort]

end State

end Sys2Proof.Machine

namespace Sys2Proof

open Machine State

/-- Settles O45: the port's part by its operations and the order of the control bits, an ABORT by the request in flight and the
stage of its work. -/
theorem thePortTakesARequest : Obligations.ThePortTakesARequest := by
  refine ⟨fun s => ⟨fun w _ habort htaken hclear => ?_, fun w hrequest habort htaken => ?_,
      fun w hrequest htaken hclear => ?_, fun w => ⟨exec_request_split s w, exec_abort_split s w, exec_outputTaken_split s w,
        exec_errorClear_split s w⟩, fun w hidle => exec_requestWindow_of_idle hidle w,
      fun w block target hfilling hblock htarget => ?_⟩, fun o f s hf => ?_, fun o s hnone => ?_, fun s => ⟨rfl, rfl⟩⟩
  · rw [exec_request_of_alone habort htaken hclear, updPort]
    exact ⟨fun hf => by rw [Port.request_of_filling hf], fun hf ha => by rw [Port.request_of_answerWaits hf ha],
      fun hf ha => by rw [Port.request_of_free hf ha, Port.startFill]⟩
  · exact exec_errorClear_of_alone hrequest habort htaken
  · exact exec_abort_of_alone hrequest htaken hclear
  · have hword := Port.fillWord_eq hblock htarget
    refine ⟨fun hshort => ?_, fun hdone => ?_⟩
    · rw [exec_requestWindow_of_short hfilling (by rwa [hword]), hword]
    · rw [exec_requestWindow_of_complete hfilling (by rwa [hword]), hword]
  · obtain ⟨request, answerable, stage⟩ := f
    refine ⟨?_, ?_, ?_, ?_, fun hhold hclear => ?_⟩
    · rintro p rfl rfl
      simp [abortEvent, hf]
    · rintro p q rfl rfl
      simp [abortEvent, hf, updSettlement]
    · rintro rfl rfl
      simp [abortEvent, hf]
    · rintro rfl rfl
      simp [abortEvent, hf, updTable]
    refine abortEvent_of_short fun g hg => ?_
    obtain rfl := Option.some.inj (hf.symm.trans hg)
    exact ⟨hhold, hclear⟩
  · exact abortEvent_of_short fun f hf => absurd (hnone.symm.trans hf) nofun

end Sys2Proof

/-! ## The words the port shows, and its SPI transfers -/

namespace Sys2Proof.Machine

/-- A transfer that ends before its third byte is short (R189). -/
theorem spiAccess_of_short {bytes : List Byte} (h : bytes.length < 3) : spiAccess bytes = .short := by
  match bytes, h with
  | [], _ => rfl
  | [_], _ => rfl
  | [_, _], _ => rfl

/-- The bytes sent past the command byte: the word's two, then 00h (R189). -/
theorem spiSent_of_two (value : Word) (n : Nat) :
    spiSent value (n + 2) = [value.setWidth 8, (value >>> 8).setWidth 8] ++ List.replicate n 0 :=
  List.take_of_length_le (by simp [wordBytes])

namespace State

variable {s : State}

/-- A transfer that is no access sets PROTOCOL ERROR in the SPI personality alone (R189). -/
theorem exec_misused_of_spi (h : s.port.spi = true) :
    exec .shortTransfer s = .next (s.updPort Port.misuse)
      ∧ ∀ command : Byte, command &&& 0x7C ≠ 0 → exec (.badCommandByte command) s = .next (s.updPort Port.misuse) :=
  ⟨congrArg _ (if_pos h), fun _ hbad => congrArg _ (if_pos ⟨h, hbad⟩)⟩

theorem exec_misused_of_parallel (h : s.port.spi = false) :
    exec .shortTransfer s = .next s ∧ ∀ command, exec (.badCommandByte command) s = .next s :=
  ⟨congrArg _ (if_neg (by simp [h])), fun _ => congrArg _ (if_neg (by simp [h]))⟩

theorem exec_outputWindow_of_port {p : Port} (h : s.port.readWindow = p) : exec .outputWindow s = .next { s with port := p } :=
  h ▸ rfl

end State

end Sys2Proof.Machine

namespace Sys2Proof

open Machine State

/-- Settles O46: each read and each OUTPUT TAKEN by what the window shows and what waits behind it. -/
theorem thePortGivesItsOutput : Obligations.ThePortGivesItsOutput := by
  intro s
  refine ⟨fun hw => exec_outputWindow_of_port (Port.readWindow_of_empty hw), fun x hw => ⟨fun hword => ?_, fun hend => ?_⟩,
    fun w hrequest habort hclear => ?_, fun _ _ => rfl, exec_misused_of_spi, exec_misused_of_parallel,
    ⟨rfl, rfl, rfl, _, rfl, Port.readWindow_readData _⟩, fun _ _ _ _ => rfl, fun _ => spiAccess_of_short, spiSent_of_two,
    fun _ _ _ => ⟨rfl, rfl, rfl, rfl⟩⟩
  · rw [← Port.wordOf_eq_append]
    exact exec_outputWindow_of_port (Port.readWindow_of_word hw hword)
  · exact exec_outputWindow_of_port (Port.readWindow_of_past_end hw hend)
  · rw [exec_outputTaken_of_alone hrequest habort hclear, updPort]
    refine ⟨fun hw => ?_, fun x a rest hw ha => ?_, fun x hw ha hgrant => ?_, fun x hw ha hgrant => ?_⟩
    · rw [Port.taken_of_empty hw, Port.misuse]
    · rw [Port.taken_of_answers hw ha]
    · rw [Port.taken_of_no_answers hw ha, Port.grantIfPending_of_not_pending (p := s.port.nextNotice) hgrant, Port.nextNotice]
    · rw [Port.taken_of_no_answers hw ha, Port.grantIfPending_of_free (p := s.port.nextNotice) hgrant (Port.nextNotice_answerWaits ha),
        Port.startFill, Port.nextNotice]

end Sys2Proof

/-! ## The line control machine

What each move of the line makes of the link, and that the transmitter touches nothing the moves do (R197 to R201, R205). -/

namespace Sys2Proof.Machine

namespace Link

variable {k : Link} {now : Nat}

/-! ### The transmitter -/

/-- The transmitter moves what waits and begins frames; the line control machine's own items stay (R205). -/
@[simp] theorem pump_frame (k : Link) : k.pump.state = k.state ∧ k.pump.closePending = k.closePending
    ∧ k.pump.lastReason = k.lastReason ∧ k.pump.address = k.address ∧ k.pump.rate = k.rate
    ∧ k.pump.lineClock = k.lineClock ∧ k.pump.dataOnly = k.dataOnly ∧ k.pump.startTimer = k.startTimer
    ∧ k.pump.fadeTimer = k.fadeTimer ∧ k.pump.dropShort = k.dropShort ∧ k.pump.dropLong = k.dropLong
    ∧ k.pump.shortPassed = k.shortPassed ∧ k.pump.lineReady = k.lineReady ∧ k.pump.carrier = k.carrier
    ∧ k.pump.clearToSend = k.clearToSend ∧ k.pump.lineOut = k.lineOut := by
  by_cases hup : k.state = .up
  · rw [pump_of_up hup]
    simp [filled]
  · simp [pump_of_not_up hup]

/-! ### The start -/

theorem goUp_of_not_starting (h : k.state ≠ .starting) : k.goUp = k := if_neg fun hup => h hup.1

/-- The start completes when all three inputs are high (R198). -/
theorem goUp_of_all_high (hstate : k.state = .starting) (hready : k.readyIn = true) (hcarrier : k.carrierIn = true)
    (hclear : k.clearIn = true) : k.goUp = { k with state := .up, startTimer := none } :=
  if_pos ⟨hstate, hready, hcarrier, hclear⟩

/-- Where STARTING leads by the other two inputs once line-ready is high (R198). -/
theorem goUp_state (hstate : k.state = .starting) (hready : k.readyIn = true) :
    k.goUp.state = if k.carrierIn = true ∧ k.clearIn = true then .up else .starting := by
  by_cases hall : k.carrierIn = true ∧ k.clearIn = true
  · rw [goUp_of_all_high hstate hready hall.1 hall.2, if_pos hall]
  · have hstay : k.goUp = k := if_neg fun hup => hall hup.2.2
    rw [hstay, hstate, if_neg hall]

theorem goUp_goUp (k : Link) : k.goUp.goUp = k.goUp := by
  by_cases h : k.goUp.state = .starting
  · have hstay : k.goUp = k := by
      unfold goUp at h ⊢
      split at h
      · cases h
      · exact if_neg ‹_›
    rw [hstay, hstay]
  · exact goUp_of_not_starting h

theorem passOn_of_not_ready (h : k.readyIn = false) : k.passOn now = k := if_neg fun hon => by simp [h] at hon

theorem passOn_of_ready (hstate : k.state = .armed) (h : k.readyIn = true) :
    k.passOn now = goUp { k with state := .starting, startTimer := some (now + 30000) } := if_pos ⟨hstate, h⟩

/-- Where ARMED leads by the inputs as read (R198). -/
theorem passOn_state (h : k.state = .armed) : (k.passOn now).state =
    if k.readyIn = false then .armed else if k.carrierIn = true ∧ k.clearIn = true then .up else .starting := by
  cases hready : k.readyIn with
  | false => rw [passOn_of_not_ready hready, h]; rfl
  | true =>
    rw [passOn_of_ready h hready, if_neg (by decide)]
    exact goUp_state rfl hready

/-- Once ARMED has been led on there is nothing more to complete. -/
theorem goUp_passOn (h : k.state = .armed) : (k.passOn now).goUp = k.passOn now := by
  cases hready : k.readyIn with
  | false => rw [passOn_of_not_ready hready, goUp_of_not_starting (by simp [h])]
  | true => rw [passOn_of_ready h hready, goUp_goUp]

/-- STARTING runs for 30 seconds (R198). -/
theorem passOn_startTimer (h : k.state = .armed) (hstarting : (k.passOn now).state = .starting) :
    (k.passOn now).startTimer = some (now + 30000) := by
  cases hready : k.readyIn with
  | false => simp [passOn_of_not_ready hready, h] at hstarting
  | true =>
    rw [passOn_of_ready h hready] at hstarting ⊢
    unfold goUp at hstarting ⊢
    split at hstarting
    · cases hstarting
    · rw [if_neg ‹_›]

/-- Leading ARMED on changes the state and the start timer alone (R198). -/
@[simp] theorem passOn_frame (now : Nat) (k : Link) : (k.passOn now).closePending = k.closePending
    ∧ (k.passOn now).lastReason = k.lastReason ∧ (k.passOn now).address = k.address ∧ (k.passOn now).rate = k.rate
    ∧ (k.passOn now).lineClock = k.lineClock ∧ (k.passOn now).dataOnly = k.dataOnly
    ∧ (k.passOn now).dropShort = k.dropShort ∧ (k.passOn now).dropLong = k.dropLong
    ∧ (k.passOn now).shortPassed = k.shortPassed := by
  unfold passOn goUp
  (repeat' split) <;> simp

/-! ### The end of a drop -/

/-- Where the end of a drop leads: DOWN where a close is pending, else ARMED and on (R198). -/
theorem endDrop_state (now : Nat) (k : Link) : (k.endDrop now).state =
    if k.closePending then .down
    else if k.readyIn = false then .armed
    else if k.carrierIn = true ∧ k.clearIn = true then .up else .starting := by
  unfold endDrop
  dsimp only
  split
  · rfl
  · exact passOn_state rfl

theorem endDrop_state_ne (now : Nat) (k : Link) : (k.endDrop now).state ≠ .dropping := by
  rw [endDrop_state]
  (repeat' split) <;> decide

/-- The end of a drop clears the pending close and ends both timers (R198). -/
@[simp] theorem endDrop_ended (now : Nat) (k : Link) : (k.endDrop now).closePending = false
    ∧ (k.endDrop now).dropShort = none ∧ (k.endDrop now).dropLong = none ∧ (k.endDrop now).shortPassed = false := by
  unfold endDrop
  dsimp only
  split
  · simp
  · simpa using ‹¬ k.closePending = true›

/-! ### The notice -/

theorem noticeReason_of_not_dropping (h : k.state ≠ .dropping) : k.noticeReason = .none := if_neg h

end Link

/-! ### Events at the line control machine -/

namespace State

variable {s : State}

theorem lineEvent_link (s : State) (f : State → State) : (s.lineEvent f).link = (f s).link.pump := by
  unfold lineEvent
  dsimp only
  split <;> rfl

theorem lineEvent_congr {f g : State → State} (h : f s = g s) : s.lineEvent f = s.lineEvent g := by
  unfold lineEvent
  rw [h]

/-- An event that leaves the line's state raises no notice (R198). -/
theorem lineEvent_of_same {f : State → State} (h : (f s).link.state = s.link.state) :
    s.lineEvent f = (f s).updLink Link.pump := by
  unfold lineEvent
  simp only [h, ne_eq, not_true_eq_false, if_false]

/-- An event that moves the line raises one notice, of the state it ends in (R198). -/
theorem lineEvent_of_moved {f : State → State} (h : (f s).link.state ≠ s.link.state) : s.lineEvent f =
    ((f s).raiseLink (.link (f s).link.state (f s).link.noticeReason)).updLink Link.pump := by
  unfold lineEvent
  dsimp only
  rw [if_pos h]

/-- The part once an event at the link alone has moved its line to k, not to DROPPING: one LINK notice, and the transmitter goes
on (R198, R205). -/
def lineMoved (k : Link) (s : State) : State :=
  { s with link := k.pump, decoder := { s.decoder with linkMsgs := s.decoder.linkMsgs ++ [.link k.state .none] } }

theorem lineEvent_eq_lineMoved {f : State → State} {k : Link} (hf : f s = { s with link := k })
    (hmoved : k.state ≠ s.link.state) (hdrop : k.state ≠ .dropping) : s.lineEvent f = s.lineMoved k := by
  have hstate : (f s).link.state ≠ s.link.state := hf ▸ hmoved
  rw [lineEvent_of_moved hstate, hf, Link.noticeReason_of_not_dropping hdrop]
  rfl

/-- The part once its line has dropped: the office's request in flight, the lanes and the settlement unit told (R199). -/
def lineDropped (why : DropReason) (s : State) : State :=
  { s with
    link := s.link.drop s.now why,
    decoder := { s.decoder with
      office := s.decoder.office.lineDropped, linkMsgs := s.decoder.linkMsgs ++ [.link .dropping why] },
    lanes := { s.lanes with drops := s.lanes.drops + 1 },
    settlement := { s.settlement with drops := s.settlement.drops + 1 } }

/-- A line that is not dropping drops (R198, R199). -/
theorem lineEvent_enterDropping (h : s.link.state ≠ .dropping) (why : DropReason) :
    s.lineEvent (enterDropping why) = s.lineDropped why := by
  have hmoved : (s.enterDropping why).link.state ≠ s.link.state := h.symm
  rw [lineEvent_of_moved hmoved]
  have hpump : (s.link.drop s.now why).pump = s.link.drop s.now why := Link.pump_of_not_up nofun
  rw [lineDropped, ← hpump]
  rfl

end State

end Sys2Proof.Machine

/-! ## The line's inputs and timers

What each change of an input and each timer's expiry makes of the part (R197 to R199). -/

namespace Sys2Proof.Machine.State

open Claims

variable {s : State}

/-! ### A line that has moved -/

theorem lineMoved_link (k : Link) (s : State) : (s.lineMoved k).link = k.pump := rfl

theorem lineMoved_linkMsgs (k : Link) (s : State) :
    (s.lineMoved k).decoder.linkMsgs = s.decoder.linkMsgs ++ [.link (s.lineMoved k).link.state .none] := by
  simp [lineMoved]

/-- An end of the drop moves the line out of DROPPING (R198). -/
theorem lineEvent_endDrop {f : State → State} {k : Link} {now : Nat} (hf : f s = { s with link := k.endDrop now })
    (h : s.link.state = .dropping) : s.lineEvent f = s.lineMoved (k.endDrop now) :=
  lineEvent_eq_lineMoved hf (h.symm ▸ Link.endDrop_state_ne now k) (Link.endDrop_state_ne now k)

/-- The line as the end of a drop leaves it (R198). -/
theorem lineMoved_endDrop (k : Link) (now : Nat) (s : State) :
    (s.lineMoved (k.endDrop now)).link.state = (if k.closePending then .down else if k.readyIn = false then .armed
        else if k.carrierIn = true ∧ k.clearIn = true then .up else .starting)
      ∧ (s.lineMoved (k.endDrop now)).link.closePending = false ∧ (s.lineMoved (k.endDrop now)).link.dropShort = none
      ∧ (s.lineMoved (k.endDrop now)).link.dropLong = none ∧ (s.lineMoved (k.endDrop now)).link.shortPassed = false := by
  simp [lineMoved_link, Link.endDrop_state]

/-! ### A change of an input -/

/-- In DATA ONLY mode a change of an input is the pin's alone (R197). -/
theorem pin_of_dataOnly {c : Prop} [Decidable c] {f : Link → Link} {g : State → State} (hsame : c → f s.link = s.link)
    (hmode : (f s.link).dataOnly = true) :
    (if c then s else if (s.updLink f).link.dataOnly then s.updLink f else (s.updLink f).lineEvent g) = s.updLink f := by
  split
  · rw [updLink, hsame ‹_›]
  · exact if_pos hmode

/-- In FULL mode a change of an input is an event at the line control machine (R197, R198). -/
theorem pin_of_change {c : Prop} [Decidable c] {f : Link → Link} {g : State → State} (hchange : ¬ c)
    (hmode : (f s.link).dataOnly = false) :
    (if c then s else if (s.updLink f).link.dataOnly then s.updLink f else (s.updLink f).lineEvent g) =
      (s.updLink f).lineEvent g :=
  (if_neg hchange).trans (if_neg (Bool.eq_false_iff.1 hmode))

/-- A change of an input that moves the line, not to DROPPING (R198). -/
theorem pin_eq_lineMoved {c : Prop} [Decidable c] {f : Link → Link} {g : State → State} {k : Link} (hchange : ¬ c)
    (hmode : (f s.link).dataOnly = false) (hg : g (s.updLink f) = { s with link := k })
    (hmoved : k.state ≠ (f s.link).state) (hdrop : k.state ≠ .dropping) :
    (if c then s else if (s.updLink f).link.dataOnly then s.updLink f else (s.updLink f).lineEvent g) = s.lineMoved k :=
  (pin_of_change hchange hmode).trans (lineEvent_eq_lineMoved (s := s.updLink f) hg hmoved hdrop)

theorem exec_pins_of_same (s : State) : exec (.lineReady s.link.lineReady) s = .next s
    ∧ exec (.carrier s.link.carrier) s = .next s ∧ exec (.clearToSend s.link.clearToSend) s = .next s :=
  ⟨congrArg _ (if_pos rfl), congrArg _ (if_pos rfl), congrArg _ (if_pos rfl)⟩

theorem exec_pins_of_dataOnly (hmode : s.link.dataOnly = true) (high : Bool) :
    exec (.lineReady high) s = .next { s with link := { s.link with lineReady := high } }
      ∧ exec (.carrier high) s = .next { s with link := { s.link with carrier := high } }
      ∧ exec (.clearToSend high) s = .next { s with link := { s.link with clearToSend := high } } :=
  ⟨congrArg _ (pin_of_dataOnly (fun h => h ▸ rfl) hmode), congrArg _ (pin_of_dataOnly (fun h => h ▸ rfl) hmode),
    congrArg _ (pin_of_dataOnly (fun h => h ▸ rfl) hmode)⟩

section Full

variable (hmode : s.link.dataOnly = false)

include hmode

/-- Line-ready rising leads ARMED on (R198). -/
theorem exec_lineReady_armed (hpin : s.link.lineReady = false) (h : s.link.state = .armed) : exec (.lineReady true) s =
    .next (s.lineMoved (Link.passOn s.now { s.link with lineReady := true })) := by
  have hpassed := Link.passOn_state (now := s.now) (k := { s.link with lineReady := true }) h
  have hleft : (Link.passOn s.now { s.link with lineReady := true }).state ≠ .armed := by
    rw [hpassed]
    simp only [Link.readyIn, Bool.or_true, Bool.true_eq_false, if_false]
    split <;> decide
  have hdrop : (Link.passOn s.now { s.link with lineReady := true }).state ≠ .dropping := by
    rw [hpassed]
    (repeat' split) <;> decide
  exact congrArg _ (pin_eq_lineMoved (by simp [hpin]) hmode
    (congrArg (fun k => { s with link := k }) (Link.goUp_passOn (k := { s.link with lineReady := true }) h))
    (fun hstate => hleft (hstate.trans h)) hdrop)

/-- Line-ready falling drops a line in use (R198). -/
theorem exec_lineReady_lost (hpin : s.link.lineReady = true)
    (h : s.link.state = .starting ∨ s.link.state = .up ∨ s.link.state = .fading) : exec (.lineReady false) s =
      .next (lineDropped .lineReadyLost { s with link := { s.link with lineReady := false } }) := by
  have hlow : (s.updLink fun k => { k with lineReady := false }).lineReadyLow =
      (s.updLink fun k => { k with lineReady := false }).enterDropping .lineReadyLost := by
    unfold lineReadyLow
    rcases h with h | h | h <;> simp [h]
  have hdrop : s.link.state ≠ .dropping := by rcases h with h | h | h <;> simp [h]
  exact congrArg _ ((pin_of_change (by simp [hpin]) hmode).trans ((lineEvent_congr hlow).trans
    (lineEvent_enterDropping (s := s.updLink fun k => { k with lineReady := false }) hdrop _)))

/-- Line-ready falling ends a drop whose 250 ms have passed (R198). -/
theorem exec_lineReady_dropping (hpin : s.link.lineReady = true) (h : s.link.state = .dropping)
    (hpassed : s.link.shortPassed = true) :
    exec (.lineReady false) s = .next (s.lineMoved (Link.endDrop s.now { s.link with lineReady := false })) := by
  refine congrArg _ ((pin_of_change (by simp [hpin]) hmode).trans
    (lineEvent_endDrop (s := s.updLink fun k => { k with lineReady := false }) ?_ h))
  simp [lineReadyLow, h, hpassed, updLink, now]

/-- Carrier falling fades a line that is UP, for two seconds (R198). -/
theorem exec_carrier_lost (hpin : s.link.carrier = true) (h : s.link.state = .up) : exec (.carrier false) s = .next { s with
    link := { s.link with carrier := false, state := .fading, fadeTimer := some (s.now + 2000) },
    decoder := { s.decoder with linkMsgs := s.decoder.linkMsgs ++ [.link .fading .none] } } := by
  refine congrArg _ ((pin_eq_lineMoved
    (k := { s.link with carrier := false, state := .fading, fadeTimer := some (s.now + 2000) })
    (by simp [hpin]) hmode ?_ ?_ (by simp)).trans ?_)
  · simp [carrierChange, h, updLink, now]
  · simp [h]
  · rw [lineMoved, Link.pump_of_not_up (by simp)]

/-- The carrier's return brings a fading line UP (R198). -/
theorem exec_carrier_fading (hpin : s.link.carrier = false) (h : s.link.state = .fading) : exec (.carrier true) s =
    .next (s.lineMoved { s.link with carrier := true, state := .up, fadeTimer := none }) := by
  refine congrArg _ (pin_eq_lineMoved (by simp [hpin]) hmode ?_ ?_ (by simp))
  · simp [carrierChange, h, updLink]
  · simp [h]

/-- Carrier completes the start where it is the last input to rise (R198). -/
theorem exec_carrier_starting (hpin : s.link.carrier = false) (h : s.link.state = .starting)
    (hready : s.link.lineReady = true) (hclear : s.link.clearToSend = true) : exec (.carrier true) s =
      .next (s.lineMoved { s.link with carrier := true, state := .up, startTimer := none }) := by
  refine congrArg _ (pin_eq_lineMoved (by simp [hpin]) hmode ?_ ?_ (by simp))
  · simp [carrierChange, h, updLink, Link.goUp, Link.readyIn, Link.carrierIn, Link.clearIn, hready, hclear]
  · simp [h]

/-- Carrier falling moves nothing before the line is UP, nor while it drops (R198). -/
theorem exec_carrier_idle (hpin : s.link.carrier = true)
    (h : s.link.state = .starting ∨ s.link.state = .armed ∨ s.link.state = .dropping) :
    exec (.carrier false) s = .next { s with link := { s.link with carrier := false } } := by
  have hstay : (s.updLink fun k => { k with carrier := false }).carrierChange false =
      s.updLink fun k => { k with carrier := false } := by
    unfold carrierChange
    rcases h with h | h | h <;> simp [h]
  have hup : s.link.state ≠ .up := by rcases h with h | h | h <;> simp [h]
  refine congrArg _ ((pin_of_change (by simp [hpin]) hmode).trans ((lineEvent_of_same (by rw [hstay])).trans ?_))
  rw [hstay]
  exact congrArg (fun k => { s with link := k }) (Link.pump_of_not_up (k := { s.link with carrier := false }) hup)

/-- Clear-to-send completes the start where it is the last input to rise (R198). -/
theorem exec_clearToSend_starting (hpin : s.link.clearToSend = false) (h : s.link.state = .starting)
    (hready : s.link.lineReady = true) (hcarrier : s.link.carrier = true) : exec (.clearToSend true) s =
      .next (s.lineMoved { s.link with clearToSend := true, state := .up, startTimer := none }) := by
  refine congrArg _ (pin_eq_lineMoved (by simp [hpin]) hmode ?_ ?_ (by simp))
  · simp [updLink, Link.goUp, Link.readyIn, Link.carrierIn, Link.clearIn, h, hready, hcarrier]
  · simp [h]

end Full

/-! ### The timers -/

/-- The start timer's expiry drops the line (R198). -/
theorem exec_startTimerExpiry (hdue : Expired s s.link.startTimer) (h : s.link.state = .starting) :
    exec .startTimerExpiry s = .next (s.lineDropped .noCarrier) :=
  congrArg _ ((if_pos (due_iff_expired.2 hdue)).trans (lineEvent_enterDropping (by simp [h]) _))

/-- The fade timer's expiry drops the line (R198). -/
theorem exec_fadeTimerExpiry (hdue : Expired s s.link.fadeTimer) (h : s.link.state = .fading) :
    exec .fadeTimerExpiry s = .next (s.lineDropped .noCarrier) :=
  congrArg _ ((if_pos (due_iff_expired.2 hdue)).trans (lineEvent_enterDropping (by simp [h]) _))

section Drops

variable (h : s.link.state = .dropping)

include h

/-- With line-ready high the 250 ms timer's expiry is remembered (R198). -/
theorem exec_dropShortExpiry_high (hdue : Expired s s.link.dropShort) (hready : s.link.readyIn = true) :
    exec .dropShortExpiry s = .next { s with link := { s.link with dropShort := none, shortPassed := true } } := by
  have hstay : s.link.shortExpiry s.now = { s.link with dropShort := none, shortPassed := true } := if_pos hready
  refine congrArg _ ((if_pos (due_iff_expired.2 hdue)).trans ((lineEvent_of_same ?_).trans ?_))
  · rw [updLink_link, hstay]
  · refine congrArg (fun k => { s with link := k }) ?_
    rw [updLink_link, hstay]
    exact Link.pump_of_not_up (by simp [h])

/-- With line-ready low the 250 ms timer's expiry ends the drop (R198). -/
theorem exec_dropShortExpiry_low (hdue : Expired s s.link.dropShort) (hready : s.link.readyIn = false) :
    exec .dropShortExpiry s =
      .next (s.lineMoved (Link.endDrop s.now { s.link with dropShort := none, shortPassed := true })) :=
  congrArg _ ((if_pos (due_iff_expired.2 hdue)).trans (lineEvent_endDrop
    (congrArg (fun k => { s with link := k }) (if_neg (Bool.eq_false_iff.1 hready))) h))

/-- The two second timer's expiry ends the drop (R198). -/
theorem exec_dropLongExpiry (hdue : Expired s s.link.dropLong) :
    exec .dropLongExpiry s = .next (s.lineMoved (s.link.endDrop s.now)) :=
  congrArg _ ((if_pos (due_iff_expired.2 hdue)).trans (lineEvent_endDrop rfl h))

end Drops

end Sys2Proof.Machine.State

namespace Sys2Proof

open Machine State

/-- Settles O48, input by input and timer by timer, by the state that each meets. -/
theorem theLineMovesByInputsAndTimers : Obligations.TheLineMovesByInputsAndTimers := by
  refine ⟨fun s => ⟨exec_pins_of_same s, exec_pins_of_dataOnly, fun hmode => ⟨fun hpin h => ?_, fun hpin h => ?_,
      fun hpin h hpassed => ?_, exec_carrier_lost hmode, fun hpin h => ?_, fun hpin h hready hclear => ?_,
      fun h hpin => exec_carrier_idle hmode hpin h, fun hpin h hready hcarrier => ?_⟩⟩,
    fun s => ⟨⟨fun hdue h => ?_, fun hdue h => ?_⟩, fun h hdue => ⟨fun hready => ?_, fun hready => ?_⟩, fun h hdue => ?_⟩⟩
  · refine ⟨_, exec_lineReady_armed hmode hpin h, ?_, lineMoved_linkMsgs .., rfl, rfl, rfl, rfl, rfl⟩
    have hpassed := Link.passOn_state (now := s.now) (k := { s.link with lineReady := true }) h
    simpa [lineMoved_link, Link.readyIn, Link.carrierIn, Link.clearIn, hmode] using hpassed
  · exact ⟨_, exec_lineReady_lost hmode hpin h, rfl, rfl, rfl, rfl, rfl, rfl, rfl, rfl, rfl, rfl, rfl, rfl, rfl, rfl⟩
  · obtain ⟨hstate, hpending, hshort, hlong, hno⟩ :=
      lineMoved_endDrop { s.link with lineReady := false } s.now s
    refine ⟨_, exec_lineReady_dropping hmode hpin h hpassed, ?_, hpending, hshort, hlong, hno, lineMoved_linkMsgs .., rfl, rfl,
      rfl, rfl, rfl⟩
    simpa [Link.readyIn, hmode] using hstate
  · exact ⟨_, exec_carrier_fading hmode hpin h, by simp [lineMoved_link], by simp [lineMoved_link], by simp [lineMoved_link], rfl,
      rfl, rfl⟩
  · exact ⟨_, exec_carrier_starting hmode hpin h hready hclear, by simp [lineMoved_link], by simp [lineMoved_link],
      by simp [lineMoved_link], rfl, rfl, rfl⟩
  · exact ⟨_, exec_clearToSend_starting hmode hpin h hready hcarrier, by simp [lineMoved_link], by simp [lineMoved_link],
      by simp [lineMoved_link], rfl, rfl, rfl⟩
  · exact ⟨_, exec_startTimerExpiry hdue h, rfl, rfl, rfl, rfl, rfl, rfl, rfl, rfl, rfl, rfl, rfl, rfl, rfl⟩
  · exact ⟨_, exec_fadeTimerExpiry hdue h, rfl, rfl, rfl, rfl, rfl, rfl, rfl, rfl, rfl, rfl, rfl⟩
  · exact ⟨_, exec_dropShortExpiry_high h hdue hready, rfl⟩
  · obtain ⟨hstate, hpending, hshort, hlong, hno⟩ :=
      lineMoved_endDrop { s.link with dropShort := none, shortPassed := true } s.now s
    have hlow : Link.readyIn { s.link with dropShort := none, shortPassed := true } = false := hready
    refine ⟨_, exec_dropShortExpiry_low h hdue hready, ?_, hpending, hshort, hlong, hno, lineMoved_linkMsgs ..⟩
    rw [hstate, if_pos hlow]
  · obtain ⟨hstate, hpending, hshort, hlong, -⟩ := lineMoved_endDrop s.link s.now s
    exact ⟨_, exec_dropLongExpiry h hdue, hstate, hpending, hshort, hlong, lineMoved_linkMsgs ..⟩

end Sys2Proof

/-! ## LINK OPEN and LINK CLOSE -/

namespace Sys2Proof.Machine

open Claims

/-- The settings of an open are stored, and the rest of the link but its state and start timer stays (R200). -/
theorem Link.opened_settings (now address rate source mode : Nat) (k : Link) :
    (k.opened now address rate source mode).address = address ∧ (k.opened now address rate source mode).rate = rate
      ∧ (k.opened now address rate source mode).lineClock = decide (source = 1)
      ∧ (k.opened now address rate source mode).dataOnly = decide (mode = 1)
      ∧ (k.opened now address rate source mode).lastReason = k.lastReason := by
  simp [opened, beq_eq_decide]

/-- Where an open leads by the mode and the inputs (R197, R198, R200). -/
theorem Link.opened_state (now address rate source mode : Nat) (k : Link) :
    (k.opened now address rate source mode).state =
      if mode = 1 ∨ (k.lineReady = true ∧ k.carrier = true ∧ k.clearToSend = true) then .up
      else if k.lineReady then .starting else .armed := by
  rw [opened, passOn_state rfl]
  by_cases hmode : mode = 1
  · simp [readyIn, carrierIn, clearIn, hmode]
  · cases hready : k.lineReady <;> simp [readyIn, carrierIn, clearIn, hmode]

namespace State

variable {s : State} {o : Origin} {address rate source mode : Nat}

section Open

variable (hwaits : Waits o (.linkOpen address rate source mode) s)

include hwaits

theorem exec_linkOpen_badArgument {off : Nat} (hbad : checkLinkOpen address rate source mode = some off) :
    exec (.linkOpen o) s = .next (s.fail o .badArgument none (blockField off)) := by
  simp only [exec, execLinkOpen, hwaits, hbad]

variable (hgood : checkLinkOpen address rate source mode = none)

include hgood

theorem exec_linkOpen_outOfSequence (h : s.link.state ≠ .down) :
    exec (.linkOpen o) s = .next (s.fail o .outOfSequence none none) := by
  simp only [exec, execLinkOpen, hwaits, hgood, if_pos h]

/-- An open of a line that is DOWN moves it and answers its state (R200). -/
theorem exec_linkOpen_down (h : s.link.state = .down) : exec (.linkOpen o) s =
    .next ((s.lineMoved (s.link.opened s.now address rate source mode)).complete o
      (img1 (s.lineMoved (s.link.opened s.now address rate source mode)).link.state.code)) := by
  have hstate := Link.opened_state s.now address rate source mode s.link
  have hmoved : (s.lineEvent fun u => u.updLink (Link.opened u.now address rate source mode)) =
      s.lineMoved (s.link.opened s.now address rate source mode) := by
    refine lineEvent_eq_lineMoved rfl ?_ ?_
    all_goals
      rw [hstate]
      (repeat' split) <;> simp [h]
  simp only [exec, execLinkOpen, hwaits, hgood, if_neg (not_not.2 h), hmoved]

end Open

section Close

variable (hwaits : Waits o .linkClose s)

include hwaits

theorem exec_linkClose_down (h : s.link.state = .down) :
    exec (.linkClose o) s = .next (s.fail o .outOfSequence none none) := by
  simp only [exec, execLinkClose, hwaits, h]

theorem exec_linkClose_double (h : s.link.state = .dropping) (hpending : s.link.closePending = true) :
    exec (.linkClose o) s = .next (s.fail o .double none none) := by
  simp only [exec, execLinkClose, hwaits, h, if_pos hpending]

/-- A close of a line that drops is made pending (R201). -/
theorem exec_linkClose_pending (h : s.link.state = .dropping) (hpending : s.link.closePending = false) :
    exec (.linkClose o) s =
      .next (State.complete o (img1 5) { s with link := { s.link with closePending := true } }) := by
  have hcode : (s.updLink Link.pendClose).link.state.code = 5 := congrArg LineState.code h
  have hclosed : exec (.linkClose o) s = .next (State.complete o (img1 5) (s.updLink Link.pendClose)) := by
    simp only [exec, execLinkClose, hwaits, h, if_neg (Bool.eq_false_iff.1 hpending), hcode]
  exact hclosed

/-- A close of a line in use drops it with reason CLOSE (R201). -/
theorem exec_linkClose_inUse (hdown : s.link.state ≠ .down) (hdrop : s.link.state ≠ .dropping) :
    exec (.linkClose o) s = .next (((s.updLink Link.pendClose).lineDropped .close).complete o (img1 5)) := by
  have hdropped : (s.lineEvent fun u => (u.updLink Link.pendClose).enterDropping .close) =
      (s.updLink Link.pendClose).lineDropped .close := lineEvent_enterDropping (s := s.updLink Link.pendClose) hdrop _
  have hcode : ((s.updLink Link.pendClose).lineDropped .close).link.state.code = 5 := rfl
  cases h : s.link.state with
  | down => exact absurd h hdown
  | dropping => exact absurd h hdrop
  | armed | starting | up | fading => simp only [exec, execLinkClose, hwaits, h, hdropped, hcode]

end Close

end State

end Sys2Proof.Machine

namespace Sys2Proof

open Machine State

/-- Settles O47, by the tests of an open and by the line state that an open or a close meets. -/
theorem theLineOpensAndCloses : Obligations.TheLineOpensAndCloses := by
  refine ⟨fun _ _ _ _ => rfl, fun o s => ⟨fun address rate source mode hwaits => ⟨fun off => exec_linkOpen_badArgument hwaits,
    exec_linkOpen_outOfSequence hwaits, fun hgood h => ?_⟩, fun hwaits => ⟨exec_linkClose_down hwaits,
    exec_linkClose_double hwaits, exec_linkClose_pending hwaits, fun hdown hdrop => ?_⟩⟩⟩
  · obtain ⟨haddress, hrate, hclock, hmode, hreason⟩ := Link.opened_settings s.now address rate source mode s.link
    refine ⟨_, exec_linkOpen_down hwaits hgood h, ?_, ?_, ?_, ?_, ?_, ?_, fun hstarting => ?_, ?_, ?_, rfl, rfl, rfl, rfl, rfl, rfl⟩
    · cases o <;> rfl
    · simpa [lineMoved_link] using haddress
    · simpa [lineMoved_link] using hrate
    · simpa [lineMoved_link] using hclock
    · simpa [lineMoved_link] using hmode
    · simpa [lineMoved_link] using Link.opened_state s.now address rate source mode s.link
    · simp only [lineMoved_link, Link.pump_frame] at hstarting ⊢
      exact Link.passOn_startTimer rfl hstarting
    · simpa [lineMoved_link] using hreason
    · simp [lineMoved]
  · exact ⟨_, exec_linkClose_inUse hwaits hdown hdrop, rfl, rfl, rfl, rfl, rfl, rfl, rfl, rfl⟩

end Sys2Proof

/-! ## The rules of the line

Each timer runs exactly in its state, and nothing waits that could be in a slot (R197 to R199, R205). The moves of the line keep
the first and the transmitter restores the second. -/

namespace Sys2Proof.Machine

namespace Link

/-- The rules of the line's timers, of its marks and of its slots by its state, whatever its inputs (R198, R199, R205). -/
structure Fits (k : Link) : Prop where
  start : k.startTimer.isSome = true ↔ k.state = .starting
  fade : k.fadeTimer.isSome = true ↔ k.state = .fading
  long : k.dropLong.isSome = true ↔ k.state = .dropping
  short : k.dropShort.isSome = true ↔ k.state = .dropping ∧ k.shortPassed = false
  passed : k.shortPassed = true → k.state = .dropping
  pending : k.closePending = true → k.state = .dropping
  two : k.slots.length ≤ 2
  begun : k.sending = true → k.slots ≠ []
  idle : k.state ≠ .up → k.state ≠ .fading → k.slots = [] ∧ k.sending = false

/-- The rules of the line but for what the transmitter has yet to fill: the line does not stay ARMED with line-ready high (R198). -/
structure Steady (k : Link) : Prop extends Fits k where
  armed : k.state = .armed → k.readyIn = false

variable {k : Link}

theorem ok_iff : k.Ok ↔ k.Steady ∧ (k.state = .up → k.slots.length < 2 → k.answers = [] ∧ k.queue = []) :=
  ⟨fun ⟨hstart, hfade, hlong, hshort, hpassed, hpending, harmed, htwo, hbegun, hidle, hfilled⟩ =>
    ⟨⟨⟨hstart, hfade, hlong, hshort, hpassed, hpending, htwo, hbegun, hidle⟩, harmed⟩, hfilled⟩,
  fun ⟨⟨⟨hstart, hfade, hlong, hshort, hpassed, hpending, htwo, hbegun, hidle⟩, harmed⟩, hfilled⟩ =>
    ⟨hstart, hfade, hlong, hshort, hpassed, hpending, harmed, htwo, hbegun, hidle, hfilled⟩⟩

theorem Ok.steady (h : k.Ok) : k.Steady := (ok_iff.1 h).1

theorem Ok.fits (h : k.Ok) : k.Fits := h.steady.toFits

/-! ### The transmitter -/

/-- Both slots are filled, or nothing waits (R205). -/
theorem filled_full (k : Link) (h : (k.filled (2 - k.slots.length)).slots.length < 2) :
    (k.filled (2 - k.slots.length)).answers = [] ∧ (k.filled (2 - k.slots.length)).queue = [] := by
  simp only [filled, waitingFrames, List.length_append, List.length_take, List.length_map] at h
  simp only [filled, List.drop_eq_nil_iff]
  omega

theorem filled_slots_le (h : k.slots.length ≤ 2) : (k.filled (2 - k.slots.length)).slots.length ≤ 2 := by
  simp only [filled, List.length_append, List.length_take]
  omega

/-- The transmitter fills what is to be filled and begins only a frame that it has (R205). -/
theorem Steady.pump (h : k.Steady) : k.pump.Ok := by
  by_cases hup : k.state = .up
  · have hslots (hs : k.sending = true) : (k.filled (2 - k.slots.length)).slots ≠ [] := by simp [filled, h.begun hs]
    rw [pump_of_up hup]
    refine ok_iff.2 ⟨⟨⟨h.start, h.fade, h.long, h.short, h.passed, h.pending, filled_slots_le h.two, ?_,
      fun hne => absurd hup hne⟩, h.armed⟩, fun _ => filled_full k⟩
    intro hsending
    rcases Bool.or_eq_true_iff.1 hsending with hs | hs
    · exact hslots hs
    · simpa using (Bool.and_eq_true_iff.1 hs).1
  · rw [pump_of_not_up hup]
    exact ok_iff.2 ⟨h, fun hstate => absurd hstate hup⟩

/-- What waits is beside the rules that the transmitter does not restore. -/
theorem Steady.waiting (h : k.Steady) (answers : List OfficeAnswer) (queue : List QueuedNotice) :
    ({ k with answers := answers, queue := queue } : Link).Steady :=
  ⟨⟨h.start, h.fade, h.long, h.short, h.passed, h.pending, h.two, h.begun, h.idle⟩, h.armed⟩

theorem takeAnswer_ok (h : k.Ok) (a : OfficeAnswer) : (k.takeAnswer a).Ok := (h.steady.waiting _ _).pump

theorem place_ok (h : k.Ok) (n : Notice) : (Link.pump { k with queue := placeNotice n k.queue }).Ok :=
  (h.steady.waiting _ _).pump

/-- A notice that leaves the queue leaves it from behind full slots (R184). -/
theorem filterQueue_ok (h : k.Ok) (p : QueuedNotice → Bool) : ({ k with queue := k.queue.filter p } : Link).Ok := by
  obtain ⟨hsteady, hfilled⟩ := ok_iff.1 h
  refine ok_iff.2 ⟨hsteady.waiting _ _, fun hup hroom => ?_⟩
  obtain ⟨hanswers, hqueue⟩ := hfilled hup hroom
  exact ⟨hanswers, by simp [hqueue]⟩

/-- A frame sent leaves its slot, which is filled again while the line is UP (R205). -/
theorem sent_ok (h : k.Ok) : k.sent.Ok := by
  unfold sent
  split
  · rename_i f rest hslots
    have hsteady := h.steady
    have htwo := hsteady.two
    split
    · refine Steady.pump ⟨⟨hsteady.start, hsteady.fade, hsteady.long, hsteady.short, hsteady.passed, hsteady.pending, ?_, nofun,
        fun hup hfading => ?_⟩, hsteady.armed⟩
      · rw [hslots] at htwo
        exact (Nat.le_succ _).trans htwo
      · obtain ⟨hnone, -⟩ := hsteady.idle hup hfading
        exact nomatch hslots.symm.trans hnone
    · exact h
  · exact h

/-! ### The moves of the line -/

section Moves

variable {now : Nat}

/-- The inputs are beside the rules of the timers and the slots. -/
theorem Fits.inputs (h : k.Fits) (ready carrier clear : Bool) :
    ({ k with lineReady := ready, carrier := carrier, clearToSend := clear } : Link).Fits :=
  ⟨h.start, h.fade, h.long, h.short, h.passed, h.pending, h.two, h.begun, h.idle⟩

/-- A move between two states other than DROPPING, by what it makes of the start and fade timers (R198). -/
theorem Fits.move (h : k.Fits) (hfrom : k.state ≠ .dropping) {state : LineState} {start fade : Option Nat}
    (hto : state ≠ .dropping) (hstart : start.isSome = true ↔ state = .starting) (hfade : fade.isSome = true ↔ state = .fading)
    (hidle : state ≠ .up → state ≠ .fading → k.slots = [] ∧ k.sending = false) :
    ({ k with state := state, startTimer := start, fadeTimer := fade } : Link).Fits where
  start := hstart
  fade := hfade
  long := by simp [h.long, hfrom, hto]
  short := by simp [h.short, hfrom, hto]
  passed hp := absurd (h.passed hp) hfrom
  pending hp := absurd (h.pending hp) hfrom
  two := h.two
  begun := h.begun
  idle := hidle

theorem Fits.startTimer_none (h : k.Fits) (hstate : k.state ≠ .starting) : k.startTimer = none := by
  simpa [hstate] using h.start

theorem Fits.fadeTimer_none (h : k.Fits) (hstate : k.state ≠ .fading) : k.fadeTimer = none := by
  simpa [hstate] using h.fade

/-- The start completed (R198). -/
theorem Fits.goUp (h : k.Fits) : k.goUp.Fits := by
  unfold Link.goUp
  split
  · rename_i hon
    obtain ⟨hstate, -⟩ := hon
    exact h.move (by simp [hstate]) (by simp) (by simp) (by simp [h.fadeTimer_none, hstate]) (by simp)
  · exact h

theorem goUp_not_armed (h : k.state ≠ .armed) : k.goUp.state ≠ .armed := by
  unfold goUp
  split
  · exact nofun
  · exact h

theorem Steady.goUp (h : k.Steady) : k.goUp.Steady := by
  refine ⟨h.toFits.goUp, ?_⟩
  unfold Link.goUp
  split
  · exact nofun
  · exact h.armed

/-- ARMED led on where line-ready is high (R198). -/
theorem Fits.passOn (h : k.Fits) : (k.passOn now).Steady := by
  unfold Link.passOn
  split
  · rename_i hon
    obtain ⟨hstate, -⟩ := hon
    have hstarting : ({ k with state := .starting, startTimer := some (now + 30000) } : Link).Fits :=
      h.move (by simp [hstate]) (by simp) (by simp) (by simp [h.fadeTimer_none, hstate])
        fun _ _ => h.idle (by simp [hstate]) (by simp [hstate])
    refine ⟨hstarting.goUp, fun harmed => absurd harmed ?_⟩
    exact goUp_not_armed nofun
  · rename_i hoff
    exact ⟨h, fun harmed => Bool.eq_false_iff.2 fun hready => hoff ⟨harmed, hready⟩⟩

/-- An entry into DROPPING of a line that was not dropping (R199). -/
theorem Fits.drop (h : k.Fits) (hstate : k.state ≠ .dropping) (why : DropReason) : (k.drop now why).Steady := by
  have hpassed : k.shortPassed = false := Bool.eq_false_iff.2 fun hp => hstate (h.passed hp)
  exact ⟨⟨by simp [Link.drop], by simp [Link.drop], by simp [Link.drop], by simp [Link.drop, hpassed], fun _ => rfl,
    fun _ => rfl, Nat.zero_le _, nofun, fun _ _ => ⟨rfl, rfl⟩⟩, nofun⟩

/-- A close of a line in use (R201). -/
theorem Fits.pendDrop (h : k.Fits) (hstate : k.state ≠ .dropping) (why : DropReason) :
    (k.pendClose.drop now why).Steady := by
  have hdrop : (k.drop now why).Steady := h.drop hstate why
  exact ⟨⟨hdrop.start, hdrop.fade, hdrop.long, hdrop.short, hdrop.passed, fun _ => rfl, hdrop.two, hdrop.begun, hdrop.idle⟩, nofun⟩

/-- A close of a line that drops (R201). -/
theorem pendClose_ok (h : k.Ok) (hstate : k.state = .dropping) : k.pendClose.Ok := by
  obtain ⟨hsteady, hfilled⟩ := ok_iff.1 h
  exact ok_iff.2 ⟨⟨⟨hsteady.start, hsteady.fade, hsteady.long, hsteady.short, hsteady.passed, fun _ => hstate, hsteady.two,
    hsteady.begun, hsteady.idle⟩, hsteady.armed⟩, hfilled⟩

theorem warm_ok (k : Link) : k.warm.Ok := by
  simp [Ok, warm]

/-- A drop that ends leaves nothing of itself (R198). -/
theorem Fits.ended (h : k.Fits) (hstate : k.state = .dropping) {state : LineState} (hto : state = .down ∨ state = .armed)
    {pending : Bool} (hpending : pending = false) : ({ k with
      dropShort := none, dropLong := none, shortPassed := false, closePending := pending, state := state } : Link).Fits where
  start := by rcases hto with rfl | rfl <;> simp [h.startTimer_none, hstate]
  fade := by rcases hto with rfl | rfl <;> simp [h.fadeTimer_none, hstate]
  long := by rcases hto with rfl | rfl <;> simp
  short := by rcases hto with rfl | rfl <;> simp
  passed := nofun
  pending hp := absurd (hpending.symm.trans hp) Bool.false_ne_true
  two := h.two
  begun := h.begun
  idle _ _ := h.idle (by simp [hstate]) (by simp [hstate])

/-- The end of a drop, to DOWN, or to ARMED and on (R198). -/
theorem Fits.endDrop (h : k.Fits) (hstate : k.state = .dropping) : (k.endDrop now).Steady := by
  unfold Link.endDrop
  dsimp only
  split
  · exact ⟨h.ended hstate (.inl rfl) rfl, nofun⟩
  · rename_i hpending
    exact (h.ended hstate (.inr rfl) (Bool.eq_false_iff.2 hpending)).passOn

/-- The 250 ms timer of a drop run out (R198). -/
theorem Fits.shortExpiry (h : k.Fits) (hstate : k.state = .dropping) : (k.shortExpiry now).Steady := by
  have hpassed : ({ k with dropShort := none, shortPassed := true } : Link).Fits :=
    ⟨h.start, h.fade, h.long, by simp, fun _ => hstate, h.pending, h.two, h.begun, h.idle⟩
  unfold Link.shortExpiry
  dsimp only
  split
  · exact ⟨hpassed, fun harmed => by simp [hstate] at harmed⟩
  · exact hpassed.endDrop hstate

/-- An open of a line that is DOWN (R200). -/
theorem Fits.opened (h : k.Fits) (hstate : k.state = .down) (address rate source mode : Nat) :
    (k.opened now address rate source mode).Steady := by
  have harmed : ({ k with state := .armed } : Link).Fits :=
    h.move (by simp [hstate]) (by simp) (by simp [h.startTimer_none, hstate]) (by simp [h.fadeTimer_none, hstate])
      fun _ _ => h.idle (by simp [hstate]) (by simp [hstate])
  exact Fits.passOn ⟨harmed.start, harmed.fade, harmed.long, harmed.short, harmed.passed, harmed.pending, harmed.two,
    harmed.begun, harmed.idle⟩

/-- The carrier lost while UP (R198). -/
theorem Fits.fading (h : k.Fits) (hstate : k.state = .up) :
    ({ k with state := .fading, fadeTimer := some now } : Link).Steady :=
  ⟨h.move (by simp [hstate]) (by simp) (by simp [h.startTimer_none, hstate]) (by simp) (by simp), nofun⟩

/-- The carrier back while FADING (R198). -/
theorem Fits.unfading (h : k.Fits) (hstate : k.state = .fading) :
    ({ k with state := .up, fadeTimer := none } : Link).Steady :=
  ⟨h.move (by simp [hstate]) (by simp) (by simp [h.startTimer_none, hstate]) (by simp) (by simp), nofun⟩

/-- In DATA ONLY mode the inputs are not read (R197). -/
theorem inputs_ok_of_dataOnly (h : k.Ok) (hmode : k.dataOnly = true) (ready carrier clear : Bool) :
    ({ k with lineReady := ready, carrier := carrier, clearToSend := clear } : Link).Ok := by
  obtain ⟨hsteady, hfilled⟩ := ok_iff.1 h
  refine ok_iff.2 ⟨⟨hsteady.inputs .., fun harmed => ?_⟩, hfilled⟩
  have hlow := hsteady.armed harmed
  simp [readyIn, hmode] at hlow

/-- A change of carrier or clear-to-send is beside what keeps a line ARMED. -/
theorem Steady.inputs (h : k.Steady) (carrier clear : Bool) :
    ({ k with carrier := carrier, clearToSend := clear } : Link).Steady := ⟨h.toFits.inputs .., h.armed⟩

end Moves

end Link

/-! ### Events at the line control machine -/

namespace State

variable {s : State}

/-- An event at the line control machine restores the rules where its own function keeps those of the moves (R198, R205). -/
theorem lineEvent_linkOk {f : State → State} (h : (f s).link.Steady) : (s.lineEvent f).link.Ok :=
  lineEvent_link s f ▸ h.pump

/-- Line-ready as read falls, in FULL mode (R198). -/
theorem lineReadyLow_steady (h : s.link.Fits) (hready : s.link.readyIn = false) : s.lineReadyLow.link.Steady := by
  unfold lineReadyLow
  split
  iterate 3 exact h.drop (by simp [*]) _
  · split
    · exact h.endDrop ‹_›
    · exact ⟨h, fun _ => hready⟩
  iterate 2 exact ⟨h, fun _ => hready⟩

theorem lineReadyHigh_steady (h : s.link.Fits) : s.lineReadyHigh.link.Steady := h.passOn.goUp

theorem carrierChange_steady (h : s.link.Steady) (high : Bool) : (s.carrierChange high).link.Steady := by
  unfold carrierChange
  split
  · exact h.toFits.fading ‹_›
  · exact h.toFits.unfading ‹_›
  · exact h.goUp
  · exact h

/-- A change of an input: the pin's alone in DATA ONLY mode, else an event at the line control machine (R197, R198). -/
theorem pin_linkOk {c : Prop} [Decidable c] {f : Link → Link} {g : State → State} (h : s.link.Ok)
    (hdata : (f s.link).dataOnly = true → (f s.link).Ok)
    (hfull : (f s.link).dataOnly = false → (g (s.updLink f)).link.Steady) :
    (if c then s else if (s.updLink f).link.dataOnly then s.updLink f else (s.updLink f).lineEvent g).link.Ok := by
  split
  · exact h
  · split
    · exact hdata ‹_›
    · exact lineEvent_linkOk (hfull (Bool.eq_false_iff.2 ‹_›))

theorem execLineReady_linkOk {t : State} {high : Bool} (h : s.link.Ok) (ht : execLineReady high s = .next t) : t.link.Ok := by
  injection ht with ht
  subst ht
  refine pin_linkOk h (fun hmode => Link.inputs_ok_of_dataOnly h hmode ..) fun hmode => ?_
  have hfits := h.fits.inputs high s.link.carrier s.link.clearToSend
  cases high with
  | false => exact lineReadyLow_steady hfits (by simpa [Link.readyIn] using hmode)
  | true => exact lineReadyHigh_steady hfits

theorem execCarrier_linkOk {t : State} {high : Bool} (h : s.link.Ok) (ht : execCarrier high s = .next t) : t.link.Ok := by
  injection ht with ht
  subst ht
  exact pin_linkOk h (fun hmode => Link.inputs_ok_of_dataOnly h hmode ..)
    fun _ => carrierChange_steady (h.steady.inputs high s.link.clearToSend) high

theorem execClearToSend_linkOk {t : State} {high : Bool} (h : s.link.Ok) (ht : execClearToSend high s = .next t) :
    t.link.Ok := by
  injection ht with ht
  subst ht
  refine pin_linkOk h (fun hmode => Link.inputs_ok_of_dataOnly h hmode ..) fun _ => ?_
  have hsteady := h.steady.inputs s.link.carrier high
  cases high with
  | false => exact hsteady
  | true => exact hsteady.goUp

end State

end Sys2Proof.Machine

/-! ## What the other blocks hand the link

An answer or a notice joins what waits, and the transmitter goes on; a notice may be taken back (R83, R184, R205). Nothing else
reaches the link but the events of the line, the frames sent and the resets. -/

namespace Sys2Proof.Machine

open Claims

/-- A link that has been handed answers and notices, and whose notices may have been taken back, in any number. -/
inductive Link.Fed (k : Link) : Link → Prop
  | refl : Fed k k
  | answer {k' : Link} (h : Fed k k') (a : OfficeAnswer) : Fed k (k'.takeAnswer a)
  | notice {k' : Link} (h : Fed k k') (n : Notice) : Fed k (Link.pump { k' with queue := placeNotice n k'.queue })
  | removal {k' : Link} (h : Fed k k') (p : QueuedNotice → Bool) : Fed k { k' with queue := k'.queue.filter p }

namespace Link.Fed

variable {k k' k'' : Link}

theorem trans (h : k.Fed k') (h' : k'.Fed k'') : k.Fed k'' := by
  induction h' with
  | refl => exact h
  | answer _ a ih => exact ih.answer a
  | notice _ n ih => exact ih.notice n
  | removal _ p ih => exact ih.removal p

theorem ok (h : k.Fed k') (hk : k.Ok) : k'.Ok := by
  induction h with
  | refl => exact hk
  | answer _ a ih => exact takeAnswer_ok ih a
  | notice _ n ih => exact place_ok ih n
  | removal _ p ih => exact filterQueue_ok ih p

end Link.Fed

namespace State

/-- A change by which the link is handed answers and notices at most. -/
def Feeds (s t : State) : Prop := s.link.Fed t.link

namespace Feeds

variable {s u t : State}

theorem trans (h : Feeds s u) (h' : Feeds u t) : Feeds s t := Link.Fed.trans h h'

/-- What is handed to the link keeps its rules. -/
theorem ok (h : Feeds s t) (hs : s.link.Ok) : t.link.Ok := Link.Fed.ok h hs

theorem of_link (h : t.link = s.link) : Feeds s t := by
  unfold Feeds
  rw [h]
  exact .refl

@[simp] theorem refl : Feeds s s := Link.Fed.refl

theorem of_portSide (h : t.portSide = s.portSide) : Feeds s t := of_link (congrArg PortSide.link h)

theorem ite {c : Prop} [Decidable c] {a b : State} (ha : c → Feeds s a) (hb : ¬ c → Feeds s b) :
    Feeds s (if c then a else b) := by
  split
  · exact ha ‹_›
  · exact hb ‹_›

/-! ### Answers and notices -/

theorem handAnswer (o : Origin) (taken : Bool) (a : Answer) : Feeds s (s.handAnswer o taken a) := by
  cases o
  · exact refl
  · exact Link.Fed.refl.answer _

theorem endWith (s : State) (o : Origin) (a : Answer) : Feeds s (s.endWith o a) := by
  unfold State.endWith
  split
  · exact refl
  · exact ite (fun _ => (of_link (updContext_link ..)).trans (handAnswer ..)) fun _ => of_link (updContext_link ..)

/-- A change beside the ports, then the end of a request. -/
theorem ends (h : u.portSide = s.portSide) (o : Origin) (a : Answer) : Feeds s (u.endWith o a) :=
  (of_portSide h).trans (endWith u o a)

section Ends

variable (h : u.portSide = s.portSide) (o : Origin)

include h

@[simp] theorem complete (d : List Byte) : Feeds s (u.complete o d) := ends h o _
@[simp] theorem found (d : List Byte) : Feeds s (u.found o d) := ends h o _
@[simp] theorem fail (c : ConditionCode) (p : Option Nat) (f : Option FieldRef) : Feeds s (u.fail o c p f) := ends h o _
@[simp] theorem busy : Feeds s (u.busy o) := ends h o _

end Ends

theorem placeFor (o : Origin) (n : Notice) : Feeds s (s.placeFor o n) := by
  cases o
  · exact refl
  · exact Link.Fed.refl.notice n

theorem placeWatched (n : Notice) : Feeds s (s.placeWatched n) :=
  (ite (fun _ => placeFor .station n) fun _ => refl).trans (ite (fun _ => placeFor ..) fun _ => refl)

theorem placeLaneNotice (n : Notice) : Feeds s (s.placeLaneNotice n) := by
  unfold State.placeLaneNotice
  split
  · exact placeFor ..
  · exact placeWatched n

theorem placeLink (n : Notice) : Feeds s (s.placeLink n) := ite (fun _ => placeFor ..) fun _ => refl

/-! ### The decoder and the ports -/

/-- A request in flight forgotten without an answer. -/
theorem forget (h : u.portSide = s.portSide) (o : Origin) : Feeds s (u.updContext o fun c => { c with inFlight := none }) :=
  (of_portSide h).trans (of_link (updContext_link ..))

theorem takeRequest (o : Origin) (r : Request) : Feeds s (s.takeRequest o r) := by
  have hasked : Feeds s (s.withRequest o r) := of_link (updContext_link ..)
  unfold State.takeRequest
  rw [← withRequest]
  exact ite (fun _ => ite (fun _ => hasked.trans (busy rfl o)) fun _ => hasked.trans (of_portSide (by simp))) fun _ => hasked

theorem deliver (o : Origin) (block : List Byte) : Feeds s (s.deliver o block) := by
  have hclear : Feeds s (s.clearCondition o (byteAt block 0).toNat) := of_portSide (by simp)
  unfold State.deliver
  dsimp only
  split
  · exact handAnswer ..
  · split
    · exact hclear.trans ((of_link (updContext_link ..)).trans (handAnswer ..))
    · exact hclear.trans (takeRequest ..)

theorem abortEvent (o : Origin) : Feeds s (s.abortEvent o) := by
  unfold State.abortEvent
  split <;> simp

theorem writeControl (w : Word) : Feeds s (s.writeControl w) := by
  unfold State.writeControl
  dsimp only
  refine trans (ite (fun _ => ?_) fun _ => refl) (trans (ite (fun _ => ?_) fun _ => refl)
    (trans (ite (fun _ => ?_) fun _ => refl) (ite (fun _ => ?_) fun _ => refl)))
  case refine_3 => exact (of_link (updPort_link ..)).trans (abortEvent _)
  all_goals exact of_link (updPort_link ..)

theorem receive (r : Received) : Feeds s (s.receive r) := by
  refine ite (fun _ => ?_) fun _ => refl
  unfold State.takeFrame
  split
  iterate 3 exact refl
  · exact of_portSide (by simp)
  · exact deliver ..
  · exact of_portSide (by simp)
  · exact abortEvent _

/-! ### Requests that do more than end -/

/-- A table request of one claim, by what it does at its turn. -/
theorem tableClaim {o : Origin} {k : State → State} (hk : Feeds (s.serve o) (k (s.serve o))) : Feeds s (s.tableClaim o k) :=
  ite (fun _ => (of_portSide (by simp)).trans hk) fun _ => refl

/-- The start of a table request of several claims, by what it does at its turn. -/
theorem tableBegin {o : Origin} {k : State → State} (hk : Feeds s (k s)) : Feeds s (s.tableBegin o k) :=
  ite (fun _ => hk) fun _ => refl

theorem failHeld (o : Origin) (p : Nat) : Feeds s (s.failHeld o p) := ite (fun _ => by simp) fun _ => by simp

theorem createPass (h : u.portSide = s.portSide) (o : Origin) (a : InsertArgs) (evicted : Option Nat) :
    Feeds s (u.createPass o a evicted) := complete (by simp [h]) o _

theorem insertNew (o : Origin) (a : InsertArgs) : Feeds s (s.insertNew o a) := by
  unfold State.insertNew
  split
  · exact createPass rfl ..
  · split
    · exact createPass (by simp) ..
    · simp

theorem insertOver (o : Origin) (a : InsertArgs) (r : PassRecord) : Feeds s (s.insertOver o a r) := by
  unfold State.insertOver
  (repeat' split) <;> simp [failHeld]

theorem placeHold (o : Origin) (p : Nat) : Feeds s (s.placeHold o p) := by
  unfold State.placeHold
  dsimp only
  (repeat' split) <;> simp [of_portSide, forget]

theorem heldByMe (o : Origin) (p : Nat) {k : PassRecord → State → State} (hk : ∀ r, Feeds s (k r s)) :
    Feeds s (s.heldByMe o p k) := by
  unfold State.heldByMe
  (repeat' split) <;> simp [hk]

theorem settleHeld (o : Origin) (p refunded : Nat) (r : PassRecord) : Feeds s (s.settleHeld o p refunded r) := by
  unfold State.settleHeld
  dsimp only
  (repeat' split) <;> simp

theorem answerPending (p : Nat) : Feeds s (s.answerPending p) := by
  unfold State.answerPending
  (repeat' split) <;> simp

theorem loadFor (o : Origin) (a : LoadArgs) : Feeds s (s.loadFor o a) := by
  unfold State.loadFor
  (repeat' split) <;> simp

theorem collect (o : Origin) (n : Nat) : Feeds s (s.collect o n) := by
  unfold State.collect
  (repeat' split) <;> simp

theorem confirm (o : Origin) (c : Collection) : Feeds s (s.confirm o c) := complete (by simp) o _

theorem discard (o : Origin) (c : Collection) : Feeds s (s.discard o c) := complete (by simp) o _

theorem laneRequest (o : Origin) (mask : LaneMask) (f : LaneEnv → LaneRun → LaneRun) : Feeds s (s.laneRequest o mask f) :=
  complete (by simp) o _

theorem commitRecord (l : LaneNo) (a : Admission) (r : PassRecord) : Feeds s (s.commitRecord l a r) :=
  (of_portSide (by simp)).trans (answerPending _)

theorem withdrawRecord (l : LaneNo) (a : Admission) (r : PassRecord) : Feeds s (s.withdrawRecord l a r) :=
  (of_portSide (by simp)).trans (answerPending _)

/-- An ending claim, by its part at the table and at the settlement unit. -/
theorem endingClaim {l : LaneNo} {k : Admission → PassRecord → State → State} (hk : ∀ a r u, Feeds u (k a r u)) :
    Feeds s (s.endingClaim l k) := by
  have hserve : Feeds s (s.serveLane l) := of_portSide (by simp)
  rw [endingClaim_eq]
  refine trans (u := (s.serveLane l).endPart l k) ?_ (of_portSide (portSide_runLane ..))
  unfold endPart
  (repeat' split)
  · exact hserve.trans (hk ..)
  iterate 2 exact hserve

theorem tick (s : State) : Feeds s (Machine.tick s) := by
  unfold Machine.tick
  (repeat' split) <;> exact of_portSide (by simp)

end Feeds

end State

end Sys2Proof.Machine

/-! ## Every step keeps the rules of the line -/

namespace Sys2Proof

open Machine State

/-- The events of the line: its opening and closing, its inputs and timers, and a frame that has gone. -/
def Instr.movesLine : Instr → Bool
  | .linkOpen .. | .linkClose .. | .lineReady .. | .carrier .. | .clearToSend .. => true
  | .startTimerExpiry | .fadeTimerExpiry | .dropShortExpiry | .dropLongExpiry | .frameSent => true
  | _ => false

/-- Every command that is no event of the line and no reset hands the link answers and notices at most. -/
theorem exec_feeds {i : Instr} (hresets : i.resets = false) (hmoves : i.movesLine = false) {s t : State}
    (h : exec i s = .next t) : Feeds s t := by
  cases i <;> injection h with h <;> subst h
  case coldReset | warmReset => exact nomatch hresets
  case linkOpen | linkClose | lineReady | carrier | clearToSend | startTimerExpiry | fadeTimerExpiry | dropShortExpiry
      | dropLongExpiry | frameSent => exact nomatch hmoves
  case ignoredWrite => exact .refl
  -- one operation beside the ports
  case intervalClose | presence | presentation => exact .of_portSide (by simp)
  -- the same, where the event can occur
  case operatingSecondAdvance | rollover | readerSilence | passageWindowExpiry | passingLimitExpiry | missWaitExpiry | toneEnd
      | lampBlink | beamSettle | beamBreak | beamRestore | lapseTimerExpiry | collectionVoid | lineDropAtLanes
      | discardedReaderMessage | pacingStart | pacingEnd | tallyEvent =>
    split <;> exact .of_portSide (by simp)
  -- claims of lanes, of the settlement unit and of the table engine itself
  case decisionClaim | sweepStep => (repeat' split) <;> exact .of_portSide (by simp)
  case lapseClaim =>
    dsimp only
    (repeat' split) <;> exact .of_portSide (by simp)
  case commitClaim => exact .ite (fun _ => .endingClaim fun _ _ _ => .commitRecord ..) fun _ => .refl
  case withdrawClaim => exact .ite (fun _ => .endingClaim fun _ _ _ => .withdrawRecord ..) fun _ => .refl
  case clearStep => (repeat' split) <;> simp [Feeds.of_portSide]
  -- requests that are no table requests
  case clockRead | holdListRead | linkStatus | readyCheck | profileRead | conditionRead | markWarm | tallyProgram | tallyRead
      | tallyClear | laneStatus | profileSet | watchSet | historyRead =>
    (repeat' split) <;> simp
  case laneOpen | laneClose | laneReset => (repeat' split) <;> simp [Feeds.laneRequest]
  case clockSet =>
    dsimp only
    (repeat' split) <;> simp [Feeds.of_portSide]
  -- table requests, which act at their turn
  case passInsert | passRead | passDrop | tableSize | tableClear | revokeRead | refundHold | usageCollect | usageConfirm =>
    split
    · refine .tableClaim ?_
      (repeat' split) <;> simp [Feeds.of_portSide, Feeds.insertNew, Feeds.insertOver, Feeds.failHeld, Feeds.placeHold,
        Feeds.collect, Feeds.confirm, Feeds.discard]
    · exact .refl
  case revokeLoad =>
    split
    · split
      · exact .tableClaim (.loadFor ..)
      · exact .refl
    · (repeat' split) <;> exact .of_portSide (by simp)
  case refundSettle | refundRelease =>
    split
    · refine .tableClaim ?_
      (repeat' split) <;> simp [Feeds.heldByMe, Feeds.settleHeld]
    · exact .refl
  case passFind | dayMerge =>
    split
    · refine .tableBegin ?_
      (repeat' split) <;> simp [Feeds.of_portSide]
    · exact .refl
  case passFindStep | dayMergeEntry =>
    dsimp only
    (repeat' split) <;> simp [Feeds.of_portSide]
  -- notices
  case noticePlacement =>
    (repeat' split)
    · exact Feeds.trans (.of_link (updDecoder_link ..)) (.placeLaneNotice _)
    · exact .refl
    · exact Feeds.trans (.of_link (updDecoder_link ..)) (.placeWatched _)
    · exact .refl
    · exact Feeds.trans (.of_link (updDecoder_link ..)) (.placeFor ..)
    · exact .refl
    · exact Feeds.trans (.of_link (updDecoder_link ..)) (.placeLink _)
    · exact .refl
    · exact Feeds.trans (.of_link (updDecoder_link ..)) (.placeFor ..)
    · exact .refl
  case missNoticeRemoval =>
    split
    · exact Link.Fed.refl.removal _
    · exact .refl
  -- the station port and the frames received
  case request | abort | outputTaken | errorClear => exact .writeControl _
  case requestWindow =>
    dsimp only
    (repeat' split)
    · exact Feeds.trans (.of_link (updPort_link ..)) (.deliver ..)
    iterate 2 exact .of_link (updPort_link ..)
  case outputWindow => exact .of_link (updPort_link ..)
  case shortTransfer | badCommandByte => exact .ite (fun _ => .of_link (updPort_link ..)) fun _ => .refl
  case requestFrame | broadcast | abortFrame | frameDiscarded | broadcastAbort => exact .receive _

/-! ### The events of the line -/

theorem isSome_of_due {now : Nat} {timer : Option Nat} (h : due now timer = true) : timer.isSome = true := by
  cases timer with
  | none => exact h
  | some _ => rfl

/-- A timer's expiry at the line control machine, by what it does where the timer runs (R198). -/
theorem timer_linkOk {s : State} {timer : Option Nat} {f : State → State} (hs : s.link.Ok)
    (hf : timer.isSome = true → (f s).link.Steady) : (if due s.now timer then s.lineEvent f else s).link.Ok := by
  split
  · exact lineEvent_linkOk (hf (isSome_of_due ‹_›))
  · exact hs

section Requests

variable {s t : State} {o : Origin} (hs : s.link.Ok)

include hs

theorem execLinkOpen_linkOk (h : execLinkOpen o s = .next t) : t.link.Ok := by
  injection h with h
  subst h
  split
  · split
    · exact Feeds.ok (.fail rfl ..) hs
    · split
      · exact Feeds.ok (.fail rfl ..) hs
      · rename_i hdown
        exact Feeds.ok (.complete rfl ..) (lineEvent_linkOk (hs.fits.opened (not_not.1 hdown) ..))
  · exact hs

/-- A close of a line in use drops it; of one that drops it is made pending (R201). -/
theorem execLinkClose_linkOk (h : execLinkClose o s = .next t) : t.link.Ok := by
  have hdropped (hdrop : s.link.state ≠ .dropping) :
      (s.lineEvent fun u => (u.updLink Link.pendClose).enterDropping .close).link.Ok := lineEvent_linkOk (hs.fits.pendDrop hdrop _)
  injection h with h
  subst h
  split
  · split
    · exact Feeds.ok (.fail rfl ..) hs
    iterate 4 exact Feeds.ok (.complete rfl ..) (hdropped (by simp [*]))
    · split
      · exact Feeds.ok (.fail rfl ..) hs
      · exact Feeds.ok (.complete rfl ..) (Link.pendClose_ok hs ‹_›)
  · exact hs

end Requests

theorem exec_linkOk {i : Instr} {s t : State} (hs : s.link.Ok) (h : exec i s = .next t) : t.link.Ok := by
  cases hresets : i.resets with
  | true =>
    cases i with
    | coldReset =>
      injection h with h
      exact h ▸ Link.initial_ok ..
    | warmReset =>
      injection h with h
      exact h ▸ Link.warm_ok _
    | _ => exact nomatch hresets
  | false =>
    cases hmoves : i.movesLine with
    | false => exact (exec_feeds hresets hmoves h).ok hs
    | true =>
      cases i with
      | linkOpen => exact execLinkOpen_linkOk hs h
      | linkClose => exact execLinkClose_linkOk hs h
      | lineReady => exact execLineReady_linkOk hs h
      | carrier => exact execCarrier_linkOk hs h
      | clearToSend => exact execClearToSend_linkOk hs h
      | startTimerExpiry =>
        injection h with h
        exact h ▸ timer_linkOk hs fun hruns => hs.fits.drop (by simp [hs.fits.start.1 hruns]) _
      | fadeTimerExpiry =>
        injection h with h
        exact h ▸ timer_linkOk hs fun hruns => hs.fits.drop (by simp [hs.fits.fade.1 hruns]) _
      | dropShortExpiry =>
        injection h with h
        exact h ▸ timer_linkOk hs fun hruns => hs.fits.shortExpiry (hs.fits.short.1 hruns).1
      | dropLongExpiry =>
        injection h with h
        exact h ▸ timer_linkOk hs fun hruns => hs.fits.endDrop (hs.fits.long.1 hruns)
      | frameSent =>
        injection h with h
        exact h ▸ Link.sent_ok hs
      | _ => exact nomatch hmoves

/-- Settles O56: each move of the line keeps its timers in their states and the transmitter then fills the slots; what other blocks
hand the link fills them too. -/
theorem theLineStaysConsistent : Obligations.TheLineStaysConsistent := by
  intro s t hs h
  unfold step at h
  split at h
  · injection h with h
    exact h ▸ (Feeds.tick s).ok hs
  · rename_i rest _
    exact exec_linkOk (s := { s with pending := rest }) hs h

end Sys2Proof

/-! ## Steps and the queue

A step takes the command at the front of the queue, and what that command does leaves the commands behind it: every meaning is built
of shared operations that leave the queue, run where the event can occur and at the turn of the claim. -/

namespace Sys2Proof.Machine.State

variable {s : State} {o : Origin}

theorem tableClaim_pending {k : State → State} (hk : ∀ u : State, (k u).pending = u.pending) :
    (s.tableClaim o k).pending = s.pending := by
  unfold tableClaim
  split
  · simp [hk]
  · rfl

theorem tableBegin_pending {k : State → State} (hk : ∀ u : State, (k u).pending = u.pending) :
    (s.tableBegin o k).pending = s.pending := by
  unfold tableBegin
  split
  · exact hk s
  · rfl

theorem heldByMe_pending {p : Nat} {k : PassRecord → State → State} (hk : ∀ r, (k r s).pending = s.pending) :
    (s.heldByMe o p k).pending = s.pending := by
  unfold heldByMe
  (repeat' split) <;> simp [hk]

theorem endingClaim_pending {l : LaneNo} {k : Admission → PassRecord → State → State}
    (hk : ∀ a r u, (k a r u).pending = u.pending) : (s.endingClaim l k).pending = s.pending := by
  rw [endingClaim_eq]
  unfold endPart
  (repeat' split) <;> simp [hk]

@[simp] theorem lineEvent_pending (f : State → State) : (s.lineEvent f).pending = (f s).pending := by
  simp [lineEvent_frame]

end Sys2Proof.Machine.State

namespace Sys2Proof

open Machine State

/-- What waits in the queue is the sender's: the meaning of a command, the two resets among them, carries it on. -/
theorem exec_pending {c : Instr} {s t : State} (h : exec c s = .next t) : t.pending = s.pending := by
  cases c <;> injection h with h <;> subst h
  case coldReset | warmReset | ignoredWrite => rfl
  -- one shared operation
  case intervalClose | presence | presentation | request | outputTaken | abort | errorClear | outputWindow | frameSent
      | requestFrame | broadcast | abortFrame | frameDiscarded | broadcastAbort => simp
  -- the same, where the event can occur
  case operatingSecondAdvance | rollover | readerSilence | passageWindowExpiry | passingLimitExpiry | missWaitExpiry | toneEnd
      | lampBlink | beamSettle | beamBreak | beamRestore | lapseTimerExpiry | shortTransfer | badCommandByte | collectionVoid
      | lineDropAtLanes | discardedReaderMessage | pacingStart | pacingEnd | tallyEvent => split <;> simp
  -- requests that are no table requests, and the decoder
  case clockRead | holdListRead | linkStatus | readyCheck | profileRead | conditionRead | markWarm | laneOpen | laneClose
      | laneReset | laneStatus | tallyProgram | tallyRead | tallyClear | historyRead | profileSet | watchSet | noticePlacement
      | missNoticeRemoval => (repeat' split) <;> simp
  case clockSet | requestWindow =>
    dsimp only
    (repeat' split) <;> simp
  -- claims of lanes, of the settlement unit and of the table engine itself
  case commitClaim | withdrawClaim =>
    split
    · exact endingClaim_pending (by simp)
    · rfl
  case decisionClaim | sweepStep | clearStep => (repeat' split) <;> simp
  case lapseClaim | passFindStep | dayMergeEntry =>
    dsimp only
    (repeat' split) <;> simp
  -- table requests, which act at their turn
  case passInsert | passRead | passDrop | tableSize | tableClear | revokeRead | refundHold | usageCollect | usageConfirm =>
    split
    · refine tableClaim_pending fun u => ?_
      (repeat' split) <;> simp
    · rfl
  case revokeLoad =>
    split
    · split
      · exact tableClaim_pending (by simp)
      · rfl
    · (repeat' split) <;> simp
  case refundSettle | refundRelease =>
    split
    · refine tableClaim_pending fun u => ?_
      (repeat' split) <;> simp [heldByMe_pending]
    · rfl
  case passFind | dayMerge =>
    split
    · refine tableBegin_pending fun u => ?_
      (repeat' split) <;> simp
    · rfl
  -- events at the line control machine
  case startTimerExpiry | fadeTimerExpiry | dropShortExpiry | dropLongExpiry => split <;> simp
  case lineReady | carrier | clearToSend =>
    dsimp only
    (repeat' split) <;> simp
  case linkOpen | linkClose => (repeat' split) <;> simp

/-- Settles O3: every command's meaning is built of operations that leave the queue. -/
theorem execLeavesTheQueue : Obligations.ExecLeavesTheQueue :=
  fun _ _ _ h => exec_pending h

/-- Settles O1: a step looks at the queue alone to choose its command. -/
theorem stepRunsFrontCommand : Obligations.StepRunsFrontCommand := by
  intro c rest s hpending
  unfold step
  rw [hpending]

end Sys2Proof
